-- ==== Sys2Proof/Word.lean ====
section
/-! DEFINITION. The word types of the station: bytes of frames and port records, the 16-bit and 32-bit counts that wrap. -/

namespace Sys2Proof

/-- A byte of a frame or of a port record, or a number that counts modulo 256 (claim numbers, hold sequences, event
sequences, snapshot numbers; spec/00 "Units and ranges"). -/
abbrev Byte := BitVec 8

/-- A 16-bit number: the millisecond count (R139), an event value (R161), the check value (R109). -/
abbrev Half := BitVec 16

/-- A 32-bit number: the share-time meter (R148). -/
abbrev Quad := BitVec 32

end Sys2Proof
end

