-- ==== Sys2Proof/Syntax.lean ====
section
/-! DEFINITION. The commands: one constructor for each row of spec/opcode_table.json, in the table's order, and the
types of their operands. -/

namespace Sys2Proof

/-- The strap pins as sampled at reset end (R26): station number SN4 to SN0, its parity pin SNP, capacity class
CC3 to CC0, lease select LS1 and LS0. -/
structure Straps where
  sn  : BitVec 5
  snp : Bool
  cc  : BitVec 4
  ls  : BitVec 2
  deriving DecidableEq, Repr

/-- A configuration record as the port receives it (R185, layout R192): raw fields, judged when taken. -/
structure ConfigRecord where
  floor     : Byte
  priority  : Byte
  fullScale : Half
  polarity  : Byte
  watchdog  : Byte
  filter    : Byte
  steering  : Half
  deriving DecidableEq, Repr

/-- The status of a table entry (R2). -/
inductive EntryStatus
  | absent | pendingJoin | member | silent
  deriving DecidableEq, Repr

/-- The kind of a claim, and of the earmark set aside for it (R1, R52). -/
inductive ClaimKind
  | floor | increase
  deriving DecidableEq, Repr

/-- The parity-protected part of an earmark (R1); its expiry count lies in the entry's side part. -/
structure Earmark where
  kind   : ClaimKind
  number : Byte
  amount : Nat
  deriving DecidableEq, Repr

/-- The stored part of a table entry: the fields marked "stored" in the table of R1. -/
structure Stored where
  status     : EntryStatus
  held       : Nat
  floor      : Nat
  priority   : Nat
  holdSeq    : Byte
  openClaim  : Option Byte
  earmark    : Option Earmark
  localFault : Bool
  overdrawn  : Bool
  deriving DecidableEq, Repr

/-- An upset of the parity-protected storage: the stored part of one station's entry now reads `stored`, and its
parity is wrong (R21; log 6). -/
structure Upset where
  station : Fin 24
  stored  : Stored
  deriving DecidableEq, Repr

/-- The blocks that take a tick, each as an event of its own (R137); the Pilot Unit's taking of it is PILOT_PERIOD_START. -/
inductive TickBlock
  | shareTable | allocation | timeBase
  deriving DecidableEq, Repr

/-- The three of them. -/
def TickBlock.all : List TickBlock := [.shareTable, .allocation, .timeBase]

/-- What a TICK is (R136, R137; log 4). -/
inductive TickEvent
  /-- The Time Base issues a tick, which the blocks of `blocks` take in the same step, in that order; `upsets` are the
  failures of the table's storage in the millisecond that ends (log 6). -/
  | issued (upsets : List Upset) (blocks : List TickBlock)
  /-- The blocks of `blocks` take the tick issued, in that order. -/
  | taken (blocks : List TickBlock)
  deriving DecidableEq, Repr

/-- The blocks that take a lease boundary, each as an event of its own (R141). -/
inductive Block
  | shareTable | membership | allocation | outbox
  deriving DecidableEq, Repr

/-- The four of them. -/
def Block.all : List Block := [.shareTable, .membership, .allocation, .outbox]

/-- The levels of FAULT_IN and LOAD_IN at a tick (R149): true is asserted. -/
structure LoadLevels where
  faultIn : Bool
  loadIn  : Bool
  deriving DecidableEq, Repr

/-- A hand-over to the Pilot Unit: of the drive level by the Allocation Engine, or of the station state by the Membership
Controller (R154). -/
inductive Handover
  | drive | station
  deriving DecidableEq, Repr

/-- The commands. Where a row's step is caused by the station itself, the operand names only what the step concerns;
where the outside supplies data, the operand carries it. -/
inductive Instr
  /-- RST_N_ASSERTED (R25). -/
  | rstNAsserted
  /-- POWER_UP (R25). -/
  | powerUp
  /-- RESET_END (R26): RST_N is high, and the straps are sampled if no internal reset remains (log 3). -/
  | resetEnd (straps : Straps)
  /-- CUT_MARK_END (R115). -/
  | cutMarkEnd
  /-- TICK (R136): a tick is issued, or taken by some blocks. -/
  | tick (event : TickEvent)
  /-- LEASE_BOUNDARY (R141): the blocks of `order` take the boundary, in that order (log 5). -/
  | leaseBoundary (order : List Block)
  /-- EARMARK_EXPIRY (R16) of the earmark on this station's entry. -/
  | earmarkExpiry (station : Fin 24)
  /-- RESPONSE_WINDOW_PASSED (R57). -/
  | responseWindowPassed
  /-- COMMIT_DEADLINE_PASSED (R60). -/
  | commitDeadlinePassed
  /-- BACKOFF_END (R65). -/
  | backoffEnd
  /-- ANSWER_DEADLINE (R77) of one ANSWER slot. -/
  | answerDeadline (slot : Fin 4)
  /-- WATCHDOG_EXPIRED (R145). -/
  | watchdogExpired
  /-- PILOT_PERIOD_START (R151), with the levels of FAULT_IN and LOAD_IN at the tick (R149); `between` names the one
  hand-over taken before it, where it falls between the two hand-overs of a change of state (R154). -/
  | pilotPeriodStart (levels : LoadLevels) (between : Option Handover)
  /-- FAULT_IN_CHANGE (R150). -/
  | faultInChange
  /-- TX_INHIBIT_ASSERTED (R116). -/
  | txInhibitAsserted
  /-- TX_INHIBIT_DEASSERTED (R116). -/
  | txInhibitDeasserted
  /-- LINE_OFFER (R111). -/
  | lineOffer
  /-- ATTEMPT_COMPLETED (R114). -/
  | attemptCompleted
  /-- ATTEMPT_COLLIDED (R113). -/
  | attemptCollided
  /-- FRAME_HEADER (R104). -/
  | frameHeader
  /-- SKIP_END (R107). -/
  | skipEnd
  /-- FRAME_VERDICT (R105). -/
  | frameVerdict
  /-- HOLD_RECEIVED (R9). -/
  | holdReceived
  /-- FAREWELL_RECEIVED (R12). -/
  | farewellReceived
  /-- ANNOUNCE_RECEIVED (R72). -/
  | announceReceived
  /-- CLAIM_RECEIVED (R69). -/
  | claimReceived
  /-- ASSENT_RECEIVED (R57). -/
  | assentReceived
  /-- OBJECT_RECEIVED (R78). -/
  | objectReceived
  /-- TRANSACTION_START (R177): SEL_N falls, and bits are taken from SDI (log 16). -/
  | transactionStart
  /-- TRANSACTION_END (R177): SEL_N rises after `shifted` response bits have been shifted out. -/
  | transactionEnd (shifted : Nat)
  /-- UNKNOWN_COMMAND (R178): the first byte names no request. -/
  | unknownCommand (code : Byte)
  /-- STATUS (R181). -/
  | status
  /-- FEED (R144). -/
  | feed
  /-- ACK_ALERT (R169). -/
  | ackAlert
  /-- EVENT_PEEK (R171). -/
  | eventPeek
  /-- EVENT_POP (R172). -/
  | eventPop
  /-- SNAPSHOT (R187). -/
  | snapshot
  /-- SNAPSHOT_TAKEN (R23). -/
  | snapshotTaken
  /-- ENTRY_READ n (R188). -/
  | entryRead (n : Byte)
  /-- METER_READ with its clear flag byte (R157). -/
  | meterRead (flag : Byte)
  /-- HARD_RESET (R190). -/
  | hardReset
  /-- CONFIGURE (R182, R185). -/
  | configure (record : ConfigRecord)
  /-- STATE_REQUEST with its target byte (R45). -/
  | stateRequest (target : Byte)
  /-- DEMAND with its 16-bit target (R182). -/
  | demand (target : Half)
  /-- CONFIGURE_TAKEN (R186). -/
  | configureTaken
  /-- STATE_REQUEST_ACTIVE_TAKEN (R46). -/
  | stateRequestActiveTaken
  /-- STATE_REQUEST_DETACHED_TAKEN (R47). -/
  | stateRequestDetachedTaken
  /-- DEMAND_TAKEN (R80). -/
  | demandTaken
  /-- SYNC_PATTERN_MATCH (R102). -/
  | syncPatternMatch
  /-- LINE_BIT_TAKEN (R110): the level taken from LINE_RX, recessive or dominant. -/
  | lineBitTaken (recessive : Bool)
  /-- LINE_RX_EDGE (R100). -/
  | lineRxEdge
  deriving DecidableEq, Repr

end Sys2Proof
end

