-- ==== Sys2Proof/Decode.lean ====
section
/-! DEFINITION. The table's words: no row of spec/opcode_table.json gives bits, so no word spells a command. The byte
layouts of frames (spec/12 section 12.1) are in Machine/Frames.lean, those of the port's requests (R192) in
Machine/Operands.lean. -/

namespace Sys2Proof

/-- The command that a word spells by the table's bits: no row has any (log 19). -/
def decodeTableWord (_nbits _w : Nat) : Option Instr := none

end Sys2Proof
end

