-- ==== Sys2Proof/Machine/Bytes.lean ====
section
/-! DEFINITION. Bytes, bits and the check value: the byte order of frames and records (spec/12: high byte first), the bit
order of the line (R101: least significant bit first) and of the port (R177: most significant bit first). -/

namespace Sys2Proof.Machine

/-- A number in one byte. -/
def byteOf (n : Nat) : Byte := BitVec.ofNat 8 n

/-- A number in two bytes, high byte first. -/
def halfBytes (n : Nat) : List Byte := [byteOf (n / 256), byteOf n]

/-- A number in four bytes, high byte first. -/
def quadBytes (n : Nat) : List Byte := [byteOf (n / 16777216), byteOf (n / 65536), byteOf (n / 256), byteOf n]

/-- The number that two bytes carry, high byte first. -/
def ofHalfBytes (hi lo : Byte) : Nat := hi.toNat * 256 + lo.toNat

/-- A flag in a byte of its own (R193). -/
def flagByte (b : Bool) : Byte := if b then 1 else 0

/-- An optional number in one byte: absent is sent as 0 (R193). -/
def optByte (n : Option Byte) : Byte := n.getD 0

/-- The bits of a byte as the line carries them, least significant first (R101). -/
def bitsLsb (b : Byte) : List Bool :=
  [b.getLsbD 0, b.getLsbD 1, b.getLsbD 2, b.getLsbD 3, b.getLsbD 4, b.getLsbD 5, b.getLsbD 6, b.getLsbD 7]

/-- The byte whose bits came off the line in this order. -/
def byteOfBits (bs : List Bool) : Byte :=
  byteOf (bs.foldr (fun b n => 2 * n + b.toNat) 0)

/-- The bits of a sequence of bytes in line order (R101). -/
def lineBits (bytes : List Byte) : List Bool := bytes.flatMap bitsLsb

/-- The bits of a byte as the port shifts them, most significant first (R177). -/
def bitsMsb (b : Byte) : List Bool := (bitsLsb b).reverse

/-- The bits of a sequence of bytes as the port shifts them (R177). -/
def portBits (bytes : List Byte) : List Bool := bytes.flatMap bitsMsb

/-- The byte whose bits the port took in this order (R177). -/
def byteOfPortBits (bs : List Bool) : Byte := byteOfBits bs.reverse

/-- `n` bytes read from line bits. -/
def bytesOfBits : Nat → List Bool → List Byte
  | 0, _ => []
  | n + 1, bs => byteOfBits (bs.take 8) :: bytesOfBits n (bs.drop 8)

/-- One bit of the check value (R109): the register's most significant bit is combined with the incoming bit, the
register is shifted towards its most significant end, and 8005h is combined in when the combination was 1. -/
def checkBit (register : Half) (bit : Bool) : Half :=
  if register.msb != bit then (register <<< 1) ^^^ 0x8005 else register <<< 1

/-- The check value of a sequence of bytes (R109): the register starts at FFFFh. -/
def checkValue (bytes : List Byte) : Half := (lineBits bytes).foldl checkBit 0xFFFF

/-- The three bytes of a set of stations, station n at bit n of a 24-bit number (R193). -/
def stationSetBytes (set : List Nat) : List Byte :=
  let n := set.foldl (fun n k => n ||| 2 ^ k) 0
  [byteOf (n / 65536), byteOf (n / 256), byteOf n]

end Sys2Proof.Machine
end

