-- ==== Sys2Proof/Config.lean ====
section
/-! DEFINITION. What the manual fixes for every FS24 as plain numbers, and the one choice it leaves open. -/

namespace Sys2Proof.Config

/-- Stations on a feed, and entries of the share table (R1). -/
def stations : Nat := 24

/-- Largest share, demand, amount in SU (R79, R105). -/
def maxShare : Nat := 6400

/-- Largest floor in SU (R105, R185). -/
def maxFloor : Nat := 250

/-- Entries of the event queue (R160). -/
def queueDepth : Nat := 64

/-- Unread entries at which ATTN_N is asserted whatever their classes (R167). -/
def attnThreshold : Nat := 32

/-- Requests of the command FIFO (R182). -/
def fifoDepth : Nat := 8

/-- Attempts a slot may spend (R130, R131). -/
def maxAttempts : Nat := 16

/-- Expiry of a new earmark, in ms (R16). -/
def earmarkExpiry : Nat := 64

/-- Response window and answer deadline, in ms (R55, R68). -/
def responseWindow : Nat := 24

/-- Commit deadline, in ms (R55). -/
def commitDeadline : Nat := 48

/-- Lease boundaries without a HOLD after which a member is SILENT (R18), and after which an entry is released (R19). -/
def silentAge : Nat := 4
def absentAge : Nat := 8

/-- Own lease boundaries without a completed HOLD at which the station fences (R40). -/
def fenceSilence : Nat := 3

/-- Lease boundaries of the census (R31) and of the join retry (R36). -/
def censusEnd : Nat := 2
def retryEnd : Nat := 4

/-- OSC_IN periods of one tick, of one pilot period and of an internal reset (R136, R148). -/
def tickPeriods : Nat := 4096

/-- Bit times from the end of the start byte to the end of SKIP (R107). -/
def skipBits : Nat := 97

/-- Top of the line-idle timer (R110). -/
def idleTop : Nat := 255

/-- FREE VALUE (log 9). A commit attempt is reported COLLIDED or CUT after its claim's deadline has passed, with the
demand target at or below own held. R60 lapses the claim at that report, R63 abandons it at the same report, and no
rule says which. `true`: it lapses; `false`: it is abandoned with DEMAND_DROP. Nothing constrains the constant. -/
opaque lapseBeforeDrop : Bool

/-- FREE VALUE (log 29). The level on SDO while SEL_N is low and no bit of a response has been shifted out yet, by the
number of bits taken from SDI: R177 gives SDO no level there. Nothing constrains the constant. -/
opaque sdoBeforeResponse : Nat → Bool

end Sys2Proof.Config
end

