-- ==== Sys2Proof/Machine/State.lean ====
section
/-! DEFINITION. The state of the station: the nine blocks with every register, slot, count and flag the manual gives
them, the reset logic, and the queue of commands. Reset values after R3, R25, R79, R119, R136 to R142, R148, R160,
R176; log 10 names those the manual does not state. -/

namespace Sys2Proof.Machine

/-! ## Membership Controller (spec/02) -/

/-- The eleven station states (R25, section 2.1). -/
inductive StationState
  | reset | monitor | offline | census | joining | waiting | active | leaving | detached | fenced | fault
  deriving DecidableEq, Repr

/-- The identity latched from the straps at reset end (R26). -/
structure Identity where
  number        : Nat
  valid         : Bool
  capacityClass : Nat
  leaseSelect   : Nat
  deriving DecidableEq, Repr

/-- The target of a STATE_REQUEST (R45). -/
inductive Target
  | active | detached
  deriving DecidableEq, Repr

/-- The pending-request record (R45): the request accepted and not yet resolved, whether it has been taken, and whether
a DETACHED is pending behind a taken ACTIVE. -/
structure PendingRequest where
  first  : Option Target
  taken  : Bool
  behind : Bool
  deriving DecidableEq, Repr

/-- The queued commands (R182). -/
inductive QueuedCommand
  | configure | stateRequest | demand
  deriving DecidableEq, Repr

/-- How a queued command ended (R193, "Command resolutions"). -/
inductive CommandResult
  | done | failed | cancelled | locked | notConfigured | badValue | watchdogLocked
  deriving DecidableEq, Repr

/-- A resolution as events and STATUS report it (R48, R80, R193). -/
inductive Resolution
  /-- A DEMAND taken, with its target. -/
  | demandTaken (target : Nat)
  /-- Every other resolution: the command, its target for a STATE_REQUEST, the result. -/
  | command (command : QueuedCommand) (target : Option Target) (result : CommandResult)
  deriving DecidableEq, Repr

/-- What the Membership Controller holds (R25). -/
structure Membership where
  station        : StationState
  identity       : Identity
  census         : Nat
  retry          : Nat
  configured     : Bool
  request        : PendingRequest
  lastResolution : Option Resolution
  duplicate      : Bool
  deriving DecidableEq, Repr

/-! ## Share Table (spec/01) -/

/-- A table entry (R1): the stored part, whether its parity is right, and the side part. -/
structure Entry where
  stored     : Stored
  parityGood : Bool
  age        : Nat
  expiry     : Nat
  suspect    : Bool
  deriving DecidableEq, Repr

/-- The quantities that the Share Table keeps over its entries (R6, R23), as its last update left them (R7): Σheld,
Σearmark, Σfloor, room, and the numbers of valid and of SUSPECT entries. -/
structure Sums where
  held    : Nat
  earmark : Nat
  floor   : Nat
  room    : Nat
  valid   : Nat
  suspect : Nat
  deriving DecidableEq, Repr

/-- What the Share Table holds (R1, R7, R8, R24). -/
structure ShareTable where
  entries      : List Entry
  sums         : Sums
  overcommit   : Bool
  nextSnapshot : Byte
  deriving DecidableEq, Repr

/-! ## Allocation Engine (spec/03, spec/04) -/

/-- The phase of the own claim (R52). -/
inductive Phase
  | sending | awaiting | committing
  deriving DecidableEq, Repr

/-- Why an own claim failed or was abandoned: the OBJECT reasons and those R193 adds to them. -/
inductive EndReason
  | noRoom | notMember | suspect | busy | silentPeer | floorsFull | mismatch
  | noAnswer | txFailed | demandDrop | overcommit | yielded | stateChange
  deriving DecidableEq, Repr

/-- The own claim record (R52). The roll is empty in SENDING, where the manual calls it absent. `inFlight` is the
commit attempt (NONE or IN_FLIGHT); `deadlinePassed` says that the commit deadline has passed while it was IN_FLIGHT
(R60). -/
structure ClaimRecord where
  kind           : ClaimKind
  number         : Byte
  amount         : Nat
  phase          : Phase
  roll           : List Nat
  assents        : List Nat
  window         : Nat
  deadline       : Nat
  inFlight       : Bool
  deadlinePassed : Bool
  deriving DecidableEq, Repr

/-- The own share record (R79). -/
structure ShareRecord where
  held         : Nat
  lastTx       : Nat
  floor        : Nat
  priority     : Nat
  demand       : Nat
  holdSeq      : Byte
  claimCounter : Byte
  silence      : Nat
  failures     : Nat
  backoff      : Option Nat
  deriving DecidableEq, Repr

/-- What the HOLD attempt last started carried (R79, R127): held, floor, LOCAL_FAULT, OPEN_CLAIM; the claim number if it
was assembled as the commit HOLD; whether it was assembled after the last cut of R73. -/
structure HoldAttempt where
  held       : Nat
  floor      : Nat
  localFault : Bool
  openClaim  : Option Byte
  commit     : Option Byte
  afterCut   : Bool
  deriving DecidableEq, Repr

/-- What the Allocation Engine holds (R52, R79). The deadlines of the ANSWER slots stand in the slots. -/
structure Allocation where
  share       : ShareRecord
  claim       : Option ClaimRecord
  holdAttempt : Option HoldAttempt
  deriving DecidableEq, Repr

/-! ## Outbox (spec/06) -/

/-- The occupancy of a slot (R119). -/
inductive Occupancy
  | empty | reserved | filled
  deriving DecidableEq, Repr

/-- The seven reasons of an OBJECT (R191). -/
inductive ObjectReason
  | noRoom | notMember | suspect | busy | silentPeer | floorsFull | mismatch
  deriving DecidableEq, Repr

/-- The content of an ANSWER slot (R119). -/
inductive Answer
  | assent
  | object (reason : ObjectReason)
  deriving DecidableEq, Repr

/-- The HOLD slot (R119). -/
structure HoldSlot where
  occupancy : Occupancy
  attempts  : Nat
  inFlight  : Bool
  resting   : Bool
  deriving DecidableEq, Repr

/-- The CLAIM slot (R119): its content is ANNOUNCE for a FLOOR claim and CLAIM for an INCREASE claim. -/
structure ClaimSlot where
  occupancy : Occupancy
  key       : Option Byte
  content   : Option ClaimKind
  attempts  : Nat
  inFlight  : Bool
  deriving DecidableEq, Repr

/-- An ANSWER slot (R119), with the deadline that the Allocation Engine holds for it (R79). `rewritten` is the model's own
field: a decision has replaced the content that the attempt in flight was sent for, so that the attempt's outcome is not
counted against what the slot holds now (R129, R130; log 26). -/
structure AnswerSlot where
  occupancy   : Occupancy
  key         : Option (Nat × Byte)
  content     : Option Answer
  attempts    : Nat
  inFlight    : Bool
  waitingShed : Bool
  expired     : Bool
  deadline    : Option Nat
  rewritten   : Bool
  deriving DecidableEq, Repr

/-- What the Outbox holds (R119): the slots and the answer list, oldest decision first. -/
structure Outbox where
  hold       : HoldSlot
  claim      : ClaimSlot
  answers    : List AnswerSlot
  answerList : List Nat
  deriving DecidableEq, Repr

/-! ## Line Interface (spec/05) and frames (spec/12) -/

/-- The fields of a HOLD (R191). A flag and the claim number that goes with it are one field here: `commit` is absent
when the COMMIT flag is clear, `openClaim` when OPEN_CLAIM is. -/
structure HoldFields where
  seq        : Byte
  held       : Nat
  floor      : Nat
  commit     : Option Byte
  farewell   : Bool
  localFault : Bool
  openClaim  : Option Byte
  deriving DecidableEq, Repr

/-- The body of a frame (R191). -/
inductive FrameBody
  | hold (fields : HoldFields)
  | claim (number : Byte) (amount priority : Nat)
  | announce (number : Byte) (floor priority capacityClass leaseSelect : Nat)
  | assent (target : Nat) (number : Byte)
  | object (target : Nat) (number : Byte) (reason : ObjectReason)
  deriving DecidableEq, Repr

/-- A frame: its source station and its body (R101). -/
structure Frame where
  source : Nat
  body   : FrameBody
  deriving DecidableEq, Repr

/-- A frame delivered with a GOOD verdict and not yet taken (R104, R105), with the ANSWER slot that its header
reserved (R67). -/
structure Delivered where
  frame       : Frame
  reservation : Option Nat
  deriving DecidableEq, Repr

/-- The states of the receiver (R102). -/
inductive RxMode
  | hunt | header | body | skip
  deriving DecidableEq, Repr

/-- The class of a frame (R108). -/
inductive FrameClass
  | own | foreign
  deriving DecidableEq, Repr

/-- The receiver (R102, R107, R108): the HUNT window, the bits taken since the start byte, whether the frame began with
the first bit of an own attempt, its class once taken, whether the station drove a cut mark in it (R106), the bit times
of SKIP left, the ANSWER slot reserved at its header (R67). -/
structure Receiver where
  mode        : RxMode
  window      : Half
  bits        : List Bool
  ownStart    : Bool
  cls         : Option FrameClass
  ownMark     : Bool
  skipLeft    : Nat
  reservation : Option Nat
  deriving DecidableEq, Repr

/-- The slot an attempt was sent from. -/
inductive SlotId
  | hold | claim
  | answer (index : Nat)
  deriving DecidableEq, Repr

/-- The attempt record (R112): the frame's bytes, the slot, the index of the bit being sent, how many bits have been read
back as sent, whether a bit was taken other than it was sent (R113), and whether the attempt has been reported and only
the bit time in progress is left to it (R116, R117). -/
structure Attempt where
  bytes    : List Byte
  slot     : SlotId
  sent     : Nat
  taken    : Nat
  mismatch : Bool
  stopped  : Bool
  deriving DecidableEq, Repr

/-- The transmitter (R112); the dominant level of a cut mark is driven from the bit time `start` on (R115). -/
inductive Transmitter
  | none
  | sending (attempt : Attempt)
  | marking (attempt : Attempt) (start : Nat)
  deriving DecidableEq, Repr

/-- The bit timing (R100): the fractional divider's accumulator, the length of the bit time in OSC_IN periods, the
position in it, and whether its bit has been taken. -/
structure BitClock where
  acc    : Nat
  length : Nat
  pos    : Nat
  taken  : Bool
  deriving DecidableEq, Repr

/-- What the Line Interface holds (R102, R110, R112), with the frames it has delivered and the other blocks have still
to take. -/
structure LineInterface where
  rx    : Receiver
  idle  : Nat
  tx    : Transmitter
  bits  : BitClock
  inbox : List Delivered
  deriving DecidableEq, Repr

/-! ## Time Base (spec/07) -/

/-- The watchdog (R142). -/
structure Watchdog where
  interval  : Nat
  lock      : Bool
  remaining : Nat
  deriving DecidableEq, Repr

/-- What the Time Base holds (R136, R139, R140, R142), with the blocks that have still to take the tick issued (R137) and
those that have still to take a lease boundary issued, one entry for each boundary a block has to take (R141; log 5). -/
structure TimeBase where
  tickDivider : Nat
  tickDue     : List TickBlock
  ms          : Half
  leaseMatch  : Nat
  leasePost   : Nat
  boundaryDue : List Block
  watchdog    : Watchdog
  deriving DecidableEq, Repr

/-! ## Pilot Unit (spec/08) -/

/-- The applied mode of a pilot period (R151). -/
inductive PilotMode
  | idle | drive | fence
  deriving DecidableEq, Repr

/-- The pilot polarity (R152). -/
inductive Polarity
  | normal | inverted
  deriving DecidableEq, Repr

/-- What the Pilot Unit holds (R148) and its two fields of the configuration in force; `former` is what it held before the
two hand-overs of a change of state, while a period start may still fall between them (R154); `periodDue` is
the number of ticks that the Pilot Unit has still to take (R137), each with a period start of its own; `faultDue` says that
the Allocation Engine has still to take a change of the FAULT_IN sample (R150). -/
structure PilotUnit where
  requested : Nat
  stateCopy : StationState
  former    : Option (Nat × StationState)
  faultIn   : Bool
  loadIn    : Bool
  mode      : PilotMode
  drive     : Nat
  duty      : Nat
  applied   : Polarity
  phase     : Nat
  meter     : Quad
  fullScale : Nat
  polarity  : Polarity
  periodDue : Nat
  faultDue  : Bool
  deriving DecidableEq, Repr

/-! ## Event Unit (spec/09) -/

/-- The seven event classes, in the order of R192. -/
inductive EventClass
  | membership | claim | answer | share | line | loc | table
  deriving DecidableEq, Repr

/-- One value for each event class. -/
structure PerClass (α : Type) where
  membership : α
  claim      : α
  answer     : α
  share      : α
  line       : α
  loc        : α
  table      : α
  deriving DecidableEq, Repr

/-- The steering of a class (R160). -/
inductive Steer
  | none | attn | alert
  deriving DecidableEq, Repr

/-- The 26 event kinds, in the order of R163 and R164. -/
inductive EventKind
  | stateChanged | peerJoined | peerRejoined | peerSilent | peerAbsent | peerLeft | duplicate
  | claimCommitted | claimFailed | claimLapsed | claimAbandoned
  | answerDropped | answerExpired | shareChanged | squeezed | overcommitSet | overcommitClear | peerOverdraw | peerFault
  | frameBad | txGaveUp | commandDone | commandRefused | watchdogExpired | faultInChanged | parity
  deriving DecidableEq, Repr

/-- An event entry (R161). Its class is a function of its kind. -/
structure Event where
  seq        : Byte
  kind       : EventKind
  station    : Option Nat
  claim      : Option Byte
  value      : Option Half
  time       : Half
  lossBefore : Bool
  deriving DecidableEq, Repr

/-- The alert conditions (R168). -/
inductive AlertCondition
  | overcommit | fenced | fault | duplicate | suspectPresent | faultIn
  deriving DecidableEq, Repr

/-- A set of alert conditions (R160). -/
structure AlertSet where
  overcommit     : Bool
  fenced         : Bool
  fault          : Bool
  duplicate      : Bool
  suspectPresent : Bool
  faultIn        : Bool
  deriving DecidableEq, Repr

/-- What the Event Unit holds (R160). -/
structure EventUnit where
  queue    : List Event
  nextSeq  : Byte
  filter   : PerClass Bool
  steering : PerClass Steer
  active   : AlertSet
  acked    : AlertSet
  popping  : Option Byte
  deriving DecidableEq, Repr

/-! ## Local Port (spec/10) -/

/-- The transaction state (R176). -/
inductive TransactionState
  | idle | request | response | ignore
  deriving DecidableEq, Repr

/-- A queued request with its arguments as received (R176). -/
inductive QueuedRequest
  | configure (record : ConfigRecord)
  | stateRequest (target : Target)
  | demand (target : Half)
  deriving DecidableEq, Repr

/-- The snapshot request (R187). -/
inductive SnapshotRequest
  | none | started | ready
  deriving DecidableEq, Repr

/-- A completed snapshot (R23, R189). -/
structure Snapshot where
  number       : Byte
  capacity     : Nat
  sumHeld      : Nat
  sumEarmark   : Nat
  sumFloor     : Nat
  room         : Nat
  overcommit   : Bool
  validCount   : Nat
  suspectCount : Nat
  station      : StationState
  share        : ShareRecord
  claim        : Option ClaimRecord
  entries      : List Entry
  deriving DecidableEq, Repr

/-- The effect that the end of a transaction owes to the decoded request (R180, R190). -/
inductive EndEffect
  | none
  | pop
  | meterClear (captured : Quad)
  | snapshotDelivered
  | hardReset
  deriving DecidableEq, Repr

/-- What the Local Port holds (R176): the request buffer holds whole bytes, `bits` the bits taken of the byte in
progress (R177). -/
structure Port where
  transaction : TransactionState
  request     : List Byte
  bits        : List Bool
  response    : List Byte
  fifo        : List QueuedRequest
  snapRequest : SnapshotRequest
  snapshot    : Option Snapshot
  atEnd       : EndEffect
  deriving DecidableEq, Repr

/-! ## The station -/

/-- The input pins with a level of their own and the reset logic (R25, R116, R176): the levels of RST_N, SEL_N and
TX_INHIBIT (asserted), the OSC_IN periods left of an internal reset, and, from outside as `pending` is, the bits that SDI
gives in each of the transactions to come, up to its request's own command (log 16). -/
structure Pins where
  rstN          : Bool
  selN          : Bool
  txInhibit     : Bool
  internalReset : Nat
  sdi           : List (List Bool)
  deriving DecidableEq, Repr

/-- The station, and the queue of commands that wait for it, first in, first out. -/
structure State where
  pins    : Pins
  mc      : Membership
  table   : ShareTable
  alloc   : Allocation
  outbox  : Outbox
  line    : LineInterface
  time    : TimeBase
  pilot   : PilotUnit
  events  : EventUnit
  port    : Port
  pending : List Instr
  deriving DecidableEq, Repr

/-- A step of this block never faults: the manual gives every event an effect in every state (INVENTORY, Faults). No
constructor, so no command and no free value can raise one. -/
inductive Fault
  deriving DecidableEq, Repr

/-- Why a command has no meaning in the model. -/
inductive Refusal
  /-- Raised by `exec` alone, for a row that the model gives no meaning: safe. No arm raises it. -/
  | notModelled (mnemonic : String)
  deriving DecidableEq, Repr

/-! ## Reset values -/

/-- The stored part of an ABSENT entry after reset (R3). -/
def Stored.empty : Stored :=
  { status := .absent, held := 0, floor := 0, priority := 0, holdSeq := 0, openClaim := none, earmark := none,
    localFault := false, overdrawn := false }

/-- A peer entry after reset (R3). -/
def Entry.empty : Entry :=
  { stored := Stored.empty, parityGood := true, age := 0, expiry := 0, suspect := false }

/-- The Membership Controller in RESET (R25); the identity is the model's choice until reset end (log 10). -/
def Membership.initial : Membership :=
  { station := .reset
    identity := { number := 0, valid := false, capacityClass := 0, leaseSelect := 0 }
    census := 0, retry := 0, configured := false
    request := { first := none, taken := false, behind := false }
    lastResolution := none, duplicate := false }

/-- The Share Table after reset (R3, R24): the sums 0, room C, which is 400 for the capacity class of log 10. -/
def ShareTable.initial : ShareTable :=
  { entries := List.replicate 24 Entry.empty
    sums := { held := 0, earmark := 0, floor := 0, room := 400, valid := 0, suspect := 0 }
    overcommit := false, nextSnapshot := 0 }

/-- The Allocation Engine after reset (R52, R79). -/
def Allocation.initial : Allocation :=
  { share := { held := 0, lastTx := 0, floor := 0, priority := 0, demand := 0, holdSeq := 0, claimCounter := 0,
               silence := 0, failures := 0, backoff := none }
    claim := none, holdAttempt := none }

/-- An EMPTY slot of each kind (R119). -/
def HoldSlot.empty : HoldSlot := { occupancy := .empty, attempts := 0, inFlight := false, resting := false }
def ClaimSlot.empty : ClaimSlot :=
  { occupancy := .empty, key := none, content := none, attempts := 0, inFlight := false }
def AnswerSlot.empty : AnswerSlot :=
  { occupancy := .empty, key := none, content := none, attempts := 0, inFlight := false, waitingShed := false,
    expired := false, deadline := none, rewritten := false }

/-- The Outbox after reset (R119). -/
def Outbox.initial : Outbox :=
  { hold := .empty, claim := .empty, answers := List.replicate 4 .empty, answerList := [] }

/-- The receiver at reset end and after each verdict (R102, R105): HUNT with its window recessive. -/
def Receiver.hunting : Receiver :=
  { mode := .hunt, window := 0xFFFF, bits := [], ownStart := false, cls := none, ownMark := false, skipLeft := 0,
    reservation := none }

/-- The Line Interface after reset (R100, R102, R110, R112). -/
def LineInterface.initial : LineInterface :=
  { rx := .hunting, idle := 0, tx := .none, bits := { acc := 0, length := 16, pos := 0, taken := false }, inbox := [] }

/-- The Time Base after reset (R136, R139, R140, R142). -/
def TimeBase.initial : TimeBase :=
  { tickDivider := 0, tickDue := [], ms := 0, leaseMatch := 0, leasePost := 0, boundaryDue := [],
    watchdog := { interval := 0, lock := false, remaining := 0 } }

/-- The Pilot Unit after reset (R148). -/
def PilotUnit.initial : PilotUnit :=
  { requested := 0, stateCopy := .reset, former := none, faultIn := false, loadIn := false, mode := .idle, drive := 0,
    duty := 0, applied := .normal, phase := 0, meter := 0, fullScale := 320, polarity := .normal, periodDue := 0,
    faultDue := false }

/-- The empty set of alert conditions. -/
def AlertSet.empty : AlertSet :=
  { overcommit := false, fenced := false, fault := false, duplicate := false, suspectPresent := false, faultIn := false }

/-- The Event Unit after reset (R160). -/
def EventUnit.initial : EventUnit :=
  { queue := [], nextSeq := 0
    filter := { membership := true, claim := true, answer := true, share := true, line := true, loc := true,
                table := true }
    steering := { membership := .attn, claim := .attn, answer := .none, share := .attn, line := .none, loc := .none,
                  table := .alert }
    active := .empty, acked := .empty, popping := none }

/-- The Local Port after reset (R176). -/
def Port.initial : Port :=
  { transaction := .idle, request := [], bits := [], response := [], fifo := [], snapRequest := .none, snapshot := none,
    atEnd := .none }

/-- The station right after reset has taken hold: in RESET, every block at its reset values, RST_N high and no internal
reset left, so that the next event is RESET_END with the straps (R25, R26; log 10, log 23). No command waits. -/
def State.reset : State :=
  { pins := { rstN := true, selN := true, txInhibit := false, internalReset := 0, sdi := [] }
    mc := .initial, table := .initial, alloc := .initial, outbox := .initial, line := .initial, time := .initial,
    pilot := .initial, events := .initial, port := .initial, pending := [] }

end Sys2Proof.Machine
end

