-- ==== Sys2Proof/Machine/Frames.lean ====
section
/-! DEFINITION. Feeder-line frames (R101, R191): what the transmitter sends for a frame, and how the receiver judges
what it took (R103, R105). -/

namespace Sys2Proof.Machine

/-- The frame kind codes (R191). -/
def FrameBody.kindCode : FrameBody → Nat
  | .hold _ => 1
  | .claim _ _ _ => 2
  | .announce _ _ _ _ _ => 3
  | .assent _ _ => 4
  | .object _ _ _ => 5

/-- The codes of the OBJECT reasons (R191). -/
def ObjectReason.code : ObjectReason → Nat
  | .noRoom => 1 | .notMember => 2 | .suspect => 3 | .busy => 4 | .silentPeer => 5 | .floorsFull => 6 | .mismatch => 7

/-- The reason with a code, if there is one (R191). -/
def reasonOfCode : Nat → Option ObjectReason
  | 1 => some .noRoom | 2 => some .notMember | 3 => some .suspect | 4 => some .busy | 5 => some .silentPeer
  | 6 => some .floorsFull | 7 => some .mismatch
  | _ => none

/-- The flags byte of a HOLD (R191): bit 0 COMMIT, bit 1 FAREWELL, bit 2 LOCAL_FAULT, bit 3 OPEN_CLAIM. -/
def HoldFields.flags (h : HoldFields) : Nat :=
  h.commit.isSome.toNat + 2 * h.farewell.toNat + 4 * h.localFault.toNat + 8 * h.openClaim.isSome.toNat

/-- The body bytes of a frame, in line order (R191). -/
def FrameBody.bytes : FrameBody → List Byte
  | .hold h =>
    [h.seq] ++ halfBytes h.held ++ [byteOf h.floor, byteOf h.flags, optByte h.commit] ++ h.openClaim.toList
  | .claim number amount priority => [number] ++ halfBytes amount ++ [byteOf priority]
  | .announce number floor priority cls lease =>
    [number, byteOf floor, byteOf priority, byteOf (cls * 16 + lease)]
  | .assent target number => [byteOf target, number, 0]
  | .object target number reason => [byteOf target, number, byteOf reason.code]

/-- The kind-and-length byte, the source byte and the body: the bytes the check value covers (R109). -/
def Frame.checked (f : Frame) : List Byte :=
  [byteOf (f.body.kindCode * 16 + f.body.bytes.length), byteOf f.source] ++ f.body.bytes

/-- A whole frame in line order (R101): preamble, start byte, kind and length, source, body, check value. -/
def Frame.bytes (f : Frame) : List Byte :=
  [0xAA, 0x2D] ++ f.checked ++ halfBytes (checkValue f.checked).toNat

/-- The kind code in a kind-and-length byte (R191). -/
def kindOf (kl : Byte) : Nat := kl.toNat / 16

/-- The body length in a kind-and-length byte (R191). -/
def lengthOf (kl : Byte) : Nat := kl.toNat % 16

/-- A kind-and-length byte whose length belongs to its kind (R103, R191). -/
def kindLengthGood (kl : Byte) : Bool :=
  match kindOf kl with
  | 1 => lengthOf kl == 6 || lengthOf kl == 7
  | 2 => lengthOf kl == 4
  | 3 => lengthOf kl == 4
  | 4 => lengthOf kl == 3
  | 5 => lengthOf kl == 3
  | _ => false

/-- The HOLD whose fields are these bytes, if they are in range (R105, R191): held and floor in range, no reserved flag
set, OPEN_CLAIM set exactly when the open claim number is there. -/
def parseHold (seq hi lo floor flags committed : Byte) (openClaim : Option Byte) : Option FrameBody :=
  if ofHalfBytes hi lo ≤ 6400 ∧ floor.toNat ≤ 250 ∧ flags.toNat < 16 ∧ flags.getLsbD 3 = openClaim.isSome then
    some (.hold
      { seq := seq, held := ofHalfBytes hi lo, floor := floor.toNat
        commit := if flags.getLsbD 0 then some committed else none
        farewell := flags.getLsbD 1, localFault := flags.getLsbD 2, openClaim := openClaim })
  else none

/-- The body that these bytes carry under this kind, if every field is in range (R105, R191). -/
def parseBody : Nat → List Byte → Option FrameBody
  | 1, [seq, hi, lo, floor, flags, committed] => parseHold seq hi lo floor flags committed none
  | 1, [seq, hi, lo, floor, flags, committed, openClaim] =>
    parseHold seq hi lo floor flags committed (some openClaim)
  | 2, [number, hi, lo, priority] =>
    if ofHalfBytes hi lo ≤ 6400 ∧ priority.toNat ≤ 3 then
      some (.claim number (ofHalfBytes hi lo) priority.toNat)
    else none
  | 3, [number, floor, priority, cl] =>
    if floor.toNat ≤ 250 ∧ priority.toNat ≤ 3 ∧ cl.toNat % 16 < 4 then
      some (.announce number floor.toNat priority.toNat (cl.toNat / 16) (cl.toNat % 16))
    else none
  | 4, [target, number, code] =>
    if target.toNat ≤ 23 ∧ code = 0 then some (.assent target.toNat number) else none
  | 5, [target, number, code] =>
    if target.toNat ≤ 23 then (reasonOfCode code.toNat).map (.object target.toNat number) else none
  | _, _ => none

/-- The classes of a BAD verdict (R106). -/
inductive BadClass
  | format | source | check | ending
  deriving DecidableEq, Repr

/-- The codes of the BAD classes (R193). -/
def BadClass.code : BadClass → Nat
  | .format => 1 | .source => 2 | .check => 3 | .ending => 4

/-- A verdict (R103, R105). -/
inductive Verdict
  | good (frame : Frame)
  | bad (cls : BadClass)
  deriving DecidableEq, Repr

/-- Bits of a frame after its start byte, end space included, given its body length (R101, R105). -/
def frameSpan (length : Nat) : Nat := 8 * (2 + length + 2) + 1

/-- The verdict on the bits taken after the start byte, end space included (R105): the check value first, then the end
space, then the field ranges. A frame cut in its body or later, which R115 calls BAD with class END, is judged in this order
too: CHECK where its check value differs (log 40). -/
def verdictOf (bits : List Bool) : Verdict :=
  let kl := byteOfBits (bits.take 8)
  let n := lengthOf kl
  let checked := bytesOfBits (2 + n) bits
  let sent := bytesOfBits 2 (bits.drop (8 * (2 + n)))
  if sent ≠ halfBytes (checkValue checked).toNat then .bad .check
  else if (bits.drop (8 * (2 + n + 2))).headD false = false then .bad .ending
  else
    match parseBody (kindOf kl) (checked.drop 2) with
    | some body => .good { source := (checked.drop 1).headD 0 |>.toNat, body := body }
    | none => .bad .format

/-- A judgement on a frame in HEADER (R103): not enough bits yet, BAD at the kind-and-length or the source byte, or a
complete header. -/
inductive HeaderJudgement
  | incomplete
  | bad (cls : BadClass)
  | complete (kind source : Nat) (first : Byte)
  deriving DecidableEq, Repr

/-- The receiver's judgement in HEADER, byte by byte as the header comes in (R103). -/
def judgeHeader (bits : List Bool) : HeaderJudgement :=
  if bits.length < 8 then .incomplete
  else if !kindLengthGood (byteOfBits (bits.take 8)) then .bad .format
  else if bits.length < 16 then .incomplete
  else if 24 ≤ (byteOfBits ((bits.drop 8).take 8)).toNat then .bad .source
  else if bits.length < 24 then .incomplete
  else .complete (kindOf (byteOfBits (bits.take 8))) (byteOfBits ((bits.drop 8).take 8)).toNat
    (byteOfBits ((bits.drop 16).take 8))

end Sys2Proof.Machine
end

