-- ==== Sys2Proof/Machine/Flags.lean ====
section
/-! DEFINITION. The Event Unit's own work (spec/09): classes and codes of the event kinds, raising and queueing an event,
the alert conditions, the levels of ATTN_N and ALERT_N. -/

namespace Sys2Proof.Machine

/-- The class of a kind (R163, R164). -/
def EventKind.cls : EventKind → EventClass
  | .stateChanged | .peerJoined | .peerRejoined | .peerSilent | .peerAbsent | .peerLeft | .duplicate => .membership
  | .claimCommitted | .claimFailed | .claimLapsed | .claimAbandoned => .claim
  | .answerDropped | .answerExpired => .answer
  | .shareChanged | .squeezed | .overcommitSet | .overcommitClear | .peerOverdraw | .peerFault => .share
  | .frameBad | .txGaveUp => .line
  | .commandDone | .commandRefused | .watchdogExpired | .faultInChanged => .loc
  | .parity => .table

/-- The code of a kind (R193). -/
def EventKind.code : EventKind → Nat
  | .stateChanged => 1 | .peerJoined => 2 | .peerRejoined => 3 | .peerSilent => 4 | .peerAbsent => 5 | .peerLeft => 6
  | .duplicate => 7 | .claimCommitted => 8 | .claimFailed => 9 | .claimLapsed => 10 | .claimAbandoned => 11
  | .answerDropped => 12 | .answerExpired => 13 | .shareChanged => 14 | .squeezed => 15 | .overcommitSet => 16
  | .overcommitClear => 17 | .peerOverdraw => 18 | .peerFault => 19 | .frameBad => 20 | .txGaveUp => 21
  | .commandDone => 22 | .commandRefused => 23 | .watchdogExpired => 24 | .faultInChanged => 25 | .parity => 26

/-- The number of a class (R192). -/
def EventClass.number : EventClass → Nat
  | .membership => 0 | .claim => 1 | .answer => 2 | .share => 3 | .line => 4 | .loc => 5 | .table => 6

/-- The value kept for a class. -/
def PerClass.get {α : Type} (p : PerClass α) : EventClass → α
  | .membership => p.membership | .claim => p.claim | .answer => p.answer | .share => p.share | .line => p.line
  | .loc => p.loc | .table => p.table

/-- A value of 0 to 65535; a larger quantity is carried as 65535 (R161). -/
def valueOf (n : Nat) : Half := BitVec.ofNat 16 (min n 65535)

/-- A value that joins two items, high byte and low byte (R193). -/
def joined (hi lo : Nat) : Half := BitVec.ofNat 16 (hi % 256 * 256 + lo % 256)

/-- The queue with one entry appended (R162, R165): a full queue discards its head, and the entry then at the head is
marked LOSS_BEFORE. -/
def appendEvent (queue : List Event) (e : Event) : List Event :=
  if queue.length < Config.queueDepth then queue ++ [e]
  else
    match queue.tail ++ [e] with
    | [] => []
    | head :: rest => { head with lossBefore := true } :: rest

/-- The Event Unit takes an event (R162): filtered out, or queued with the next sequence number and the time. -/
def EventUnit.take (u : EventUnit) (kind : EventKind) (station : Option Nat) (claim : Option Byte)
    (value : Option Half) (time : Half) : EventUnit :=
  if u.filter.get kind.cls then
    { u with
      queue := appendEvent u.queue
        { seq := u.nextSeq, kind := kind, station := station, claim := claim, value := value, time := time,
          lossBefore := false }
      nextSeq := u.nextSeq + 1 }
  else u

/-- A block raises an event, in every station state except RESET (R162); its time is the millisecond count as it stands
(R139). No meaning raises one in RESET. -/
def raise (kind : EventKind) (station : Option Nat) (claim : Option Byte) (value : Option Half) (s : State) : State :=
  { s with events := s.events.take kind station claim value s.time.ms }

/-- Membership of a condition in a set. -/
def AlertSet.has (a : AlertSet) : AlertCondition → Bool
  | .overcommit => a.overcommit | .fenced => a.fenced | .fault => a.fault | .duplicate => a.duplicate
  | .suspectPresent => a.suspectPresent | .faultIn => a.faultIn

/-- A set with one condition put in or taken out. -/
def AlertSet.put (a : AlertSet) (c : AlertCondition) (b : Bool) : AlertSet :=
  match c with
  | .overcommit => { a with overcommit := b }
  | .fenced => { a with fenced := b }
  | .fault => { a with fault := b }
  | .duplicate => { a with duplicate := b }
  | .suspectPresent => { a with suspectPresent := b }
  | .faultIn => { a with faultIn := b }

/-- The union of two sets. -/
def AlertSet.union (a b : AlertSet) : AlertSet :=
  { overcommit := a.overcommit || b.overcommit, fenced := a.fenced || b.fenced, fault := a.fault || b.fault
    duplicate := a.duplicate || b.duplicate, suspectPresent := a.suspectPresent || b.suspectPresent
    faultIn := a.faultIn || b.faultIn }

/-- A set's byte, one bit a condition (R192); bits 7 and 6, of which the manual says nothing, are sent 0 (log 41). -/
def AlertSet.byte (a : AlertSet) : Byte :=
  byteOf (a.overcommit.toNat + 2 * a.fenced.toNat + 4 * a.fault.toNat + 8 * a.duplicate.toNat
    + 16 * a.suspectPresent.toNat + 32 * a.faultIn.toNat)

/-- An owner hands over a condition's value (R168): it enters or leaves the active set, and a condition that leaves the
active set leaves the acknowledged set (R169). -/
def setCondition (c : AlertCondition) (b : Bool) (s : State) : State :=
  { s with events :=
    { s.events with
      active := s.events.active.put c b
      acked := if b then s.events.acked else s.events.acked.put c false } }

/-- ATTN_N asserted (R167): an entry of a class steered to ATTN, or 32 entries of any classes. Released in RESET
(R174), where the queue is empty. -/
def attnAsserted (u : EventUnit) : Bool :=
  u.queue.any (fun e => u.steering.get e.kind.cls == .attn) || Config.attnThreshold ≤ u.queue.length

/-- ALERT_N asserted (R170): an active condition not acknowledged, or an entry of a class steered to ALERT. -/
def alertAsserted (u : EventUnit) : Bool :=
  (u.active.overcommit && !u.acked.overcommit) || (u.active.fenced && !u.acked.fenced)
    || (u.active.fault && !u.acked.fault) || (u.active.duplicate && !u.acked.duplicate)
    || (u.active.suspectPresent && !u.acked.suspectPresent) || (u.active.faultIn && !u.acked.faultIn)
    || u.queue.any (fun e => u.steering.get e.kind.cls == .alert)

/-- ACK_ALERT (R169): every active condition is acknowledged. -/
def EventUnit.acknowledge (u : EventUnit) : EventUnit := { u with acked := u.acked.union u.active }

/-- The end of a whole EVENT_POP transaction (R172): the recorded entry leaves the head; if it was discarded meanwhile
and the head carries the next number, the head's mark is cleared. The pop in progress becomes absent. -/
def EventUnit.finishPop (u : EventUnit) : EventUnit :=
  match u.popping, u.queue with
  | some n, head :: rest =>
    if head.seq = n then { u with queue := rest, popping := none }
    else if head.seq = n + 1 then { u with queue := { head with lossBefore := false } :: rest, popping := none }
    else { u with popping := none }
  | _, _ => { u with popping := none }

end Sys2Proof.Machine
end

