-- ==== Sys2Proof/Machine/Transmit.lean ====
section
/-! DEFINITION. The bits of an attempt and of its cut mark (spec/05, section 5.5), the bit timing (R100), and what moves them:
a bit taken, a bit boundary, an edge, an OSC_IN period. -/

namespace Sys2Proof.Machine

/-! ## The attempt's bits -/

/-- Bit times of an attempt (R101). -/
def Attempt.total (a : Attempt) : Nat := 8 * a.bytes.length

/-- The bit of the frame at a position in line order (R101): true is recessive (R100). -/
def Attempt.bitAt (a : Attempt) (i : Nat) : Bool := (a.bytes[i / 8]?.getD 0xFF).getLsbD (i % 8)

/-- The bits of the attempt that have been read back, as sent or not. -/
def Attempt.read (a : Attempt) : Nat := a.taken + a.mismatch.toNat

/-- The attempt's report is still open (R113 to R116): no mismatch, the last bit not taken, not reported as CUT. -/
def Attempt.live (a : Attempt) : Bool := !a.mismatch && a.taken < a.total && !a.stopped

/-- The last check bit has been taken as it was sent, and COMPLETED is to be reported (R114). -/
def Attempt.completed (a : Attempt) : Bool := !a.mismatch && a.taken == a.total && !a.stopped

/-- A bit has been taken other than it was sent, and COLLIDED is to be reported (R113). -/
def Attempt.collided (a : Attempt) : Bool := a.mismatch && !a.stopped

/-- The bit time in which the attempt ended is over (R113, R114): it drives the line no longer. -/
def Attempt.over (a : Attempt) : Bool := !a.live && !a.stopped && a.read ≤ a.sent

/-- The first bit time that the cut mark of an attempt cut now drives (R115): the one after the bit being sent, and never
one of the preamble or the start byte (log 30). -/
def Attempt.markStart (a : Attempt) : Nat := max 16 (a.sent + 1)

/-! ## The transmitter -/

/-- The transmitter drives the line no longer (R112, R115): it is in NONE, or the last bit time of what it drove is over
and its end has still to be taken (log 1). -/
def Transmitter.over : Transmitter → Bool
  | .none => true
  | .sending a => a.over
  | .marking a _ => a.total < a.sent

/-- A bit boundary (R112, R115): the next bit follows one that has been read back, a mark goes on whatever is read, and an
attempt of which only its last bit time is left ends. -/
def Transmitter.advance : Transmitter → Transmitter
  | .none => .none
  | .sending a =>
    if a.stopped then .none else if a.sent < a.read then .sending { a with sent := a.sent + 1 } else .sending a
  | .marking a start => .marking { a with sent := min (a.sent + 1) (a.total + 1) } start

/-- The comparison of a bit taken with the bit being sent (R113). -/
def Transmitter.compare (recessive : Bool) : Transmitter → Transmitter
  | .sending a =>
    if a.live then
      if a.bitAt a.sent = recessive then .sending { a with taken := a.taken + 1 }
      else .sending { a with mismatch := true }
    else .sending a
  | tx => tx

/-- The cut of an attempt whose report is open (R115): its mark begins. Any other attempt stands as it was taken. -/
def Transmitter.cut : Transmitter → Transmitter
  | .sending a => if a.live then .marking a a.markStart else .sending a
  | tx => tx

/-- The attempt has been reported, and the bit time in progress is its last (R116, R117). -/
def Transmitter.stop : Transmitter → Transmitter
  | .sending a => .sending { a with stopped := true }
  | tx => tx

/-- The attempt is in progress, neither abandoned nor cut, with every bit read back as sent (R108). -/
def Transmitter.intact : Transmitter → Bool
  | .sending a => !a.mismatch && !a.stopped
  | _ => false

/-- The dominant level of a cut mark is being driven (R106, R115). -/
def Transmitter.marks : Transmitter → Bool
  | .marking a start => start ≤ a.sent && a.sent ≤ a.total
  | _ => false

/-- The cut mark is in its end space or past it (R115). -/
def Transmitter.inEndSpace : Transmitter → Bool
  | .marking a _ => a.total ≤ a.sent
  | _ => false

/-- LINE_TX, true for high (R100, R115): the bit being sent; in MARKING the rest of the preamble and start byte and of the bit
in progress, then dominant; high once nothing is driven. -/
def Transmitter.level : Transmitter → Bool
  | .none => true
  | .sending a => if a.over then true else a.bitAt a.sent
  | .marking a start => if a.total < a.sent then true else if a.sent < start then a.bitAt a.sent else false

/-! ## Bit timing -/

/-- The start of a bit time (R100): 48 is added to the accumulator, and the bit time is 17 periods long when 125 can be
taken off. -/
def BitClock.start (b : BitClock) : BitClock :=
  if 125 ≤ b.acc + 48 then { acc := b.acc + 48 - 125, length := 17, pos := 0, taken := false }
  else { acc := b.acc + 48, length := 16, pos := 0, taken := false }

/-- The middle of the bit time in progress has been reached. It stands at 8 periods (log 15). -/
def BitClock.half (b : BitClock) : Bool := b.taken || 8 ≤ b.pos

/-- The bit of the bit time in progress is taken, at its middle (R100). -/
def BitClock.take (b : BitClock) : BitClock := { b with taken := true, pos := max b.pos 8 }

/-- A bit boundary is reached (R100, R112). -/
def LineInterface.nextBit (l : LineInterface) : LineInterface := { l with bits := l.bits.start, tx := l.tx.advance }

/-- The boundary that lies before the next bit to be taken, if the bit of this bit time has been taken. -/
def LineInterface.untaken (l : LineInterface) : LineInterface := if l.bits.taken then l.nextBit else l

/-- A recessive-to-dominant edge (R100, R112): it starts a bit time, with the accumulator carried on: the next one, or, in
the first half of a bit time, the same one anew (log 15). -/
def LineInterface.edge (l : LineInterface) : LineInterface :=
  if l.bits.half then l.nextBit else { l with bits := l.bits.start }

/-- One OSC_IN period of the bit timing (R100). -/
def LineInterface.period (l : LineInterface) : LineInterface :=
  if l.bits.length ≤ l.bits.pos + 1 then l.nextBit else { l with bits := { l.bits with pos := l.bits.pos + 1 } }

/-- In RESET the transmitter enters NONE by itself at the end of what it drives (R117). -/
def LineInterface.release (l : LineInterface) : LineInterface := if l.tx.over then { l with tx := .none } else l

end Sys2Proof.Machine
end

