-- ==== Sys2Proof/Machine/Ops.lean ====
section
/-! DEFINITION. The shared operations: reading the share table and its sums (spec/01), parity and earmarks, the slots of
the Outbox (spec/06) and cutting their attempts, drive level and HOLD requests (spec/04), ends of the own claim
(spec/03), the change of station state (spec/02), the end of an update of the table with OVERCOMMIT (spec/04) and the
claim start (spec/03), and the entry to RESET, which every reset source shares (R25). -/

namespace Sys2Proof.Machine

/-! ## Codes of R193 -/

def StationState.code : StationState → Nat
  | .reset => 0 | .monitor => 1 | .offline => 2 | .census => 3 | .joining => 4 | .waiting => 5 | .active => 6
  | .leaving => 7 | .detached => 8 | .fenced => 9 | .fault => 10

def EndReason.code : EndReason → Nat
  | .noRoom => 1 | .notMember => 2 | .suspect => 3 | .busy => 4 | .silentPeer => 5 | .floorsFull => 6 | .mismatch => 7
  | .noAnswer => 8 | .txFailed => 9 | .demandDrop => 10 | .overcommit => 11 | .yielded => 12 | .stateChange => 13

/-- The end reason that an OBJECT's reason gives (R61). -/
def ObjectReason.asEnd : ObjectReason → EndReason
  | .noRoom => .noRoom | .notMember => .notMember | .suspect => .suspect | .busy => .busy | .silentPeer => .silentPeer
  | .floorsFull => .floorsFull | .mismatch => .mismatch

/-- Claim kind in an event value: 0 FLOOR, 1 INCREASE (R193). -/
def claimKindCode : ClaimKind → Nat
  | .floor => 0 | .increase => 1

def QueuedCommand.code : QueuedCommand → Nat
  | .configure => 0x10 | .stateRequest => 0x11 | .demand => 0x12

def Target.code : Target → Nat
  | .active => 1 | .detached => 2

def CommandResult.code : CommandResult → Nat
  | .done => 0 | .failed => 1 | .cancelled => 2 | .locked => 3 | .notConfigured => 4 | .badValue => 5
  | .watchdogLocked => 6

/-- A resolution's 16-bit code (R193, "Command resolutions"). -/
def Resolution.code : Resolution → Half
  | .demandTaken target => BitVec.ofNat 16 target
  | .command c target r =>
    BitVec.ofNat 16 (0x8000 + c.code * 256 + (match target with | none => 0 | some t => t.code) * 16 + r.code)

/-- The event kind that reports a resolution (R48, R49, R80). -/
def Resolution.eventKind : Resolution → EventKind
  | .demandTaken _ => .commandDone
  | .command _ _ .done => .commandDone
  | .command _ _ _ => .commandRefused

/-! ## The table as the rules read it -/

/-- Feeder capacity C (R3). -/
def capacity (s : State) : Nat := 400 * (s.mc.identity.capacityClass + 1)

/-- The number belongs to a peer entry: every number in MONITOR, every number but the own one elsewhere (R4). -/
def isPeer (s : State) (i : Nat) : Bool := s.mc.station == .monitor || i != s.mc.identity.number

/-- The peer entry kept for a number. -/
def entryAt (s : State) (i : Nat) : Entry := s.table.entries[i]?.getD Entry.empty

/-- The own entry, rebuilt from the own records (R4). -/
def ownEntry (s : State) : Entry :=
  let c := s.alloc.claim.filter (fun c => c.kind == .increase)
  { stored :=
      { status := if s.mc.station = .active ∨ s.mc.station = .leaving then .member else .absent
        held := s.alloc.share.held, floor := s.alloc.share.floor, priority := s.alloc.share.priority
        holdSeq := s.alloc.share.holdSeq
        openClaim := c.map (·.number)
        earmark := c.map (fun c => { kind := .increase, number := c.number, amount := c.amount })
        localFault := s.pilot.faultIn, overdrawn := false }
    parityGood := true, age := 0
    expiry := match c with
      | none => 0
      | some c => if c.phase = .sending then Config.commitDeadline else c.deadline
    suspect := false }

/-- The entry for a number as the sums, the answer decisions and the snapshots read it (R4). -/
def view (s : State) (i : Nat) : Entry := if isPeer s i then entryAt s i else ownEntry s

/-- The 24 entries, in order of station number. -/
def views (s : State) : List Entry := (List.range Config.stations).map (view s)

/-- Validity (R6). -/
def Entry.valid (e : Entry) : Bool := e.stored.status != .absent && !e.suspect

/-- The entry has this status and is not SUSPECT (R2). -/
def Entry.stands (e : Entry) (st : EntryStatus) : Bool := e.stored.status == st && !e.suspect

/-- The earmark amount that counts in the sums (R6). -/
def Entry.earmarked (e : Entry) : Nat :=
  if e.valid then
    match e.stored.earmark with
    | none => 0
    | some m => m.amount
  else 0

/-- The entry carries an earmark of this kind. -/
def Entry.carries (e : Entry) (k : ClaimKind) : Bool := e.stored.earmark.any (fun m => m.kind == k)

/-- Σheld, Σearmark, Σfloor (R6). -/
def sumHeld (s : State) : Nat := ((views s).map (fun e => if e.valid then e.stored.held else 0)).sum
def sumEarmark (s : State) : Nat := ((views s).map Entry.earmarked).sum
def sumFloor (s : State) : Nat := ((views s).map (fun e => if e.valid then e.stored.floor else 0)).sum

/-- Room, 0 when the difference is negative (R6). -/
def room (s : State) : Nat := capacity s - sumHeld s - sumEarmark s

/-- Room with any earmark on one station's entry left out (R69). -/
def roomWithout (s : State) (x : Nat) : Nat :=
  capacity s - sumHeld s - (sumEarmark s - (view s x).earmarked)

/-- Numbers of valid and of SUSPECT entries (R23). -/
def validCount (s : State) : Nat := (views s).countP Entry.valid
def suspectCount (s : State) : Nat := (views s).countP (·.suspect)

/-- The quantities of the table as its entries give them now (R6, R23). -/
def sumsNow (s : State) : Sums :=
  { held := sumHeld s, earmark := sumEarmark s, floor := sumFloor s, room := room s, valid := validCount s
    suspect := suspectCount s }

/-- The recomputation of the kept sums, at the end of an update (R7). -/
def refreshSums (s : State) : State := { s with table := { s.table with sums := sumsNow s } }

/-- Some entry is SUSPECT (R21). -/
def anySuspect (s : State) : Bool := (views s).any (·.suspect)

/-! ## Writing the table -/

/-- One peer entry rewritten. -/
def modEntry (i : Nat) (f : Entry → Entry) (s : State) : State :=
  { s with table := { s.table with entries := s.table.entries.modify i f } }

/-- A write of the stored part, which writes its parity with it (R1). -/
def Entry.write (e : Entry) (p : Stored) : Entry := { e with stored := p, parityGood := true }

/-- The return to ABSENT (R2): the last hold sequence stays, and SUSPECT stays unless the rule clears it. -/
def Entry.returnAbsent (clear : Bool) (e : Entry) : Entry :=
  { stored := { Stored.empty with holdSeq := e.stored.holdSeq }, parityGood := true, age := 0, expiry := 0
    suspect := e.suspect && !clear }

/-- The parity check of a peer entry's stored part (R21). -/
def checkParity (i : Nat) (s : State) : State :=
  if isPeer s i && !(entryAt s i).suspect && !(entryAt s i).parityGood then
    raise .parity (some i) none none (modEntry i (fun e => { e with suspect := true }) s)
  else s

/-- The check of every peer entry (R21, R23, R68), in order of station number, as R17 gives it for the scrub (log 7). -/
def checkAllParity (s : State) : State := (List.range Config.stations).foldl (fun s i => checkParity i s) s

/-- The removal of a peer entry's earmark (R16, R22, R78): its parity is checked, and a PENDING_JOIN entry returns to
ABSENT with its SUSPECT flag kept. -/
def removeEarmark (i : Nat) (s : State) : State :=
  if isPeer s i && (entryAt s i).stored.earmark.isSome then
    modEntry i (fun e =>
      if e.stored.status = .pendingJoin then e.returnAbsent false
      else { e.write { e.stored with earmark := none } with expiry := 0 }) (checkParity i s)
  else s

/-- Every earmark of the table is removed (R76, on leaving ACTIVE), in order of station number; the PARITY events of several
failed checks stand in that order (log 7). -/
def removeAllEarmarks (s : State) : State := (List.range Config.stations).foldl (fun s i => removeEarmark i s) s

/-- A peer's entry carries the earmark of this claim. The number is compared as the storage holds it, and the parity of the
entry is checked by the removal that follows a match (log 31). -/
def holdsEarmark (s : State) (i : Nat) (n : Byte) : Bool :=
  isPeer s i && (entryAt s i).stored.earmark.any (fun m => m.number == n)

/-! ## The slots -/

/-- The transmitter after the cut of an attempt from one slot. -/
def Transmitter.cutFrom (slot : SlotId) : Transmitter → Transmitter
  | .sending a => if a.slot = slot then Transmitter.cut (.sending a) else .sending a
  | tx => tx

/-- The cut of an attempt (R115): an attempt in progress from this slot is reported CUT and its cut mark begins; the
report is counted against nothing, since its slot has been emptied or refilled (R123, R124). An attempt that has been
taken to its end, or to a mismatch, stands. -/
def cutAttempt (slot : SlotId) (s : State) : State :=
  { s with line := { s.line with tx := s.line.tx.cutFrom slot } }

def setOutbox (o : Outbox) (s : State) : State := { s with outbox := o }

/-- The HOLD slot emptied, an attempt of it cut (R123, R124, R128). -/
def emptyHold (s : State) : State := cutAttempt .hold (setOutbox { s.outbox with hold := .empty } s)

/-- The CLAIM slot emptied, an attempt of it cut (R123, R124, R128). -/
def emptyClaim (s : State) : State := cutAttempt .claim (setOutbox { s.outbox with claim := .empty } s)

/-- An ANSWER slot emptied and out of the answer list, an attempt of it cut (R123, R124, R128). -/
def emptyAnswer (k : Nat) (s : State) : State :=
  cutAttempt (.answer k)
    (setOutbox { s.outbox with answers := s.outbox.answers.set k .empty
                               answerList := s.outbox.answerList.filter (· != k) } s)

/-- An ANSWER slot by its index. -/
def answerAt (s : State) (k : Nat) : AnswerSlot := s.outbox.answers[k]?.getD AnswerSlot.empty

/-- The FILLED ANSWER slot for a key, if there is one. -/
def answerFor (s : State) (x : Nat) (n : Byte) : Option Nat :=
  s.outbox.answers.findIdx? (fun a => a.occupancy == .filled && a.key == some (x, n))

/-- The ANSWER slot that holds a key, RESERVED or FILLED, if there is one (R120). -/
def slotFor (s : State) (x : Nat) (n : Byte) : Option Nat := s.outbox.answers.findIdx? (fun a => a.key == some (x, n))

/-- The withdrawal of the ASSENT whose earmark has gone (R76). -/
def withdrawAssent (x : Nat) (n : Byte) (s : State) : State :=
  match answerFor s x n with
  | some k => if (answerAt s k).content = some .assent then emptyAnswer k s else s
  | none => s

/-- The removal of an earmark together with the ASSENT that waits on it (R76); the claim number is the one the storage reads
(log 39). -/
def dropEarmark (x : Nat) (s : State) : State :=
  match (entryAt s x).stored.earmark with
  | some m => if isPeer s x then withdrawAssent x m.number (removeEarmark x s) else s
  | none => s

/-- The earmark that stands with an ANSWER slot's ASSENT goes with the slot (R76), if the entry still carries its number
(log 31). -/
def dropSlotEarmark (k : Nat) (s : State) : State :=
  match (answerAt s k).key, (answerAt s k).content with
  | some (x, n), some .assent => if holdsEarmark s x n then removeEarmark x s else s
  | _, _ => s

/-- No frame on its way holds a reservation any more (R68). -/
def dropReservations (s : State) : State :=
  { s with
    line :=
      { s.line with
        rx := { s.line.rx with reservation := none },
        inbox := s.line.inbox.map (fun d => { d with reservation := none }) } }

/-- The ANSWER slots discarded with their earmarks (R28, R76), in order of slot index, in which the PARITY events of their
earmarks' checks stand (log 7); a reservation for a frame still on its way goes too (R68). -/
def discardAnswers (s : State) : State :=
  dropReservations ((List.range 4).foldl (fun s k => emptyAnswer k (dropSlotEarmark k s)) s)

/-- The HOLD slot filled, attempt count 0 and resting clear (R121). -/
def freshHold : HoldSlot := { occupancy := .filled, attempts := 0, inFlight := false, resting := false }

/-- The HOLD slot may be requested: in ACTIVE, and in JOINING once the join's claim is COMMITTING (R121). -/
def holdAllowed (s : State) : Bool :=
  s.mc.station == .active || (s.mc.station == .joining && s.alloc.claim.any (fun c => c.phase == .committing))

/-- The request of the HOLD slot (R84, R121): filled if empty, left as it is if filled. -/
def requestHold (s : State) : State :=
  if holdAllowed s && s.outbox.hold.occupancy != .filled then setOutbox { s.outbox with hold := freshHold } s else s

/-- The refill of the HOLD slot as the farewell (R121); an attempt of it is cut (R28). -/
def refillHold (s : State) : State := cutAttempt .hold (setOutbox { s.outbox with hold := freshHold } s)

/-! ## Own share -/

def setShare (r : ShareRecord) (s : State) : State := { s with alloc := { s.alloc with share := r } }

def setClaim (c : Option ClaimRecord) (s : State) : State := { s with alloc := { s.alloc with claim := c } }

/-- The drive level (R90), with FAULT_IN as the Pilot Unit last sampled it (R149). -/
def driveLevel (s : State) : Nat :=
  if s.mc.station = .active ∧ s.pilot.faultIn = false then
    min s.alloc.share.held (min s.alloc.share.lastTx s.alloc.share.demand)
  else 0

/-- The drive level recomputed and handed to the Pilot Unit (R90, R148). -/
def recomputeDrive (s : State) : State :=
  { s with pilot := { s.pilot with requested := driveLevel s, former := none } }

/-- Own held takes a value, and the drive level follows at once (R90). -/
def setHeld (n : Nat) (s : State) : State := recomputeDrive (setShare { s.alloc.share with held := n } s)

/-- Length of a backoff, in ms, for a consecutive failure count (R65). -/
def backoffLength (number count : Nat) : Nat := 4 * (number + 1) * 2 ^ min (count - 1) 3

/-- An unsuccessful INCREASE claim is counted, and its backoff started from the raised count (R64, R65). -/
def countFailure (s : State) : State :=
  setShare
    { s.alloc.share with
      failures := min (s.alloc.share.failures + 1) 15,
      backoff := some (backoffLength s.mc.identity.number (min (s.alloc.share.failures + 1) 15)) } s

/-- Own held is lowered to a value, SHARE_CHANGED raised, the HOLD slot requested (R84, R88, R92). -/
def lowerHeld (held : Nat) (s : State) : State :=
  requestHold (raise .shareChanged none none (some (valueOf held)) (setHeld held s))

/-- A decrease (R88). -/
def decrease (s : State) : State :=
  if s.mc.station = .active ∧ s.alloc.share.demand < s.alloc.share.held ∧ s.alloc.share.floor < s.alloc.share.held then
    lowerHeld (max s.alloc.share.demand s.alloc.share.floor) s
  else s

/-! ## Ends of the own claim -/

/-- The own claim record is removed, and its CLAIM slot withdrawn (R52). -/
def removeClaim (s : State) : State := emptyClaim (setClaim none s)

/-- The failure is counted where R64 counts it. -/
def countIf (counted : Bool) (s : State) : State := if counted then countFailure s else s

/-- The own claim is abandoned (R62), counted as R64 states. -/
def abandonClaim (reason : EndReason) (s : State) : State :=
  match s.alloc.claim with
  | none => s
  | some c =>
    countIf (c.kind == .increase && reason != .stateChange)
      (removeClaim (raise .claimAbandoned none (some c.number) (some (joined (claimKindCode c.kind) reason.code)) s))

/-- An own INCREASE claim is abandoned; another claim is left as it is (R92). -/
def abandonIncrease (reason : EndReason) (s : State) : State :=
  if s.alloc.claim.any (fun c => c.kind == .increase) then abandonClaim reason s else s

/-- The claim passes to COMMITTING, and the HOLD slot is requested (R58). -/
def enterCommitting (s : State) : State :=
  requestHold (setClaim (s.alloc.claim.map (fun c => { c with phase := .committing })) s)

/-- Every member of the roll has assented. -/
def ClaimRecord.covered (c : ClaimRecord) : Bool := c.roll.all (fun i => c.assents.contains i)

/-- A claim in AWAITING whose roll is covered passes to COMMITTING (R56, R57). -/
def commitIfCovered (s : State) : State :=
  if s.alloc.claim.any (fun c => c.phase == .awaiting && c.covered) then enterCommitting s else s

/-- The roll without one station, and its ASSENT with it (R56). -/
def ClaimRecord.strike (i : Nat) (c : ClaimRecord) : ClaimRecord :=
  { c with roll := c.roll.filter (· != i), assents := c.assents.filter (· != i) }

/-- The station whose entry this update has made SILENT or ABSENT is struck off the roll, which may cover it (R56). -/
def strikeOff (i : Nat) (s : State) : State :=
  if s.alloc.claim.any (fun c => c.roll.contains i) then
    commitIfCovered (setClaim (s.alloc.claim.map (ClaimRecord.strike i)) s)
  else s

/-! ## Requests resolved -/

/-- A resolution is reported to the Event Unit and becomes the last resolution (R48, R80). -/
def report (r : Resolution) (s : State) : State :=
  raise r.eventKind none none (some r.code) { s with mc := { s.mc with lastResolution := some r } }

def setRequest (r : PendingRequest) (s : State) : State := { s with mc := { s.mc with request := r } }

/-- The record once its first request is resolved (R45, R48): a DETACHED behind it comes first, still waiting. -/
def PendingRequest.next (r : PendingRequest) : PendingRequest :=
  { first := if r.behind then some .detached else none, taken := false, behind := false }

/-- The first pending request is resolved; a DETACHED behind it takes its place in the record (R45, R48). -/
def resolveFirst (result : CommandResult) (s : State) : State :=
  report (.command .stateRequest s.mc.request.first result) (setRequest s.mc.request.next s)

/-- A taken request is resolved by the state the station reaches (R48). -/
def resolveReached (s : State) : State :=
  if s.mc.request.taken then
    match s.mc.request.first, s.mc.station with
    | some .active, .active => resolveFirst .done s
    | some .active, .fenced => resolveFirst .failed s
    | some .active, .fault => resolveFirst .failed s
    | some .detached, .detached => resolveFirst .done s
    | some .detached, .fault => resolveFirst .failed s
    | _, _ => s
  else s

/-! ## The end of an update of the table -/

/-- The OVERCOMMIT condition and its alert condition take a value (R8). -/
def markOvercommit (b : Bool) (s : State) : State :=
  setCondition .overcommit b { s with table := { s.table with overcommit := b } }

/-- OVERCOMMIT clears (R8, R93). -/
def clearOvercommit (s : State) : State :=
  raise .overcommitClear none none (some (valueOf s.table.sums.held)) (markOvercommit false s)

/-- The condition has become set and the sum fits again: it clears in the same step (R8, R93). -/
def clearIfFits (s : State) : State := if s.table.sums.held ≤ capacity s then clearOvercommit s else s

/-- The cut of own held to the floor (R92). -/
def cutToFloor (s : State) : State :=
  if s.mc.station = .active ∧ s.alloc.share.floor < s.alloc.share.held then lowerHeld s.alloc.share.floor s else s

/-- OVERCOMMIT is set (R8, R92), by a HOLD of `source` if one set it: OVERCOMMIT_SET, the own INCREASE claim abandoned,
own held cut to the floor; these changes of the own records are updates of their own (R7), which may clear the condition
in the same step (log 8). -/
def setOvercommit (source : Option Nat) (s : State) : State :=
  clearIfFits (refreshSums (cutToFloor (abandonIncrease .overcommit
    (raise .overcommitSet source none (some (valueOf s.table.sums.held)) (markOvercommit true s)))))

/-- The recomputation of OVERCOMMIT at the end of an update (R7, R8). -/
def settleOvercommit (source : Option Nat) (s : State) : State :=
  if capacity s < s.table.sums.held ∧ s.table.overcommit = false then setOvercommit source s
  else if s.table.sums.held ≤ capacity s ∧ s.table.overcommit = true then clearOvercommit s
  else s

/-- The end of an update of the Share Table (R7, R8, R21): the sums recomputed, then SUSPECT_PRESENT and a change of
OVERCOMMIT handed on. -/
def settle (source : Option Nat) (s : State) : State :=
  settleOvercommit source (setCondition .suspectPresent (anySuspect s) (refreshSums s))

/-- The start conditions of an INCREASE claim (R53), the room as the last update of the table left it (R7). -/
def mayStart (s : State) : Bool :=
  s.mc.station == .active && s.alloc.share.held < s.alloc.share.demand && s.alloc.claim.isNone && !s.table.overcommit
    && !anySuspect s && !(views s).any (·.carries .floor) && s.alloc.share.backoff.isNone && 1 ≤ s.table.sums.room

/-- A claim record at its creation (R32, R52, R53). -/
def freshClaim (kind : ClaimKind) (number : Byte) (amount : Nat) : ClaimRecord :=
  { kind := kind, number := number, amount := amount, phase := .sending, roll := [], assents := []
    window := Config.responseWindow, deadline := Config.commitDeadline, inFlight := false, deadlinePassed := false }

/-- The CLAIM slot as the start of a claim fills it (R122). -/
def freshClaimSlot (kind : ClaimKind) (number : Byte) : ClaimSlot :=
  { occupancy := .filled, key := some number, content := some kind, attempts := 0, inFlight := false }

/-- An own claim is opened (R32, R53): the claim number counter advances, the record is created in SENDING, the CLAIM slot
is filled. -/
def openClaim (kind : ClaimKind) (amount : Nat) (s : State) : State :=
  { s with
    alloc :=
      { s.alloc with
        share := { s.alloc.share with claimCounter := s.alloc.share.claimCounter + 1 },
        claim := some (freshClaim kind (s.alloc.share.claimCounter + 1) amount) },
    outbox := { s.outbox with claim := freshClaimSlot kind (s.alloc.share.claimCounter + 1) } }

/-- The test of the start conditions, and the start (R53): the own entry gains the claim's earmark, and the sums are
recomputed (R7). -/
def tryStart (s : State) : State :=
  if mayStart s then
    refreshSums (openClaim .increase (min (s.alloc.share.demand - s.alloc.share.held) s.table.sums.room) s)
  else s

/-- The end of an update of the table: what it hands on, then the test of the start conditions (R7, R53, R95). -/
def endUpdate (source : Option Nat) (s : State) : State := tryStart (settle source s)

/-- Between two states an entry, the own share record or the own claim record has changed, so that the step from the one to
the other is an update of the table (R7, R79). -/
def recordsChanged (before after : State) : Bool :=
  after.table.entries != before.table.entries || after.alloc.share != before.alloc.share
    || after.alloc.claim != before.alloc.claim

/-- The end of a step that is an update only where it changed an entry or an own record (R7, R79; log 36). -/
def endIfChanged (before after : State) : State := if recordsChanged before after then endUpdate none after else after

/-! ## Changes of station state -/

/-- The slots that the new state allows (R28): everything else is discarded, LEAVING and FENCED refill the HOLD slot as
the farewell (R37, R42). -/
def discardSlots (new : StationState) (s : State) : State :=
  match new with
  | .active => s
  | .leaving | .fenced => refillHold (emptyClaim (discardAnswers s))
  | _ => emptyHold (emptyClaim (discardAnswers s))

/-- The station state takes a value, handed to the Pilot Unit and to the alert conditions FENCED and FAULT (R27, R151,
R168). -/
def setStation (new : StationState) (s : State) : State :=
  setCondition .fault (new == .fault) (setCondition .fenced (new == .fenced)
    { s with mc := { s.mc with station := new }, pilot := { s.pilot with stateCopy := new } })

/-- Outside ACTIVE and JOINING an open claim is abandoned (R62). -/
def abandonOutside (new : StationState) (s : State) : State :=
  if new = .active ∨ new = .joining then s else abandonClaim .stateChange s

/-- On leaving ACTIVE every earmark goes (R76). -/
def dropEarmarksLeaving (old new : StationState) (s : State) : State :=
  if old = .active ∧ new ≠ .active then removeAllEarmarks s else s

/-- Own held is 0 outside ACTIVE (R79), and the drive level follows the state (R90). -/
def heldForState (new : StationState) (s : State) : State := if new = .active then recomputeDrive s else setHeld 0 s

/-- The join-retry count on entering WAITING (R36). -/
def clearRetry (new : StationState) (s : State) : State :=
  if new = .waiting then { s with mc := { s.mc with retry := 0 } } else s

/-- A period start that is due may still fall between the two hand-overs of a change of state (R154): what the Pilot Unit
held before them is kept until the period start. -/
def keepFormer (before s : State) : State :=
  { s with pilot :=
    { s.pilot with
      former := if 0 < s.pilot.periodDue then some (before.pilot.requested, before.pilot.stateCopy) else none } }

/-- A change of station state with its entry actions (R27, R28, R34 to R44, R76, R79): outside ACTIVE and JOINING an open
claim is abandoned; STATE_CHANGED; the slots; on leaving ACTIVE the earmarks; own held is 0 outside ACTIVE; the join-retry
count on entering WAITING; a pending request resolved by the state reached; the end of the update. The order of its events,
with PARITY after STATE_CHANGED, is log 7's. -/
def changeState (new : StationState) (s : State) : State :=
  settle none (resolveReached (clearRetry new (keepFormer s (heldForState new (dropEarmarksLeaving s.mc.station new
    (discardSlots new (setStation new
      (raise .stateChanged none none (some (joined s.mc.station.code new.code)) (abandonOutside new s)))))))))

/-- The own silence counter returns to 0 (R32, R85, R87). -/
def clearSilence (s : State) : State := setShare { s.alloc.share with silence := 0 } s

/-- The entry to JOINING (R32): the FLOOR claim is opened and the own silence counter returns to 0. -/
def enterJoining (s : State) : State :=
  openClaim .floor s.alloc.share.floor (clearSilence (changeState .joining s))

/-- What follows a claim that failed or lapsed: an INCREASE claim is counted (R64), a join ends in `state` (R35). -/
def afterClaim (kind : ClaimKind) (state : StationState) (s : State) : State :=
  match kind with
  | .increase => countFailure s
  | .floor => changeState state s

/-- The own claim fails (R54, R55, R57, R61): an INCREASE claim is counted (R64); a join goes to WAITING, or to FAULT for
MISMATCH (R35). -/
def failClaim (reason : EndReason) (objector : Option Nat) (s : State) : State :=
  match s.alloc.claim with
  | none => s
  | some c =>
    afterClaim c.kind (if reason = .mismatch then .fault else .waiting)
      (removeClaim (raise .claimFailed objector (some c.number) (some (joined (claimKindCode c.kind) reason.code)) s))

/-- The own claim lapses (R60); a join goes to WAITING (R35). -/
def lapseClaim (s : State) : State :=
  match s.alloc.claim with
  | none => s
  | some c =>
    afterClaim c.kind .waiting
      (removeClaim (raise .claimLapsed none (some c.number) (some (valueOf c.amount)) s))

/-! ## Reset -/

/-- The transmitter at the entry to RESET (R117): an attempt is cut, one that has been taken to its end or to a mismatch
ends with its bit time, and a cut mark runs on. -/
def Transmitter.intoReset (tx : Transmitter) : Transmitter := if tx.over then .none else tx.cut.stop

/-- The entry to RESET, from whichever source (R25, R117, R158, R174, R179): every block takes its reset values; the pins
keep their levels, and a cut mark runs to its end. -/
def enterReset (rstN : Bool) (internal : Nat) (s : State) : State :=
  { State.reset with
    pins := { s.pins with rstN := rstN, internalReset := internal }
    line := { LineInterface.initial with tx := s.line.tx.intoReset, bits := s.line.bits }
    pending := s.pending }

end Sys2Proof.Machine
end

