-- ==== Sys2Proof/Machine/Outcomes.lean ====
section
/-! DEFINITION. Attempts (spec/05, section 5.5; spec/06): the choice of slot, the assembly of its frame, and how an
attempt's outcome acts on the slot and its owner. -/

namespace Sys2Proof.Machine

/-! ## Availability and choice -/

/-- The access gap, in bit times (R111). -/
def accessGap (s : State) : Nat := 40 + 4 * s.mc.identity.number

/-- The line is available to the station (R111). -/
def lineAvailable (s : State) : Bool :=
  s.mc.station != .reset && s.line.tx == .none && !s.pins.txInhibit && accessGap s ≤ s.line.idle

/-- Eligibility of the slots (R125). -/
def HoldSlot.eligible (h : HoldSlot) : Bool := h.occupancy == .filled && !h.inFlight && !h.resting
def ClaimSlot.eligible (c : ClaimSlot) : Bool := c.occupancy == .filled && !c.inFlight
def AnswerSlot.eligible (a : AnswerSlot) : Bool :=
  a.occupancy == .filled && !a.inFlight && !a.waitingShed && !a.expired

/-- The slot handed over at an offer (R126): the eligible answer nearest the head of the answer list, then HOLD, then
CLAIM. -/
def chooseSlot (s : State) : Option SlotId :=
  match s.outbox.answerList.find? (fun k => (answerAt s k).eligible) with
  | some k => some (.answer k)
  | none =>
    if s.outbox.hold.eligible then some .hold else if s.outbox.claim.eligible then some .claim else none

/-! ## Assembly (R81, R82, R58, R37, R127) -/

/-- The open own INCREASE claim's number, as an ordinary HOLD carries it (R81, R98). -/
def openIncrease (s : State) : Option Byte :=
  match s.alloc.claim with
  | some c => if c.kind = .increase then some c.number else none
  | none => none

/-- What an ordinary HOLD assembled now carries (R81). -/
def ordinaryHold (s : State) : HoldAttempt :=
  { held := s.alloc.share.held, floor := s.alloc.share.floor, localFault := s.pilot.faultIn
    openClaim := openIncrease s, commit := none, afterCut := true }

/-- The claim that a HOLD assembled now commits (R58, R82): COMMITTING, its deadline not passed, INCREASE in ACTIVE or
FLOOR in JOINING. -/
def commitDue (s : State) : Option ClaimRecord :=
  match s.alloc.claim with
  | some c =>
    if c.phase = .committing ∧ c.deadlinePassed = false
        ∧ ((s.mc.station = .active ∧ c.kind = .increase) ∨ (s.mc.station = .joining ∧ c.kind = .floor)) then some c
    else none
  | none => none

/-- The HOLD slot's next attempt is the farewell (R82). -/
def saysFarewell (s : State) : Bool := s.mc.station == .leaving || s.mc.station == .fenced

/-- What the HOLD attempt assembled now carries (R82). -/
def holdNow (s : State) : HoldAttempt :=
  if saysFarewell s then
    { ordinaryHold s with held := 0, openClaim := none }
  else
    match commitDue s with
    | some c => { ordinaryHold s with held := s.alloc.share.held + c.amount, openClaim := none, commit := some c.number }
    | none => ordinaryHold s

/-- The frame of a HOLD attempt (R81, R191). -/
def holdFrame (s : State) (a : HoldAttempt) : Frame :=
  { source := s.mc.identity.number
    body := .hold { seq := s.alloc.share.holdSeq, held := a.held, floor := a.floor, commit := a.commit
                    farewell := saysFarewell s, localFault := a.localFault, openClaim := a.openClaim } }

/-- The frame of the CLAIM slot (R32, R54, R127). -/
def claimFrame (s : State) : Option Frame :=
  s.alloc.claim.map (fun c =>
    { source := s.mc.identity.number
      body := match c.kind with
        | .increase => .claim c.number c.amount s.alloc.share.priority
        | .floor => .announce c.number s.alloc.share.floor s.alloc.share.priority s.mc.identity.capacityClass
            s.mc.identity.leaseSelect })

/-- The frame of an ANSWER slot (R127). -/
def answerFrame (s : State) (k : Nat) : Option Frame :=
  match (answerAt s k).key, (answerAt s k).content with
  | some (x, n), some .assent => some { source := s.mc.identity.number, body := .assent x n }
  | some (x, n), some (.object r) => some { source := s.mc.identity.number, body := .object x n r }
  | _, _ => none

/-- The transmitter starts an attempt (R112): SENDING, the first bit being sent; the line-idle timer is held at 0 (R110). -/
def beginSending (slot : SlotId) (f : Frame) (s : State) : State :=
  { s with line := { s.line with tx := .sending { bytes := f.bytes, slot := slot, sent := 0, taken := 0, mismatch := false, stopped := false }
                                 idle := 0 } }

def markAnswerInFlight (k : Nat) (s : State) : State :=
  setOutbox { s.outbox with answers := s.outbox.answers.modify k (fun a => { a with inFlight := true }) } s

def markHoldInFlight (s : State) : State :=
  setOutbox { s.outbox with hold := { s.outbox.hold with inFlight := true } } s

def markClaimInFlight (s : State) : State :=
  setOutbox { s.outbox with claim := { s.outbox.claim with inFlight := true } } s

/-- The description of a HOLD attempt is kept, and a commit attempt becomes IN_FLIGHT (R58, R127). -/
def noteAttempt (a : HoldAttempt) (s : State) : State :=
  { s with
    alloc :=
      { s.alloc with
        holdAttempt := some a,
        claim := if a.commit.isSome then s.alloc.claim.map (fun c => { c with inFlight := true }) else s.alloc.claim } }

/-- A HOLD attempt starts (R127): its description is kept, and a commit attempt becomes IN_FLIGHT (R58), which changes the
own claim record and so is an update of the table (R7, R79). -/
def startHold (s : State) : State :=
  endIfChanged s (beginSending .hold (holdFrame s (holdNow s)) (markHoldInFlight (noteAttempt (holdNow s) s)))

/-- An attempt of the CLAIM slot starts (R127). -/
def startClaim (s : State) : State :=
  match claimFrame s with
  | some f => beginSending .claim f (markClaimInFlight s)
  | none => s

/-- An attempt of an ANSWER slot starts (R127). -/
def startAnswer (k : Nat) (s : State) : State :=
  match answerFrame s k with
  | some f => beginSending (.answer k) f (markAnswerInFlight k s)
  | none => s

/-- An attempt starts from a slot. -/
def startAttempt : SlotId → State → State
  | .hold, s => startHold s
  | .claim, s => startClaim s
  | .answer k, s => startAnswer k s

/-! ## Completed (R55, R85, R128) -/

/-- The consecutive failure count returns to 0 (R64). -/
def clearFailures (s : State) : State := setShare { s.alloc.share with failures := 0 } s

/-- The commit of the own INCREASE claim (R59), with the decrease that a target lowered meanwhile calls for (R63,
R88). -/
def commitIncrease (c : ClaimRecord) (s : State) : State :=
  decrease (removeClaim (clearFailures
    (raise .claimCommitted none (some c.number) (some (valueOf c.amount)) (setHeld (s.alloc.share.held + c.amount) s))))

/-- The commit of the join (R34): own held becomes the floor, and the station enters ACTIVE. -/
def commitJoin (c : ClaimRecord) (s : State) : State :=
  changeState .active (removeClaim
    (raise .claimCommitted none (some c.number) (some (valueOf s.alloc.share.floor))
      (setShare { s.alloc.share with held := s.alloc.share.floor, failures := 0 } s)))

/-- The completed HOLD differs from what an ordinary HOLD assembled now would carry (R85). -/
def stale (a : HoldAttempt) (s : State) : Bool :=
  a.held != s.alloc.share.held || a.floor != s.alloc.share.floor || a.localFault != s.pilot.faultIn
    || a.openClaim != openIncrease s

/-- The shed check (R74, R85): a HOLD assembled after the cut lifts the waiting-on-shed mark. -/
def shedCheck (a : HoldAttempt) (s : State) : State :=
  if a.afterCut then
    setOutbox { s.outbox with answers := s.outbox.answers.map (fun b => { b with waitingShed := false }) } s
  else if s.outbox.answers.any (·.waitingShed) then requestHold s
  else s

/-- A commit still owed requests the slot again (R58). -/
def owedCommit (s : State) : State :=
  if s.alloc.claim.any (fun c => c.phase == .committing) then requestHold s else s

/-- A stale HOLD is followed by another (R85). -/
def staleCheck (a : HoldAttempt) (s : State) : State := if stale a s then requestHold s else s

/-- The checks of a HOLD completion in ACTIVE (R58, R74, R85). -/
def holdChecks (a : HoldAttempt) (s : State) : State := staleCheck a (owedCommit (shedCheck a s))

/-- The changes of the own share record that every HOLD completion makes (R85, 1 to 3). -/
def noteHold (a : HoldAttempt) (s : State) : State :=
  recomputeDrive
    (setShare { s.alloc.share with lastTx := a.held, holdSeq := s.alloc.share.holdSeq + 1, silence := 0 } s)

/-- The changes that every HOLD completion makes (R85, 1 to 4). -/
def holdDone (a : HoldAttempt) (s : State) : State := emptyHold (noteHold a s)

/-- What follows a HOLD completion, by the station state and the commit attempt (R34, R38, R42, R59, R85). -/
def holdFollows (a : HoldAttempt) (s : State) : State :=
  match s.mc.station, s.alloc.claim with
  | .leaving, _ => changeState .detached s
  | .active, some c => holdChecks a (if c.inFlight then commitIncrease c s else s)
  | .active, none => holdChecks a s
  | .joining, some c => if c.inFlight then holdChecks a (commitJoin c s) else s
  | _, _ => s

/-- An attempt of the HOLD slot is COMPLETED (R85). -/
def holdCompleted (s : State) : State :=
  match s.alloc.holdAttempt with
  | some a => endUpdate none (holdFollows a (holdDone a s))
  | none => emptyHold s

/-- A HOLD attempt is COMPLETED whose slot has been emptied or refilled after its last bit was taken: the declaration has
reached the line, and nothing follows from it for the slot, the claim or the station state (log 34). -/
def holdOutlived (s : State) : State :=
  match s.alloc.holdAttempt with
  | some a => endUpdate none (noteHold a s)
  | none => s

/-- The roll (R33, R55): the MEMBER entries, the own number excluded. -/
def rollNow (s : State) : List Nat :=
  (List.range Config.stations).filter (fun i => isPeer s i && (entryAt s i).stands .member)

/-- The claim in AWAITING, with the roll taken and its counts at their start (R55). -/
def ClaimRecord.await (c : ClaimRecord) (roll : List Nat) : ClaimRecord :=
  { c with
    phase := .awaiting, roll := roll, assents := [], window := Config.responseWindow, deadline := Config.commitDeadline,
    inFlight := false, deadlinePassed := false }

/-- A completed ANNOUNCE returns the own silence counter to 0 (R87). -/
def announceSent (kind : ClaimKind) (s : State) : State :=
  match kind with
  | .floor => clearSilence s
  | .increase => s

/-- The roll is taken (R55); an INCREASE claim fails when an entry is SUSPECT. -/
def takeRoll (c : ClaimRecord) (s : State) : State :=
  if c.kind = .increase ∧ anySuspect s = true then failClaim .suspect none s
  else commitIfCovered (setClaim (some (c.await (rollNow s))) s)

/-- An attempt of the CLAIM slot is COMPLETED (R55, R87): the roll is taken and the window and deadline start; an ANNOUNCE
returns the own silence counter to 0; an INCREASE claim fails when an entry is SUSPECT. -/
def claimCompleted (s : State) : State :=
  match s.alloc.claim with
  | none => emptyClaim s
  | some c => endUpdate none (takeRoll c (announceSent c.kind (emptyClaim s)))

/-- The frame sent is an ANNOUNCE, by its kind-and-length byte (R101, R191). -/
def Attempt.announces (a : Attempt) : Bool := a.bytes[2]?.any (fun kl => kindOf kl == 3)

/-- An attempt of the CLAIM slot is COMPLETED whose slot has been emptied after its last bit was taken (log 34): an ANNOUNCE
has reached the line all the same, and returns the own silence counter to 0 (R87). -/
def claimOutlived (a : Attempt) (s : State) : State := if a.announces then endIfChanged s (clearSilence s) else s

/-- A COMPLETED report of an attempt reaches the slot and its owner (R128), if the slot still holds what was sent
(log 34). -/
def slotCompleted (a : Attempt) (s : State) : State :=
  match a.slot with
  | .hold => if s.outbox.hold.inFlight then holdCompleted s else holdOutlived s
  | .claim => if s.outbox.claim.inFlight then claimCompleted s else claimOutlived a s
  | .answer k => if (answerAt s k).inFlight then emptyAnswer k s else s

/-! ## Collided or cut, the slot kept (R86, R129 to R133) -/

/-- The value of TX_GAVE_UP (R133, R193): slot kind, frame kind, kept resting or not; bits 3 to 1 of the low byte, of which
the manual says nothing, are 0 (log 41). -/
def gaveUpValue (slotKind frameKind : Nat) (kept : Bool) : Half := joined slotKind (frameKind * 16 + kept.toNat)

/-- The HOLD slot after 16 attempts (R131). -/
def restOrDrop (s : State) : State :=
  match s.mc.station with
  | .active => setOutbox { s.outbox with hold := { s.outbox.hold with resting := true } } s
  | .leaving => changeState .detached (emptyHold s)
  | _ => emptyHold s

/-- The HOLD slot has spent 16 attempts (R131, R133): resting in ACTIVE, dropped elsewhere; LEAVING ends in DETACHED. -/
def holdExhausted (s : State) : State :=
  restOrDrop
    (raise .txGaveUp none (s.alloc.holdAttempt.bind (·.commit)) (some (gaveUpValue 1 1 (s.mc.station == .active))) s)

/-- The demand target lies at or below own held, with an INCREASE claim open (R63). -/
def dropDue (c : ClaimRecord) (s : State) : Bool := c.kind == .increase && s.alloc.share.demand ≤ s.alloc.share.held

/-- What a failed commit attempt does to its claim (R58, R60, R63): it lapses if its deadline has passed, is abandoned if
the demand target has dropped, and waits otherwise. Where the first two hold together the manual gives no order
(`Config.lapseBeforeDrop`, log 9). -/
def settleFailedCommit (c : ClaimRecord) (s : State) : State :=
  match c.deadlinePassed, dropDue c s with
  | true, true => if Config.lapseBeforeDrop then lapseClaim s else abandonClaim .demandDrop s
  | true, false => lapseClaim s
  | false, true => abandonClaim .demandDrop s
  | false, false => s

/-- A commit attempt reported COLLIDED or CUT (R58, R60, R63): back to NONE. -/
def settleCommit (s : State) : State :=
  match s.alloc.claim with
  | none => s
  | some c => if c.inFlight then settleFailedCommit c (setClaim (some { c with inFlight := false }) s) else s

/-- The attempts a slot has spent after a report: COLLIDED counts, CUT does not (R129). -/
def spent (collided : Bool) (attempts : Nat) : Nat := attempts + collided.toNat

/-- The report reaches the HOLD slot (R129). -/
def countHold (collided : Bool) (s : State) : State :=
  setOutbox
    { s.outbox with
      hold := { s.outbox.hold with inFlight := false, attempts := spent collided s.outbox.hold.attempts } } s

/-- The sixteenth counted attempt of the HOLD slot (R131). -/
def exhaustHold (collided : Bool) (s : State) : State :=
  if collided = true ∧ Config.maxAttempts ≤ s.outbox.hold.attempts then holdExhausted s else s

/-- A HOLD attempt reported COLLIDED or CUT (R86, R129, R131): an update of the table where it changes the own claim record
(R7), not where an ordinary HOLD is kept for its next attempt. -/
def holdFailed (collided : Bool) (s : State) : State :=
  endIfChanged s (settleCommit (exhaustHold collided (countHold collided s)))

/-- The report reaches the CLAIM slot (R129). -/
def countClaim (collided : Bool) (s : State) : State :=
  setOutbox
    { s.outbox with
      claim := { s.outbox.claim with inFlight := false, attempts := spent collided s.outbox.claim.attempts } } s

/-- Frame kind code of the CLAIM slot's content (R191). -/
def claimFrameKind : Option ClaimKind → Nat
  | some .floor => 3
  | _ => 2

/-- The sixteenth counted attempt of the CLAIM slot (R130). -/
def exhaustClaim (collided : Bool) (s : State) : State :=
  if collided = true ∧ Config.maxAttempts ≤ s.outbox.claim.attempts then
    endUpdate none (failClaim .txFailed none
      (raise .txGaveUp none s.outbox.claim.key (some (gaveUpValue 2 (claimFrameKind s.outbox.claim.content) false))
        (emptyClaim s)))
  else s

/-- A claim frame's attempt reported COLLIDED or CUT (R129, R130): at 16 attempts the slot is dropped and the claim fails
with TX_FAILED. -/
def claimFailed (collided : Bool) (s : State) : State := exhaustClaim collided (countClaim collided s)

/-- Frame kind and content code of an answer (R191, R193). -/
def Answer.frameKind : Answer → Nat
  | .assent => 4 | .object _ => 5
def Answer.code : Answer → Nat
  | .assent => 1 | .object _ => 2

/-- ANSWER_EXPIRED (R77): claimant, claim number, reason (1 DEADLINE, 2 ATTEMPTS) and content. -/
def raiseExpired (reason : Nat) (a : AnswerSlot) (s : State) : State :=
  raise .answerExpired (a.key.map (·.1)) (a.key.map (·.2))
    (some (joined reason ((a.content.map Answer.code).getD 0))) s

/-- An answer dropped with the earmark of its ASSENT (R76, R77, R130): an update of the table where an earmark goes (R7). The
PARITY of the earmark's check stands after ANSWER_EXPIRED (log 7). -/
def dropAnswer (k reason : Nat) (s : State) : State :=
  endIfChanged s (emptyAnswer k (dropSlotEarmark k (raiseExpired reason (answerAt s k) s)))

/-- A report counts against the slot's content (R129, R130): COLLIDED, of an attempt sent for the content that the slot still
holds (log 26). -/
def AnswerSlot.charged (collided : Bool) (a : AnswerSlot) : Bool := collided && !a.rewritten

/-- The slot once the report has reached it (R129). -/
def AnswerSlot.reported (charged : Bool) (a : AnswerSlot) : AnswerSlot :=
  { a with inFlight := false, rewritten := false, attempts := spent charged a.attempts }

/-- The report reaches an ANSWER slot (R129). -/
def countAnswer (k : Nat) (charged : Bool) (s : State) : State :=
  setOutbox { s.outbox with answers := s.outbox.answers.modify k (AnswerSlot.reported charged) } s

/-- TX_GAVE_UP for an ANSWER slot (R133). -/
def raiseGaveUp (a : AnswerSlot) (s : State) : State :=
  raise .txGaveUp (a.key.map (·.1)) (a.key.map (·.2))
    (some (gaveUpValue 3 ((a.content.map Answer.frameKind).getD 0) false)) s

/-- An expired slot is dropped at the report (R77), another at its sixteenth counted attempt (R130). -/
def exhaustAnswer (k : Nat) (charged : Bool) (s : State) : State :=
  if (answerAt s k).expired then dropAnswer k 1 s
  else if charged = true ∧ Config.maxAttempts ≤ (answerAt s k).attempts then
    dropAnswer k 2 (raiseGaveUp (answerAt s k) s)
  else s

/-- What a report does to an ANSWER slot, once it is known whether it counts (R77, R129, R130, R133). -/
def reportAnswer (k : Nat) (charged : Bool) (s : State) : State := exhaustAnswer k charged (countAnswer k charged s)

/-- An answer's attempt reported COLLIDED or CUT (R77, R129, R130, R133). -/
def answerFailed (k : Nat) (collided : Bool) (s : State) : State :=
  reportAnswer k ((answerAt s k).charged collided) s

/-- A COLLIDED or CUT report reaches the slot and its owner, unless the slot was emptied or refilled after the attempt started
(R123, R124, R129); an ANSWER slot rewritten meanwhile is not charged with it (`AnswerSlot.charged`). -/
def slotFailed (collided : Bool) : SlotId → State → State
  | .hold, s => if s.outbox.hold.inFlight then holdFailed collided s else s
  | .claim, s => if s.outbox.claim.inFlight then claimFailed collided s else s
  | .answer k, s => if (answerAt s k).inFlight then answerFailed k collided s else s

end Sys2Proof.Machine
end

