-- ==== Sys2Proof/Machine/Reset.lean ====
section
/-! DEFINITION. The reset commands: RST_N_ASSERTED, POWER_UP, RESET_END (R25, R26, R27). -/

namespace Sys2Proof.Machine

/-- The number of strap pins at the high level among SN4 to SN0 and SNP (R26). -/
def strapsHigh (p : Straps) : Nat :=
  (p.sn.getLsbD 0).toNat + (p.sn.getLsbD 1).toNat + (p.sn.getLsbD 2).toNat + (p.sn.getLsbD 3).toNat
    + (p.sn.getLsbD 4).toNat + p.snp.toNat

/-- The identity that the straps give (R26): valid when the number is 0 to 23 and the parity is odd. -/
def identityOf (p : Straps) : Identity :=
  { number := p.sn.toNat, valid := decide (p.sn.toNat ≤ 23) && strapsHigh p % 2 == 1
    capacityClass := p.cc.toNat, leaseSelect := p.ls.toNat }

/-- RST_N goes low (R25): RESET from any state; an internal reset in progress runs on. -/
def rstNAsserted (s : State) : State :=
  enterReset false (if s.mc.station = .reset then s.pins.internalReset else 0) s

/-- The supply comes into range (R25): an internal reset of 1 ms, 4096 OSC_IN periods (R136). -/
def powerUp (s : State) : State := enterReset s.pins.rstN Config.tickPeriods s

/-- What reset end fixes: the straps latched (R26), the first bit time begun (R100), the port in IDLE or IGNORE (R176). -/
def latch (straps : Straps) (s : State) : State :=
  { s with
    mc := { s.mc with identity := identityOf straps }
    line := { s.line with bits := BitClock.start { acc := 0, length := 16, pos := 0, taken := false } }
    port := { s.port with transaction := if s.pins.selN then .idle else .ignore } }

/-- RST_N goes high (R25; log 3). -/
def releaseRstN (s : State) : State := { s with pins := { s.pins with rstN := true } }

/-- Nothing holds RESET but RST_N: no internal reset is in progress (R136), and the transmitter, whose cut mark OSC_IN
times, is in NONE (R117, R147; log 12). -/
def mayLeaveReset (s : State) : Bool := s.pins.internalReset == 0 && s.line.tx == .none

/-- RESET_END (R25, R26, R27): RST_N is high; if nothing else holds RESET, reset ends: the straps are latched, the first bit
time begins (R100), SEL_N low leads the port to IGNORE (R179), and the station enters OFFLINE or MONITOR with
STATE_CHANGED as the first entry of the queue. Outside RESET there is no reset to end. -/
def resetEnd (straps : Straps) (s : State) : State :=
  if s.mc.station = .reset then
    if mayLeaveReset s then
      changeState (if (identityOf straps).valid then .offline else .monitor) (latch straps (releaseRstN s))
    else releaseRstN s
  else s

/-- RST_N_ASSERTED (R25). -/
def execRstNAsserted (s : State) : Host.Outcome State Fault Refusal := .next (rstNAsserted s)

/-- POWER_UP (R25). -/
def execPowerUp (s : State) : Host.Outcome State Fault Refusal := .next (powerUp s)

/-- RESET_END (R26). -/
def execResetEnd (straps : Straps) (s : State) : Host.Outcome State Fault Refusal := .next (resetEnd straps s)

end Sys2Proof.Machine
end

