-- ==== Sys2Proof/Machine/Line.lean ====
section
/-! DEFINITION. The Line Interface (spec/05): receiver, verdicts, offers, the ends of attempts and cut marks,
TX_INHIBIT, and the pins LINE_DE and LINE_TX. -/

namespace Sys2Proof.Machine

/-! ## The pins -/

/-- LINE_DE asserted (R100, R112, R115). -/
def lineDe (s : State) : Bool := !s.line.tx.over

/-- The level on LINE_TX, true for high (R100). -/
def lineTx (s : State) : Bool := s.line.tx.level

def setLine (l : LineInterface) (s : State) : State := { s with line := l }

/-! ## The receiver -/

/-- The sync pattern (R102): AAh then 2Dh as their bits are sent, the first bit sent most significant. -/
def syncPattern : Half := 0x55B4

/-- The window holds the sync pattern in HUNT (R102). -/
def Receiver.synced (r : Receiver) : Bool := r.mode == .hunt && r.window == syncPattern

/-- The move to HEADER (R102), with whether the frame began with the first bit of an own attempt (R108): 16 of the
attempt's bits have then been read back as sent. -/
def Receiver.enterHeader (r : Receiver) (tx : Transmitter) : Receiver :=
  { r with
    mode := .header, bits := [], cls := none, ownMark := false, reservation := none,
    ownStart := (match tx with
      | .sending a => a.taken == 16 && tx.intact
      | _ => false) }

/-- The receiver with a sync match that has not been taken yet taken (log 17). -/
def Receiver.afterSync (r : Receiver) (tx : Transmitter) : Receiver := if r.synced then r.enterHeader tx else r

/-- The receiver takes a bit (R102, R107, R108): the HUNT window shifts; HEADER and BODY collect the bit, record the class
once the source byte is in, and note a cut mark of the station's own; SKIP counts. `tx` is the transmitter after its
comparison of the bit. -/
def Receiver.takeBit (r : Receiver) (recessive : Bool) (tx : Transmitter) : Receiver :=
  match r.mode with
  | .hunt => { r with window := (r.window <<< 1) ||| (if recessive then 1 else 0) }
  | .skip => { r with skipLeft := r.skipLeft - 1 }
  | .header | .body =>
    { r with
      bits := r.bits ++ [recessive],
      ownMark := r.ownMark || tx.marks,
      cls := if r.bits.length + 1 = 16 then some (if r.ownStart && tx.intact then .own else .foreign) else r.cls }

/-- The line-idle timer at a bit (R110). -/
def idleAfter (idle : Nat) (recessive : Bool) (mode : RxMode) (tx : Transmitter) : Nat :=
  if recessive = true ∧ mode = .hunt ∧ tx.over = true then min (idle + 1) Config.idleTop else 0

/-- The bit of the bit time in progress is taken (R100, R102, R110, R113). A sync match not yet taken is taken first, so
that no bit of the frame is lost (log 17). -/
def LineInterface.takeBit (recessive : Bool) (l : LineInterface) : LineInterface :=
  { l with
    tx := l.tx.compare recessive,
    rx := (l.rx.afterSync l.tx).takeBit recessive (l.tx.compare recessive),
    bits := l.bits.take,
    idle := idleAfter l.idle recessive (l.rx.afterSync l.tx).mode l.tx }

/-- LINE_BIT_TAKEN (R100, R110): the bit of the bit time in progress, or of the next one if that bit has been taken. In
RESET none is taken (R102). -/
def lineBitTaken (recessive : Bool) (s : State) : State :=
  if s.mc.station = .reset then s else setLine (s.line.untaken.takeBit recessive) s

/-- A recessive-to-dominant edge on LINE_RX (R100). In RESET only what the transmitter still drives has a bit timing
(R117). -/
def lineRxEdge (s : State) : State :=
  if s.mc.station = .reset then
    if s.line.tx = .none then s else setLine s.line.edge.release s
  else setLine s.line.edge s

/-- The sync pattern has been taken in HUNT (R102): HEADER, and the line-idle timer is held at 0 (R110). -/
def syncPatternMatch (s : State) : State :=
  if s.mc.station ≠ .reset ∧ s.line.rx.synced = true then
    setLine { s.line with rx := s.line.rx.enterHeader s.line.tx, idle := 0 } s
  else s

/-- The frame in progress holds a reservation (R67). -/
def noteReservation (k : Nat) (s : State) : State :=
  setLine { s.line with rx := { s.line.rx with reservation := some k } } s

/-- An empty ANSWER slot once reserved (R67). -/
def AnswerSlot.reservedFor (x : Nat) (n : Byte) : AnswerSlot :=
  { AnswerSlot.empty with occupancy := .reserved, key := some (x, n) }

/-- The reservation of an ANSWER slot at a header (R67): the slot that holds the key, else the lowest-numbered empty one
(log 32), else ANSWER_DROPPED. -/
def reserveAnswer (kind x : Nat) (n : Byte) (s : State) : State :=
  match slotFor s x n with
  | some k => noteReservation k s
  | none =>
    match s.outbox.answers.findIdx? (fun a => a.occupancy == .empty) with
    | some k =>
      noteReservation k
        (setOutbox { s.outbox with answers := s.outbox.answers.set k (AnswerSlot.reservedFor x n) } s)
    | none => raise .answerDropped (some x) (some n) (some (BitVec.ofNat 16 kind)) s

/-- FRAME_BAD (R106), but for a frame in which the station itself drove a cut mark. -/
def raiseFrameBad (ownMark : Bool) (station : Option Nat) (c : BadClass) (s : State) : State :=
  if ownMark then s else raise .frameBad station none (some (BitVec.ofNat 16 c.code)) s

/-- The receiver enters SKIP for what is left of 97 bit times (R107). -/
def enterSkip (s : State) : State :=
  setLine
    { s.line with
      rx := { Receiver.hunting with mode := .skip, skipLeft := Config.skipBits - s.line.rx.bits.length }, idle := 0 } s

/-- The receiver enters BODY (R103). -/
def enterBody (s : State) : State := setLine { s.line with rx := { s.line.rx with mode := .body } } s

/-- The header is judged (R103, R104, R107): BAD leads to SKIP for the rest of 97 bit times; a complete header leads to
BODY, and in ACTIVE a FOREIGN CLAIM or ANNOUNCE of another station reserves an ANSWER slot (R67). -/
def frameHeader (s : State) : State :=
  if s.line.rx.mode = .header then
    match judgeHeader s.line.rx.bits with
    | .incomplete => s
    | .bad c => raiseFrameBad s.line.rx.ownMark none c (enterSkip s)
    | .complete kind x first =>
      if s.mc.station = .active ∧ s.line.rx.cls = some .foreign ∧ (kind = 2 ∨ kind = 3) ∧ x ≠ s.mc.identity.number then
        reserveAnswer kind x first (enterBody s)
      else enterBody s
  else s

/-- The receiver returns to HUNT, the line-idle timer at 0 (R105, R107, R110). -/
def toHunt (s : State) : State := setLine { s.line with rx := .hunting, idle := 0 } s

/-- The end of SKIP (R107). -/
def skipEnd (s : State) : State :=
  if s.line.rx.mode = .skip ∧ s.line.rx.skipLeft = 0 then toHunt s else s

/-- A reservation undone by a BAD verdict (R68): a slot that was empty is empty and unkeyed again. -/
def releaseReservation (r : Option Nat) (s : State) : State :=
  match r with
  | some k => if (answerAt s k).occupancy = .reserved then emptyAnswer k s else s
  | none => s

/-- The DUPLICATE condition becomes active, until reset (R43, R168). -/
def markDuplicate (s : State) : State := setCondition .duplicate true { s with mc := { s.mc with duplicate := true } }

/-- The station moves to FAULT, unless it is there (R43). -/
def toFault (s : State) : State := if s.mc.station = .fault then s else changeState .fault s

/-- A duplicate outside MONITOR (R43): DUPLICATE, the condition active until reset, FAULT. In FAULT with the condition
already active it raises nothing. -/
def takeDuplicate (kind : Nat) (s : State) : State :=
  if s.mc.station = .fault ∧ s.mc.duplicate = true then s
  else toFault (markDuplicate (raise .duplicate (some s.mc.identity.number) none (some (BitVec.ofNat 16 kind)) s))

/-- A GOOD frame is handed on for the Share Table, the Allocation Engine and the Membership Controller (R5, R104). -/
def deliver (f : Frame) (r : Option Nat) (s : State) : State :=
  setLine { s.line with inbox := s.line.inbox ++ [{ frame := f, reservation := r }] } s

/-- A GOOD verdict (R5, R30, R43, R108): an OWN frame is applied nowhere; a FOREIGN frame from the own number is a
duplicate, and in MONITOR it is reported and taken like any other. -/
def goodFrame (f : Frame) (cls : Option FrameClass) (r : Option Nat) (s : State) : State :=
  if cls = some .own then s
  else if f.source = s.mc.identity.number then
    if s.mc.station = .monitor then
      deliver f r (raise .duplicate (some f.source) none (some (BitVec.ofNat 16 f.body.kindCode)) s)
    else takeDuplicate f.body.kindCode s
  else deliver f r s

/-- The frame's bits are all in, its end space included (R105). -/
def Receiver.frameIn (r : Receiver) : Bool := frameSpan (lengthOf (byteOfBits (r.bits.take 8))) ≤ r.bits.length

/-- The verdict on the frame that the receiver held (R105, R106). -/
def judgeFrame (rx : Receiver) (s : State) : State :=
  match verdictOf rx.bits with
  | .bad c =>
    raiseFrameBad rx.ownMark (some (byteOfBits ((rx.bits.drop 8).take 8)).toNat) c (releaseReservation rx.reservation s)
  | .good f => goodFrame f rx.cls rx.reservation s

/-- The verdict at the end of the end space (R105, R106); the receiver returns to HUNT. -/
def frameVerdict (s : State) : State :=
  if s.line.rx.mode = .body ∧ s.line.rx.frameIn = true then judgeFrame s.line.rx (toHunt s) else s

/-! ## Attempts -/

/-- A bit boundary (R111): a bit time begins, or the bit of the one in progress has been taken, so that the next boundary
is the one at hand (log 3). -/
def BitClock.atBoundary (b : BitClock) : Bool := b.taken || b.pos == 0

/-- The boundary at hand is reached. -/
def toBoundary (s : State) : State := setLine s.line.untaken s

/-- The offer of the line (R111, R126): at a bit boundary at which the line is available, an attempt starts from the chosen
slot, or none does. -/
def lineOffer (s : State) : State :=
  if lineAvailable s = true ∧ s.line.bits.atBoundary = true then
    match chooseSlot s with
    | some slot => startAttempt slot (toBoundary s)
    | none => s
  else s

/-- The bit time in which an attempt or a mark ended is over, and the transmitter enters NONE (R113, R114, R115): the
boundary that ends it is reached now, if it has not been yet (log 3). -/
def endAttempt (s : State) : State :=
  setLine { s.line with bits := if s.line.tx.over then s.line.bits else s.line.bits.start, tx := .none } s

/-- ATTEMPT_COMPLETED (R114, R128): the last check bit was taken as sent. -/
def attemptCompleted (s : State) : State :=
  match s.line.tx with
  | .sending a => if a.completed then slotCompleted a (endAttempt s) else s
  | _ => s

/-- ATTEMPT_COLLIDED (R113, R129): a bit was taken other than sent. -/
def attemptCollided (s : State) : State :=
  match s.line.tx with
  | .sending a => if a.collided then slotFailed true a.slot (endAttempt s) else s
  | _ => s

/-- CUT_MARK_END (R115, R117): the end of the frame's end space, whose middle has been reached. -/
def cutMarkEnd (s : State) : State :=
  if s.line.tx.inEndSpace = true ∧ (s.line.tx.over = true ∨ s.line.bits.half = true) then endAttempt s else s

/-- The level of TX_INHIBIT. -/
def setInhibit (b : Bool) (s : State) : State := { s with pins := { s.pins with txInhibit := b } }

/-- The attempt is reported and ends with the bit time in progress (R116). -/
def stopAttempt (s : State) : State := setLine { s.line with tx := s.line.tx.stop } s

/-- TX_INHIBIT goes asserted (R116): an attempt whose report is open is cut without a mark, its slot keeps its content
(R129), and the transmitter is in NONE at the end of that bit time; a mark runs to its end. The report is made in this
step (log 28). -/
def txInhibitAsserted (s : State) : State :=
  match s.line.tx with
  | .sending a => if a.live then slotFailed false a.slot (stopAttempt (setInhibit true s)) else setInhibit true s
  | _ => setInhibit true s

/-- TX_INHIBIT is released (R116). -/
def txInhibitDeasserted (s : State) : State := setInhibit false s

/-! ## The commands -/

/-- CUT_MARK_END (R115). -/
def execCutMarkEnd (s : State) : Host.Outcome State Fault Refusal := .next (cutMarkEnd s)
/-- TX_INHIBIT_ASSERTED (R116). -/
def execTxInhibitAsserted (s : State) : Host.Outcome State Fault Refusal := .next (txInhibitAsserted s)
/-- TX_INHIBIT_DEASSERTED (R116). -/
def execTxInhibitDeasserted (s : State) : Host.Outcome State Fault Refusal := .next (txInhibitDeasserted s)
/-- LINE_OFFER (R111). -/
def execLineOffer (s : State) : Host.Outcome State Fault Refusal := .next (lineOffer s)
/-- ATTEMPT_COMPLETED (R114). -/
def execAttemptCompleted (s : State) : Host.Outcome State Fault Refusal := .next (attemptCompleted s)
/-- ATTEMPT_COLLIDED (R113). -/
def execAttemptCollided (s : State) : Host.Outcome State Fault Refusal := .next (attemptCollided s)
/-- FRAME_HEADER (R104). -/
def execFrameHeader (s : State) : Host.Outcome State Fault Refusal := .next (frameHeader s)
/-- SKIP_END (R107). -/
def execSkipEnd (s : State) : Host.Outcome State Fault Refusal := .next (skipEnd s)
/-- FRAME_VERDICT (R105). -/
def execFrameVerdict (s : State) : Host.Outcome State Fault Refusal := .next (frameVerdict s)
/-- SYNC_PATTERN_MATCH (R102). -/
def execSyncPatternMatch (s : State) : Host.Outcome State Fault Refusal := .next (syncPatternMatch s)
/-- LINE_BIT_TAKEN (R110). -/
def execLineBitTaken (recessive : Bool) (s : State) : Host.Outcome State Fault Refusal :=
  .next (lineBitTaken recessive s)
/-- LINE_RX_EDGE (R100). -/
def execLineRxEdge (s : State) : Host.Outcome State Fault Refusal := .next (lineRxEdge s)

end Sys2Proof.Machine
end

