-- ==== Sys2Proof/Machine/Receive.lean ====
section
/-! DEFINITION. Frames taken (spec/01 sections 1.4 and 1.5, spec/03 sections 3.4 to 3.7, spec/04 section 4.8): HOLD,
farewell, ANNOUNCE, CLAIM, ASSENT, OBJECT. Each command takes the frame at the head of those delivered, if it is of its
kind. -/

namespace Sys2Proof.Machine

/-- The frame at the head is no longer waiting. -/
def popInbox (s : State) : State := { s with line := { s.line with inbox := s.line.inbox.tail } }

/-! ## HOLD and farewell -/

/-- The HOLD names this earmark in COMMIT (R10). -/
def commitsEarmark (h : HoldFields) (m : Option Earmark) : Bool := m.any (fun m => h.commit == some m.number)

/-- The earmark stays: not committed, and named in OPEN_CLAIM (R10). -/
def keepsEarmark (h : HoldFields) (m : Option Earmark) : Bool :=
  !commitsEarmark h m && m.any (fun m => h.openClaim == some m.number)

/-- The allowance for a HOLD (R10). -/
def allowance (h : HoldFields) (m : Option Earmark) : Nat :=
  if commitsEarmark h m then
    match m with
    | some m => m.amount
    | none => 0
  else 0

/-- The HOLD declares more than this station allowed for (R11). -/
def overdraws (h : HoldFields) (e : Entry) : Bool :=
  e.stored.status != .absent && e.stored.held + allowance h e.stored.earmark < h.held

/-- The entry as a HOLD rewrites it (R9, R10, R11). -/
def heldEntry (h : HoldFields) (e : Entry) : Entry :=
  let keep := keepsEarmark h e.stored.earmark
  { stored :=
      { status := .member, held := h.held, floor := h.floor, priority := e.stored.priority, holdSeq := h.seq
        openClaim := h.openClaim, earmark := if keep then e.stored.earmark else none, localFault := h.localFault
        overdrawn := e.stored.overdrawn || overdraws h e }
    parityGood := true, age := 0, expiry := if keep then e.expiry else 0, suspect := false }

/-- A SUSPECT entry rewritten entirely from the HOLD (R13). -/
def rewrittenEntry (h : HoldFields) : Entry :=
  { stored :=
      { status := .member, held := h.held, floor := h.floor, priority := 0, holdSeq := h.seq, openClaim := h.openClaim
        earmark := none, localFault := h.localFault, overdrawn := false }
    parityGood := true, age := 0, expiry := 0, suspect := false }

/-- An event raised on a condition. -/
def raiseIf (b : Bool) (kind : EventKind) (station : Option Nat) (claim : Option Byte) (value : Option Half)
    (s : State) : State :=
  if b then raise kind station claim value s else s

/-- PEER_JOINED, PEER_OVERDRAW and PEER_FAULT of a HOLD, judged on the entry before it (R9, R11). -/
def holdEvents (x : Nat) (h : HoldFields) (e : Entry) (s : State) : State :=
  raiseIf (e.stored.localFault != h.localFault) .peerFault (some x) none (some (BitVec.ofNat 16 h.localFault.toNat))
    (raiseIf (overdraws h e) .peerOverdraw (some x) none (some (valueOf h.held))
      (raiseIf (e.stored.status == .absent) .peerJoined (some x) none (some (valueOf h.held)) s))

/-- A peer's HOLD lowered its held: a running backoff ends (R66). -/
def endBackoffIf (fell : Bool) (s : State) : State :=
  if fell then setShare { s.alloc.share with backoff := none } s else s

/-- The ASSENT of an earmark that has gone is withdrawn (R76). For a SUSPECT entry the earmark is as its storage reads (log
39). -/
def withdrawFor (x : Nat) (m : Option Earmark) (s : State) : State :=
  match m with
  | some m => withdrawAssent x m.number s
  | none => s

/-- The earmark that a HOLD takes from an entry, if it takes one (R10). -/
def goneEarmark (h : HoldFields) (e : Entry) : Option Earmark :=
  if keepsEarmark h e.stored.earmark then none else e.stored.earmark

/-- A HOLD taken for an entry `e` that is not SUSPECT (R9 to R11), and the Allocation Engine's part in the order of R95. It
makes its entry MEMBER, so that its step 1 strikes nothing; a farewell is taken by `takeFarewell`. -/
def holdTrusted (x : Nat) (h : HoldFields) (e : Entry) (s : State) : State :=
  endUpdate (some x) (endBackoffIf (h.held < e.stored.held) (withdrawFor x (goneEarmark h e)
    (holdEvents x h e (modEntry x (heldEntry h) s))))

/-- A HOLD taken for a SUSPECT entry `e` (R13). The ASSENT withdrawn (R76) is that of the claim number the failed storage
reads (log 39). -/
def holdSuspect (x : Nat) (h : HoldFields) (e : Entry) (s : State) : State :=
  endUpdate (some x) (withdrawFor x e.stored.earmark (modEntry x (fun _ => rewrittenEntry h) s))

/-- A HOLD taken, the parity of its entry checked (R9, R13). -/
def holdChecked (x : Nat) (h : HoldFields) (s : State) : State :=
  if (entryAt s x).suspect then holdSuspect x h (entryAt s x) s else holdTrusted x h (entryAt s x) s

/-- The Share Table takes a HOLD, and the Allocation Engine completes the update. -/
def takeHold (x : Nat) (h : HoldFields) (s : State) : State := holdChecked x h (checkParity x s)

/-- The held share that counts in the sums (R6): 0 for a SUSPECT entry. -/
def Entry.counted (e : Entry) : Nat := if e.suspect then 0 else e.stored.held

/-- A farewell taken, the parity of its entry `e` checked (R12, R97); the earmark of a SUSPECT entry is as its storage reads
(log 39). -/
def farewellChecked (x : Nat) (e : Entry) (s : State) : State :=
  if e.stored.status = .absent ∧ e.suspect = false then endUpdate (some x) s
  else
    endUpdate (some x) (endBackoffIf (0 < e.counted) (withdrawFor x e.stored.earmark (strikeOff x
      (raise .peerLeft (some x) none (some (valueOf e.counted)) (modEntry x (Entry.returnAbsent true) s)))))

/-- A farewell is taken (R12, R97). -/
def takeFarewell (x : Nat) (s : State) : State := farewellChecked x (entryAt (checkParity x s) x) (checkParity x s)

/-! ## The answer decision -/

/-- An answer written into a slot (R68, R122): FILLED, attempt count 0, expired clear, deadline 24 ms, at the tail of the
answer list. An attempt in flight stays in progress (R119), sent for content that the slot no longer holds (R129, log
26). -/
def writeAnswer (k x : Nat) (n : Byte) (a : Answer) (shed : Bool) (s : State) : State :=
  setOutbox
    { s.outbox with
      answers := s.outbox.answers.set k
        { answerAt s k with
          occupancy := .filled, key := some (x, n), content := some a, attempts := 0, waitingShed := shed
          expired := false, deadline := some Config.responseWindow, rewritten := (answerAt s k).inFlight }
      answerList := s.outbox.answerList.filter (· != k) ++ [k] } s

/-- The earmark for one claim is removed, if it stands (R70, R78; log 31). -/
def dropEarmarkOf (x : Nat) (n : Byte) (s : State) : State := if holdsEarmark s x n then dropEarmark x s else s

/-- OBJECT decided (R69, R70, R72): an earmark for this claim is removed. -/
def objectTo (k x : Nat) (n : Byte) (reason : ObjectReason) (s : State) : State :=
  writeAnswer k x n (.object reason) false (dropEarmarkOf x n s)

/-- The ASSENT of an earlier claim of the same station, whose earmark is replaced, is withdrawn (R76). -/
def withdrawEarlier (x : Nat) (n : Byte) (s : State) : State :=
  match (entryAt s x).stored.earmark with
  | some m => if m.number = n then s else withdrawAssent x m.number s
  | none => s

/-- An INCREASE earmark placed on an entry (R70). -/
def Entry.setAside (n : Byte) (amount : Nat) (e : Entry) : Entry :=
  { e.write { e.stored with earmark := some { kind := .increase, number := n, amount := amount } } with
    expiry := Config.earmarkExpiry }

/-- ASSENT decided to a CLAIM (R70): an INCREASE earmark replaces any earlier one, and the ASSENT of an earlier claim of the
same station is withdrawn (R76). -/
def assentTo (k x : Nat) (n : Byte) (amount : Nat) (s : State) : State :=
  writeAnswer k x n .assent false (modEntry x (Entry.setAside n amount) (withdrawEarlier x n s))

/-- The foreign claim ranks above the own one (R71). -/
def ranksAbove (s : State) (x priority : Nat) : Bool :=
  s.alloc.share.priority < priority || (priority == s.alloc.share.priority && x < s.mc.identity.number)

/-- The answer that room gives, once the own claim has yielded (R71). -/
def answerByRoom (k x : Nat) (n : Byte) (amount : Nat) (s : State) : State :=
  if amount ≤ roomWithout s x then assentTo k x n amount s else objectTo k x n .noRoom s

/-- The answer to a CLAIM (R69), and the yield (R71). -/
def answerClaim (k x : Nat) (n : Byte) (amount priority : Nat) (s : State) : State :=
  if !(view s x).stands .member then objectTo k x n .notMember s
  else if anySuspect s then objectTo k x n .suspect s
  else if s.table.overcommit then objectTo k x n .noRoom s
  else if (views s).any (·.carries .floor) then objectTo k x n .busy s
  else if amount ≤ roomWithout s x then assentTo k x n amount s
  else if (openIncrease s).isSome && ranksAbove s x priority then answerByRoom k x n amount (abandonClaim .yielded s)
  else objectTo k x n .noRoom s

/-- Parts of the squeeze (R73): the MEMBER and PENDING_JOIN entries, the own one included, and the joiner. -/
def squeezeParts (s : State) : Nat :=
  (views s).countP (fun e => e.stands .member || e.stands .pendingJoin) + 1

/-- The own ceiling for a joiner's floor (R73). -/
def ceiling (s : State) (floor : Nat) : Nat :=
  s.alloc.share.floor + (capacity s - sumFloor s - floor) / squeezeParts s

/-- A HOLD attempt already assembled was assembled before the cut (R74, R79). -/
def beforeCut (s : State) : State :=
  { s with alloc := { s.alloc with holdAttempt := s.alloc.holdAttempt.map (fun a => { a with afterCut := false }) } }

/-- The squeeze of the own holding (R73). -/
def squeeze (j : Nat) (n : Byte) (cut : Nat) (s : State) : State :=
  requestHold (beforeCut (raise .squeezed (some j) (some n) (some (valueOf cut)) (setHeld cut s)))

/-- Own held lies above a joiner's ceiling (R73). -/
def mustShed (s : State) (floor : Nat) : Bool := ceiling s floor < s.alloc.share.held

/-- The squeeze, where own held lies above the ceiling (R73). -/
def shed (j : Nat) (n : Byte) (floor : Nat) (s : State) : State :=
  if mustShed s floor then squeeze j n (ceiling s floor) s else s

/-- The joiner's entry (R75). -/
def pendingEntry (n : Byte) (floor priority : Nat) (e : Entry) : Entry :=
  { stored :=
      { Stored.empty with
        status := .pendingJoin, floor := floor, priority := priority, holdSeq := e.stored.holdSeq
        earmark := some { kind := .floor, number := n, amount := floor } }
    parityGood := true, age := 0, expiry := Config.earmarkExpiry, suspect := e.suspect }

/-- ASSENT decided to an ANNOUNCE (R73, R74, R75). -/
def assentToJoin (k j : Nat) (n : Byte) (floor priority : Nat) (s : State) : State :=
  writeAnswer k j n .assent (mustShed s floor) (modEntry j (pendingEntry n floor priority) (shed j n floor s))

/-- An ANNOUNCE's class and lease select agree with the straps (R14, R72). -/
def sameFeed (s : State) (cls lease : Nat) : Bool :=
  cls == s.mc.identity.capacityClass && lease == s.mc.identity.leaseSelect

/-- The answer to an ANNOUNCE, from step 3 on once the straps agree (R72); step 2 is `takeAnnounce`. -/
def answerAnnounce (k j : Nat) (n : Byte) (floor priority cls lease : Nat) (s : State) : State :=
  if !sameFeed s cls lease then objectTo k j n .mismatch s
  else if anySuspect s then objectTo k j n .suspect s
  else if (views s).any (·.stands .silent) then objectTo k j n .silentPeer s
  else if (views s).any (·.stored.earmark.isSome) || s.alloc.claim.isSome then objectTo k j n .busy s
  else if capacity s < sumFloor s + floor then objectTo k j n .floorsFull s
  else assentToJoin k j n floor priority s

/-- A re-announce by the station of entry `e`, its parity checked (R14). -/
def rejoin (j : Nat) (n : Byte) (cls lease : Nat) (e : Entry) (s : State) : State :=
  if sameFeed s cls lease = true ∧ e.suspect = false ∧ e.stored.status ≠ .absent then
    strikeOff j (withdrawFor j e.stored.earmark (modEntry j (Entry.returnAbsent false)
      (raise .peerRejoined (some j) (some n) (some (valueOf e.stored.held)) s)))
  else s

/-- The Share Table takes an ANNOUNCE (R14): a MEMBER, SILENT or PENDING_JOIN entry returns to ABSENT. -/
def takeAnnounce (j : Nat) (n : Byte) (cls lease : Nat) (s : State) : State :=
  rejoin j n cls lease (entryAt (checkParity j s) j) (checkParity j s)

/-- The priority of a MEMBER or SILENT entry (R15). -/
def notePriority (x priority : Nat) (s : State) : State :=
  if (entryAt s x).stands .member || (entryAt s x).stands .silent then
    modEntry x (fun e => e.write { e.stored with priority := priority }) s
  else s

/-- The Share Table takes a CLAIM (R15): the priority of a MEMBER or SILENT entry. -/
def takeClaim (x priority : Nat) (s : State) : State := notePriority x priority (checkParity x s)

/-- The ANSWER slot that the decision for a key is written into (R68, R120), if its header reserved one: the slot that holds
the key, else the reserved slot `r`, if it has been emptied meanwhile and is EMPTY still (log 13). -/
def decisionSlot (s : State) (x : Nat) (n : Byte) (r : Option Nat) : Option Nat :=
  match r, slotFor s x n with
  | none, _ => none
  | some _, some k => some k
  | some k, none => if (answerAt s k).occupancy = .empty then some k else none

/-- The answer decision, made in ACTIVE for a frame that has a slot for it, with every peer entry checked before it (R21,
R67, R68). -/
def decideAnswer (slot : Option Nat) (answer : Nat → State → State) (s : State) : State :=
  match slot with
  | some k => if s.mc.station = .active then answer k (checkAllParity s) else s
  | none => s

/-! ## The commands' effects -/

/-- HOLD_RECEIVED (R9 to R11, R13, R95). -/
def holdReceived (s : State) : State :=
  match s.line.inbox with
  | { frame := { source := x, body := .hold h }, .. } :: _ => if h.farewell then s else takeHold x h (popInbox s)
  | _ => s

/-- FAREWELL_RECEIVED (R12, R97). -/
def farewellReceived (s : State) : State :=
  match s.line.inbox with
  | { frame := { source := x, body := .hold h }, .. } :: _ => if h.farewell then takeFarewell x (popInbox s) else s
  | _ => s

/-- ANNOUNCE_RECEIVED (R14, R68, R72): taken by the table; with a reserved slot, in ACTIVE, every peer entry is checked and
the answer decided. -/
def announceReceived (s : State) : State :=
  match s.line.inbox with
  | { frame := { source := j, body := .announce n f p cls lease }, reservation := r } :: _ =>
    endUpdate none
      (decideAnswer (decisionSlot s j n r) (fun k => answerAnnounce k j n f p cls lease) (takeAnnounce j n cls lease (popInbox s)))
  | _ => s

/-- CLAIM_RECEIVED (R15, R68, R69). -/
def claimReceived (s : State) : State :=
  match s.line.inbox with
  | { frame := { source := x, body := .claim n a p }, reservation := r } :: _ =>
    endUpdate none (decideAnswer (decisionSlot s x n r) (fun k => answerClaim k x n a p) (takeClaim x p (popInbox s)))
  | _ => s

/-- The own claim takes an ASSENT (R57): in AWAITING, addressed to it, from a roll member. -/
def takeAssent (x target : Nat) (n : Byte) (s : State) : State :=
  match s.alloc.claim with
  | some c =>
    if c.phase = .awaiting ∧ target = s.mc.identity.number ∧ n = c.number ∧ c.roll.contains x = true
        ∧ c.assents.contains x = false then
      commitIfCovered (setClaim (some { c with assents := c.assents ++ [x] }) s)
    else s
  | none => s

/-- ASSENT_RECEIVED (R57): the taking of a frame is an update of the table (R5, R7), though an ASSENT changes no entry. -/
def assentReceived (s : State) : State :=
  match s.line.inbox with
  | { frame := { source := x, body := .assent target n }, .. } :: _ =>
    endUpdate none (takeAssent x target n (popInbox s))
  | _ => s

/-- The ANSWER slot that holds an answer for a claim is withdrawn, an ASSENT or an OBJECT (R78, R123). A slot only RESERVED for
the claim stays so until its verdict (log 42). -/
def withdrawAnswer (x : Nat) (n : Byte) (s : State) : State :=
  match answerFor s x n with
  | some k => emptyAnswer k s
  | none => s

/-- The own claim fails if the OBJECT names it (R61, R78). -/
def failNamed (x target : Nat) (n : Byte) (r : ObjectReason) (s : State) : State :=
  if target = s.mc.identity.number ∧ s.alloc.claim.any (fun c => c.number == n) = true then
    failClaim r.asEnd (some x) s
  else s

/-- An OBJECT is taken (R61, R78): the named earmark removed, an answer for the claim withdrawn, the own claim failed. -/
def takeObject (x target : Nat) (n : Byte) (r : ObjectReason) (s : State) : State :=
  endUpdate none (failNamed x target n r (withdrawAnswer target n (dropEarmarkOf target n s)))

/-- OBJECT_RECEIVED (R78). -/
def objectReceived (s : State) : State :=
  match s.line.inbox with
  | { frame := { source := x, body := .object target n r }, .. } :: _ => takeObject x target n r (popInbox s)
  | _ => s

/-- HOLD_RECEIVED (R9). -/
def execHoldReceived (s : State) : Host.Outcome State Fault Refusal := .next (holdReceived s)
/-- FAREWELL_RECEIVED (R12). -/
def execFarewellReceived (s : State) : Host.Outcome State Fault Refusal := .next (farewellReceived s)
/-- ANNOUNCE_RECEIVED (R72). -/
def execAnnounceReceived (s : State) : Host.Outcome State Fault Refusal := .next (announceReceived s)
/-- CLAIM_RECEIVED (R69). -/
def execClaimReceived (s : State) : Host.Outcome State Fault Refusal := .next (claimReceived s)
/-- ASSENT_RECEIVED (R57). -/
def execAssentReceived (s : State) : Host.Outcome State Fault Refusal := .next (assentReceived s)
/-- OBJECT_RECEIVED (R78). -/
def execObjectReceived (s : State) : Host.Outcome State Fault Refusal := .next (objectReceived s)

end Sys2Proof.Machine
end

