-- ==== Sys2Proof/Machine/Time.lean ====
section
/-! DEFINITION. Time (spec/07): the tick and the lease boundary at each block, with the counts they move, and the limits
that pass: earmark expiry, response window, commit deadline, backoff, answer deadline, watchdog. -/

namespace Sys2Proof.Machine

/-! ## The tick -/

/-- A peer entry's earmark count at a tick (R16); the entry loses its earmark when EARMARK_EXPIRY is taken. Where a failure
of the storage has taken the earmark away, the count stands (log 6). -/
def Entry.tick (e : Entry) : Entry := if e.stored.earmark.isSome then { e with expiry := e.expiry - 1 } else e

/-- A failure of the parity-protected storage (R21; log 6): the stored part changes under its parity. The own entry is
not kept there (R1). -/
def upset (u : Upset) (s : State) : State :=
  if isPeer s u.station then modEntry u.station (fun e => { e with stored := u.stored, parityGood := false }) s else s

/-- The own claim's running counts at a tick (R52, R57): none in SENDING; the window no longer in COMMITTING, where it keeps
its count (log 37). -/
def ClaimRecord.tick (c : ClaimRecord) : ClaimRecord :=
  match c.phase with
  | .sending => c
  | .awaiting => { c with window := c.window - 1, deadline := c.deadline - 1 }
  | .committing => { c with deadline := c.deadline - 1 }

/-- The Allocation Engine's counts at a tick (R52, R65). -/
def Allocation.tick (a : Allocation) : Allocation :=
  { a with share := { a.share with backoff := a.share.backoff.map (· - 1) }, claim := a.claim.map ClaimRecord.tick }

/-- The deadline of an ANSWER slot at a tick (R77). -/
def AnswerSlot.tick (a : AnswerSlot) : AnswerSlot := { a with deadline := a.deadline.map (· - 1) }

/-- The postscaler count for a lease select (R140). -/
def postscalerCount (leaseSelect : Nat) : Nat :=
  match leaseSelect with
  | 0 => 1 | 1 => 2 | 2 => 5
  | _ => 10

/-- The watchdog at a tick (R142). -/
def Watchdog.tick (w : Watchdog) : Watchdog := if w.interval = 0 then w else { w with remaining := w.remaining - 1 }

/-- The lease clock at a tick (R140); a boundary falls due at every block that takes it (R141), beside one that the block has
still to take (log 5). -/
def TimeBase.leaseTick (leaseSelect : Nat) (t : TimeBase) : TimeBase :=
  if t.leaseMatch + 1 < 100 then { t with leaseMatch := t.leaseMatch + 1 }
  else if t.leasePost + 1 < postscalerCount leaseSelect then
    { t with leaseMatch := 0, leasePost := t.leasePost + 1 }
  else
    { t with leaseMatch := 0, leasePost := 0, boundaryDue := t.boundaryDue ++ Block.all }

/-- The Time Base at a tick (R139, R140, R142). -/
def TimeBase.tick (leaseSelect : Nat) (t : TimeBase) : TimeBase :=
  { t.leaseTick leaseSelect with ms := t.ms + 1, watchdog := t.watchdog.tick }

/-- What a block counts at a tick (R137); what a count that reaches 0 calls for is a command of its own (log 4). -/
def blockTick (b : TickBlock) (s : State) : State :=
  match b with
  | .shareTable => { s with table := { s.table with entries := s.table.entries.map Entry.tick } }
  | .allocation =>
    { s with alloc := s.alloc.tick, outbox := { s.outbox with answers := s.outbox.answers.map AnswerSlot.tick } }
  | .timeBase => { s with time := s.time.tick s.mc.identity.leaseSelect }

/-- A block takes the tick, if it has one to take (R137). -/
def takeTick (b : TickBlock) (s : State) : State :=
  if s.time.tickDue.contains b then
    blockTick b { s with time := { s.time with tickDue := s.time.tickDue.erase b } }
  else s

/-- The blocks named take the tick, in the order named (R137). -/
def takeTicks (blocks : List TickBlock) (s : State) : State := blocks.foldl (fun s b => takeTick b s) s

/-- A tick is issued (R136): it falls due at every block that counts time (R137), at the Pilot Unit beside those it has still
to take (R151; log 4). -/
def issueTick (s : State) : State :=
  { s with time := { s.time with tickDivider := 0, tickDue := TickBlock.all }
           pilot := { s.pilot with periodDue := s.pilot.periodDue + 1 } }

/-- The failures of the storage in the millisecond that ends (R21; log 6). -/
def upsetAll (upsets : List Upset) (s : State) : State := upsets.foldl (fun s u => upset u s) s

/-- TICK (R136, R137): a tick is issued, a block that had still to take the one before taking it first, and the blocks named
take it in the same step; or blocks take the tick issued (log 4). No tick is taken in RESET. -/
def tick (event : TickEvent) (s : State) : State :=
  if s.mc.station = .reset then s
  else
    match event with
    | .issued upsets blocks => takeTicks blocks (issueTick (upsetAll upsets (takeTicks TickBlock.all s)))
    | .taken blocks => takeTicks blocks s

/-! ## The lease boundary -/

/-- Ageing applies to the entry (R17, R18). -/
def Entry.ages (e : Entry) : Bool := e.suspect || e.stored.status == .member || e.stored.status == .silent

/-- An entry `e` that reaches age 8 is released (R19), its station struck off the roll (R56), and an ASSENT for its earmark
withdrawn (R76), the earmark of a SUSPECT entry as its storage reads (log 39). -/
def releaseEntry (i : Nat) (e : Entry) (s : State) : State :=
  strikeOff i (withdrawFor i e.stored.earmark (modEntry i (Entry.returnAbsent true)
    (raise .peerAbsent (some i) none (some (valueOf e.counted)) s)))

/-- An entry one boundary older. -/
def Entry.older (e : Entry) : Entry := { e with age := e.age + 1 }

/-- A MEMBER entry that becomes SILENT (R18). -/
def Entry.silenced (e : Entry) : Entry := { e.write { e.stored with status := .silent } with age := e.age + 1 }

/-- An entry `e` becomes SILENT (R18), and its station is struck off the roll (R56). -/
def silenceEntry (i : Nat) (e : Entry) (s : State) : State :=
  strikeOff i (raise .peerSilent (some i) none (some (valueOf e.stored.held)) (modEntry i Entry.silenced s))

/-- The ageing of an entry `e` (R18, R19). -/
def ageBy (i : Nat) (e : Entry) (s : State) : State :=
  if e.ages then
    if Config.absentAge ≤ e.age + 1 then releaseEntry i e s
    else if Config.silentAge ≤ e.age + 1 ∧ e.suspect = false ∧ e.stored.status = .member then silenceEntry i e s
    else modEntry i Entry.older s
  else s

/-- One peer entry at a lease boundary: the scrub, then ageing (R17). -/
def ageEntry (i : Nat) (s : State) : State :=
  if isPeer s i then ageBy i (entryAt (checkParity i s) i) (checkParity i s) else s

/-- The Share Table's work at a lease boundary (R17). -/
def tableBoundary (s : State) : State :=
  endUpdate none ((List.range Config.stations).foldl (fun s i => ageEntry i s) s)

/-- The census count is raised (R31). -/
def raiseCensus (s : State) : State :=
  { s with mc := { s.mc with census := min (s.mc.census + 1) Config.censusEnd } }

/-- The join-retry count is raised in WAITING (R36). -/
def raiseRetry (s : State) : State :=
  if s.mc.station = .waiting then { s with mc := { s.mc with retry := s.mc.retry + 1 } } else s

/-- JOINING, from CENSUS at a census count of 2 (R31), from WAITING at a join-retry count of 4 (R36). -/
def joinIfDue (s : State) : State :=
  match s.mc.station with
  | .census => if s.mc.census = Config.censusEnd then enterJoining s else s
  | .waiting => if Config.retryEnd ≤ s.mc.retry then enterJoining s else s
  | _ => s

/-- The Membership Controller's work at a lease boundary (R31, R36). -/
def membershipBoundary (s : State) : State := joinIfDue (raiseRetry (raiseCensus s))

/-- The own silence counter is raised (R87). -/
def raiseSilence (s : State) : State :=
  setShare { s.alloc.share with silence := min (s.alloc.share.silence + 1) Config.fenceSilence } s

/-- The fence that the report of the silence counter brings (R40). -/
def fenceIfSilent (s : State) : State :=
  if Config.fenceSilence ≤ s.alloc.share.silence then changeState .fenced s else s

/-- The Allocation Engine's work at a lease boundary (R83, R87), and the fence that its report brings (R40). -/
def allocationBoundary (s : State) : State :=
  match s.mc.station with
  | .active => endUpdate none (fenceIfSilent (requestHold (raiseSilence s)))
  | .joining => endUpdate none (raiseSilence s)
  | _ => s

/-- The Outbox's work at a lease boundary (R132). -/
def outboxBoundary (s : State) : State :=
  if s.mc.station = .active then
    setOutbox { s.outbox with hold := { s.outbox.hold with attempts := 0, resting := false } } s
  else s

/-- What a block does at a lease boundary (R141). -/
def blockBoundary : Block → State → State
  | .shareTable => tableBoundary
  | .membership => membershipBoundary
  | .allocation => allocationBoundary
  | .outbox => outboxBoundary

/-- A block takes the boundary, if it has one to take (R141). -/
def takeBoundary (b : Block) (s : State) : State :=
  if s.time.boundaryDue.contains b then
    blockBoundary b { s with time := { s.time with boundaryDue := s.time.boundaryDue.erase b } }
  else s

/-- LEASE_BOUNDARY (R141): the blocks named take it, in the order named. -/
def leaseBoundary (order : List Block) (s : State) : State := order.foldl (fun s b => takeBoundary b s) s

/-! ## Limits that pass -/

/-- EARMARK_EXPIRY (R16, R76): the count of the earmark on a peer entry has reached 0. Two earmarks that reach 0 at one tick
are removed by one command each, and the start conditions are tested after each (log 35); an earmark that a failure of the
storage has taken away does not expire (log 6). -/
def earmarkExpiry (i : Nat) (s : State) : State :=
  if s.mc.station ≠ .reset ∧ isPeer s i = true ∧ (entryAt s i).stored.earmark.isSome = true ∧ (entryAt s i).expiry = 0 then
    endUpdate none (dropEarmark i s)
  else s

/-- RESPONSE_WINDOW_PASSED (R57): in AWAITING, the window at 0 and the roll not covered. -/
def responseWindowPassed (s : State) : State :=
  if s.alloc.claim.any (fun c => c.phase == .awaiting && c.window == 0 && !c.covered) then
    endUpdate none (failClaim .noAnswer none s)
  else s

/-- COMMIT_DEADLINE_PASSED (R60): in COMMITTING, the deadline at 0: the claim lapses, or waits for the commit attempt in
flight. -/
def commitDeadlinePassed (s : State) : State :=
  match s.alloc.claim with
  | some c =>
    if c.phase = .committing ∧ c.deadline = 0 ∧ c.deadlinePassed = false then
      if c.inFlight then setClaim (some { c with deadlinePassed := true }) s else endUpdate none (lapseClaim s)
    else s
  | none => s

/-- The start conditions tested where no update of the table has just ended (R53): the room is the one that the last update
left, and the start is an update of its own (R7). -/
def startByItself (s : State) : State := if mayStart s then settle none (tryStart s) else s

/-- BACKOFF_END (R65): the timer is at 0; it becomes none, and the start conditions are tested. -/
def backoffEnd (s : State) : State :=
  if s.alloc.share.backoff = some 0 then startByItself (setShare { s.alloc.share with backoff := none } s) else s

/-- A slot's deadline has passed and the slot has not been marked expired. -/
def AnswerSlot.overdue (a : AnswerSlot) : Bool := a.occupancy == .filled && a.deadline == some 0 && !a.expired

/-- A slot in flight is marked expired (R77). -/
def markExpired (k : Nat) (s : State) : State :=
  setOutbox { s.outbox with answers := s.outbox.answers.modify k (fun a => { a with expired := true }) } s

/-- ANSWER_DEADLINE (R77): a slot's deadline is at 0: dropped, or marked expired while its attempt is in flight. -/
def answerDeadline (k : Nat) (s : State) : State :=
  if (answerAt s k).overdue then
    if (answerAt s k).inFlight then markExpired k s else dropAnswer k 1 s
  else s

/-- The remaining count at its full interval (R142). -/
def Watchdog.restart (w : Watchdog) : Watchdog := { w with remaining := 10 * w.interval }

def restartWatchdog (s : State) : State := { s with time := { s.time with watchdog := s.time.watchdog.restart } }

/-- What an expiry does to the station state (R41). -/
def fenceUnfed (s : State) : State :=
  match s.mc.station with
  | .active | .joining | .waiting => endUpdate none (changeState .fenced s)
  | _ => s

/-- The watchdog expires (R145, R41): the event, the fence in ACTIVE, JOINING and WAITING, the restart. -/
def watchdogExpired (s : State) : State :=
  if s.mc.station ≠ .reset ∧ s.time.watchdog.interval ≠ 0 ∧ s.time.watchdog.remaining = 0 then
    restartWatchdog (fenceUnfed (raise .watchdogExpired none none (some (valueOf s.time.watchdog.interval)) s))
  else s

/-! ## The commands -/

/-- TICK (R136). -/
def execTick (event : TickEvent) (s : State) : Host.Outcome State Fault Refusal := .next (tick event s)
/-- LEASE_BOUNDARY (R141). -/
def execLeaseBoundary (order : List Block) (s : State) : Host.Outcome State Fault Refusal := .next (leaseBoundary order s)
/-- EARMARK_EXPIRY (R16). -/
def execEarmarkExpiry (station : Fin 24) (s : State) : Host.Outcome State Fault Refusal := .next (earmarkExpiry station s)
/-- RESPONSE_WINDOW_PASSED (R57). -/
def execResponseWindowPassed (s : State) : Host.Outcome State Fault Refusal := .next (responseWindowPassed s)
/-- COMMIT_DEADLINE_PASSED (R60). -/
def execCommitDeadlinePassed (s : State) : Host.Outcome State Fault Refusal := .next (commitDeadlinePassed s)
/-- BACKOFF_END (R65). -/
def execBackoffEnd (s : State) : Host.Outcome State Fault Refusal := .next (backoffEnd s)
/-- ANSWER_DEADLINE (R77). -/
def execAnswerDeadline (slot : Fin 4) (s : State) : Host.Outcome State Fault Refusal := .next (answerDeadline slot s)
/-- WATCHDOG_EXPIRED (R145). -/
def execWatchdogExpired (s : State) : Host.Outcome State Fault Refusal := .next (watchdogExpired s)

end Sys2Proof.Machine
end

