-- ==== Sys2Proof/Machine/Clock.lean ====
section
/-! DEFINITION. One OSC_IN period (R100, R136, R152): what happens while no command waits (log 2). -/

namespace Sys2Proof.Machine

/-- One OSC_IN period of RESET (R25, R136, R117): the internal reset runs, and a cut mark, which ends by itself. -/
def resetPeriod (s : State) : State :=
  { s with
    pins := { s.pins with internalReset := s.pins.internalReset - 1 }
    line := if s.line.tx = .none then s.line else s.line.period.release }

/-- The free-running counts of one OSC_IN period: the bit timing (R100) and the phase of the pilot period (R152), which the
next period start returns to 0. -/
def runningPeriod (s : State) : State :=
  { s with
    line := s.line.period
    pilot := { s.pilot with phase := min (s.pilot.phase + 1) (Config.tickPeriods - 1) } }

/-- The tick divider is raised (R136). -/
def raiseDivider (s : State) : State := { s with time := { s.time with tickDivider := s.time.tickDivider + 1 } }

/-- One OSC_IN period (R136): outside RESET the tick divider is raised, and at 4096 a tick comes,
which every block takes at once. -/
def oscPeriod (s : State) : State :=
  if s.mc.station = .reset then resetPeriod s
  else if Config.tickPeriods ≤ s.time.tickDivider + 1 then tick (.issued [] TickBlock.all) (runningPeriod s)
  else raiseDivider (runningPeriod s)

end Sys2Proof.Machine
end

