-- ==== Sys2Proof/Machine/Pilot.lean ====
section
/-! DEFINITION. The Pilot Unit (spec/08): the period start, the load inputs, the meter, the pin PILOT. -/

namespace Sys2Proof.Machine

/-- The mode of a period (R151), read with the FAULT_IN sample taken at its tick and the station state copy. -/
def modeOf (faultIn : Bool) (station : StationState) : PilotMode :=
  if faultIn then .fence
  else
    match station with
    | .fenced | .fault => .fence
    | .active => .drive
    | _ => .idle

/-- The duty of a DRIVE period in per mille (R151). -/
def dutyOf (drive fullScale : Nat) : Nat := min 1000 (drive * 1000 / fullScale)

/-- The meter at the close of a period (R156). -/
def PilotUnit.closed (p : PilotUnit) (loadIn : Bool) : Quad :=
  if loadIn then p.meter + BitVec.ofNat 32 p.drive else p.meter

/-- The drive level and the station state that a period start finds (R154): what has been handed over, or, between the two
hand-overs of a change of state, the one taken before it and the former value of the other. -/
def PilotUnit.found (p : PilotUnit) (between : Option Handover) : Nat × StationState :=
  match between, p.former with
  | some .drive, some (_, station) => (p.requested, station)
  | some .station, some (drive, _) => (drive, p.stateCopy)
  | _, _ => (p.requested, p.stateCopy)

/-- The Pilot Unit at a tick (R149, R151, R156): the samples, the period ended closed, the next one opened with this drive
level and this station state. -/
def PilotUnit.nextPeriod (p : PilotUnit) (levels : LoadLevels) (found : Nat × StationState) : PilotUnit :=
  { p with
    faultIn := levels.faultIn, loadIn := levels.loadIn, mode := modeOf levels.faultIn found.2
    meter := p.closed levels.loadIn
    drive := if modeOf levels.faultIn found.2 = .drive then found.1 else 0
    duty := if modeOf levels.faultIn found.2 = .drive then dutyOf found.1 p.fullScale else 0
    applied := p.polarity, phase := 0, former := none, periodDue := p.periodDue - 1
    faultDue := levels.faultIn != p.faultIn }

/-- The request of the HOLD slot that a change of FAULT_IN makes, in ACTIVE alone (R91, R150). -/
def requestActiveHold (s : State) : State := if s.mc.station = .active then requestHold s else s

/-- FAULT_IN_CHANGE (R91, R150): the Allocation Engine takes a change of the sample (log 38). -/
def faultInChange (s : State) : State :=
  if s.mc.station ≠ .reset ∧ s.pilot.faultDue = true then
    requestActiveHold (recomputeDrive { s with pilot := { s.pilot with faultDue := false } })
  else s

/-- The Event Unit takes the FAULT_IN sample in the step that takes it from the pin (R150, R162, R168): a sample other than
the one before it raises FAULT_IN_CHANGED with its value, and FAULT_IN is active while it is asserted. -/
def handFaultIn (before : Bool) (s : State) : State :=
  if s.pilot.faultIn = before then s
  else
    setCondition .faultIn s.pilot.faultIn
      (raise .faultInChanged none none (some (BitVec.ofNat 16 s.pilot.faultIn.toNat)) s)

/-- The Pilot Unit takes a tick (R149, R150, R151, R154). -/
def startPeriod (levels : LoadLevels) (between : Option Handover) (s : State) : State :=
  handFaultIn s.pilot.faultIn { s with pilot := s.pilot.nextPeriod levels (s.pilot.found between) }

/-- PILOT_PERIOD_START (R151, R154), at the Pilot Unit's taking of one of the ticks it has still to take (R137; log 4). A
change of the FAULT_IN sample that the Allocation Engine has still to take is taken first, so that each change is (R150;
log 38). -/
def pilotPeriodStart (levels : LoadLevels) (between : Option Handover) (s : State) : State :=
  if s.mc.station ≠ .reset ∧ 0 < s.pilot.periodDue then startPeriod levels between (faultInChange s) else s

/-! ## The pin -/

/-- The phase count at which a DRIVE period goes to the rest level (R152). -/
def switchPoint (duty : Nat) : Nat := duty * 4096 / 1000

/-- PILOT is at its active level (R152). -/
def PilotUnit.active (p : PilotUnit) : Bool :=
  match p.mode with
  | .idle => false
  | .fence => true
  | .drive => p.duty == 1000 || p.phase < switchPoint p.duty

/-- The level of PILOT, true for high (R152, R158): the active level is low in NORMAL and high in INVERTED polarity. -/
def pilotPin (s : State) : Bool :=
  match s.pilot.applied with
  | .normal => !s.pilot.active
  | .inverted => s.pilot.active

/-- PILOT_PERIOD_START (R151). -/
def execPilotPeriodStart (levels : LoadLevels) (between : Option Handover) (s : State) :
    Host.Outcome State Fault Refusal :=
  .next (pilotPeriodStart levels between s)
/-- FAULT_IN_CHANGE (R91, R150). -/
def execFaultInChange (s : State) : Host.Outcome State Fault Refusal := .next (faultInChange s)

end Sys2Proof.Machine
end

