-- ==== Sys2Proof/WellFormed.lean ====
section
/-! DEFINITION. Which commands are well formed. -/

namespace Sys2Proof

/-- The command codes of R192. -/
def requestCodes : List Byte :=
  [0x01, 0x02, 0x03, 0x04, 0x05, 0x06, 0x07, 0x08, 0x09, 0x10, 0x11, 0x12]

/-- A stored part whose numbers fit the widths that the frames give them (R191): what an upset can leave in the storage. -/
def Stored.fits (p : Stored) : Bool :=
  p.held < 65536 && p.floor < 256 && p.priority < 256 && (p.earmark.all (fun e => e.amount < 65536))

/-- A tick names each block at most once (R137); its upsets concern different entries and leave values the storage can
hold. -/
def TickEvent.wf : TickEvent → Bool
  | .issued upsets blocks => (upsets.map (·.station)).Nodup && upsets.all (·.stored.fits) && blocks.Nodup
  | .taken blocks => blocks.Nodup

/-- A command is well formed: an unknown command carries a code that names no request (R178), a lease boundary names
each block at most once (R141), a tick is as `TickEvent.wf` says.
Every byte is an operand of the port's requests: a malformed request is answered BAD (R178). -/
def Instr.wf : Instr → Bool
  | .unknownCommand code => !requestCodes.contains code
  | .leaseBoundary order => order.Nodup
  | .tick event => event.wf
  | .rstNAsserted | .powerUp | .resetEnd _ | .cutMarkEnd | .earmarkExpiry _ | .responseWindowPassed
  | .commitDeadlinePassed | .backoffEnd | .answerDeadline _ | .watchdogExpired | .pilotPeriodStart _ _
  | .faultInChange | .txInhibitAsserted | .txInhibitDeasserted | .lineOffer | .attemptCompleted | .attemptCollided
  | .frameHeader | .skipEnd | .frameVerdict | .holdReceived | .farewellReceived | .announceReceived | .claimReceived
  | .assentReceived | .objectReceived | .transactionStart | .transactionEnd _ | .status | .feed | .ackAlert
  | .eventPeek | .eventPop | .snapshot | .snapshotTaken | .entryRead _ | .meterRead _ | .hardReset | .configure _
  | .stateRequest _ | .demand _ | .configureTaken | .stateRequestActiveTaken | .stateRequestDetachedTaken
  | .demandTaken | .syncPatternMatch | .lineBitTaken _ | .lineRxEdge => true

end Sys2Proof
end

