-- ==== Sys2Proof/Machine/Operands.lean ====
section
/-! DEFINITION. The operands of the port's requests (R178, R185, R192): targets, clear flags, and the configuration record
with its ranges. -/

namespace Sys2Proof.Machine

/-- The target byte of a STATE_REQUEST: 1 ACTIVE, 2 DETACHED; any other is malformed (R178, R192). -/
def targetOf (b : Byte) : Option Target :=
  if b = 1 then some .active else if b = 2 then some .detached else none

/-- The polarity byte of a configuration record: 0 NORMAL, 1 INVERTED (R192). -/
def polarityOf (b : Byte) : Option Polarity :=
  if b = 0 then some .normal else if b = 1 then some .inverted else none

/-- The setting of two steering bits: 0 NONE, 1 ATTN, 2 ALERT; 3 names no setting (R192). -/
def steerOf : Nat → Option Steer
  | 0 => some .none | 1 => some .attn | 2 => some .alert
  | _ => none

/-- The two steering bits of class c, at bits 2c+1 and 2c (R192). -/
def steerBits (steering : Half) (c : Nat) : Nat := steering.toNat / 4 ^ c % 4

/-- The class steering that a record carries, if every class is given a setting (R185, R192). -/
def steeringOf (steering : Half) : Option (PerClass Steer) :=
  match steerOf (steerBits steering 0), steerOf (steerBits steering 1), steerOf (steerBits steering 2),
    steerOf (steerBits steering 3), steerOf (steerBits steering 4), steerOf (steerBits steering 5),
    steerOf (steerBits steering 6) with
  | some m, some c, some a, some s, some l, some o, some t =>
    some { membership := m, claim := c, answer := a, share := s, line := l, loc := o, table := t }
  | _, _, _, _, _, _, _ => none

/-- The class filter that a record carries: bit c enables class c, bit 7 is not read (R192). -/
def filterOf (b : Byte) : PerClass Bool :=
  { membership := b.getLsbD 0, claim := b.getLsbD 1, answer := b.getLsbD 2, share := b.getLsbD 3, line := b.getLsbD 4
    loc := b.getLsbD 5, table := b.getLsbD 6 }

/-- A configuration record whose fields are in range (R185, check 2): its polarity and steering. -/
def recordInRange (r : ConfigRecord) : Option (Polarity × PerClass Steer) :=
  if r.floor.toNat ≤ 250 ∧ r.priority.toNat ≤ 3 ∧ 100 ≤ r.fullScale.toNat ∧ r.fullScale.toNat ≤ 6400 then
    match polarityOf r.polarity, steeringOf r.steering with
    | some p, some t => some (p, t)
    | _, _ => none
  else none

/-- The nine bytes of a configuration record (R192). -/
def recordBytes (r : ConfigRecord) : List Byte :=
  [r.floor, r.priority] ++ halfBytes r.fullScale.toNat ++ [r.polarity, r.watchdog, r.filter]
    ++ halfBytes r.steering.toNat

/-- The bytes of a request on SDI (R192): command code and arguments. Only the port's requests have any. -/
def requestBytes : Instr → List Byte
  | .status => [0x01] | .feed => [0x02] | .ackAlert => [0x03] | .eventPeek => [0x04] | .eventPop => [0x05]
  | .snapshot => [0x06] | .entryRead n => [0x07, n] | .meterRead flag => [0x08, flag] | .hardReset => [0x09]
  | .configure r => 0x10 :: recordBytes r
  | .stateRequest target => [0x11, target]
  | .demand target => 0x12 :: halfBytes target.toNat
  | .unknownCommand code => [code]
  | _ => []

/-- The number of data bytes that a command code fixes (R192). -/
def dataLength (code : Byte) : Nat :=
  match code.toNat with
  | 0x01 => 96 | 0x02 => 3 | 0x03 => 2 | 0x04 => 10 | 0x05 => 10 | 0x06 => 50 | 0x07 => 15 | 0x08 => 4
  | _ => 0

/-- The request whose bytes these are (R177, R192): the port's decoder. A first byte that names no request is decoded at
once (R178). -/
def requestOf : List Byte → Option Instr
  | [0x01] => some .status | [0x02] => some .feed | [0x03] => some .ackAlert | [0x04] => some .eventPeek
  | [0x05] => some .eventPop | [0x06] => some .snapshot | [0x07, n] => some (.entryRead n)
  | [0x08, flag] => some (.meterRead flag) | [0x09] => some .hardReset
  | [0x10, floor, priority, fh, fl, polarity, watchdog, filter, sh, sl] =>
    some (.configure { floor := floor, priority := priority, fullScale := fh ++ fl, polarity := polarity
                       watchdog := watchdog, filter := filter, steering := sh ++ sl })
  | [0x11, target] => some (.stateRequest target)
  | [0x12, hi, lo] => some (.demand (hi ++ lo))
  | [code] => if requestCodes.contains code then none else some (.unknownCommand code)
  | _ => none

end Sys2Proof.Machine
end

