-- ==== Sys2Proof/Machine/Records.lean ====
section
/-! DEFINITION. The records that the station sends to the local controller (R189, R193): event entries, snapshot entries
and own records, the status record. -/

namespace Sys2Proof.Machine

def statusCode : EntryStatus → Nat
  | .absent => 0 | .pendingJoin => 1 | .member => 2 | .silent => 3

def Occupancy.code : Occupancy → Nat
  | .empty => 0 | .reserved => 1 | .filled => 2

def Phase.code : Phase → Nat
  | .sending => 0 | .awaiting => 1 | .committing => 2

def PilotMode.code : PilotMode → Nat
  | .idle => 0 | .drive => 1 | .fence => 2

def Polarity.code : Polarity → Nat
  | .normal => 0 | .inverted => 1

def SnapshotRequest.code : SnapshotRequest → Nat
  | .none => 0 | .started => 1 | .ready => 2

/-- A 16-bit number that may be absent, sent as FFFFh then (backoff, last resolution, snapshot number). -/
def optHalfBytes (n : Option Nat) : List Byte := halfBytes (n.getD 0xFFFF)

/-! ## Events -/

/-- The class-and-flags byte of an event entry (R193); bit 3, of which the manual says nothing, is sent 0 (log 41). -/
def Event.flags (e : Event) : Byte :=
  byteOf (e.kind.cls.number + 16 * e.value.isSome.toNat + 32 * e.claim.isSome.toNat + 64 * e.station.isSome.toNat
    + 128 * e.lossBefore.toNat)

/-- An event entry's nine bytes (R193). -/
def Event.bytes (e : Event) : List Byte :=
  [e.seq, byteOf e.kind.code, e.flags, byteOf (e.station.getD 0), optByte e.claim]
    ++ halfBytes (e.value.getD 0).toNat ++ halfBytes e.time.toNat

/-- The entry count and the head entry, or the EMPTY indication (R171, R172, R192), whose other bytes are sent as 0
(log 33). -/
def headBytes (u : EventUnit) : List Byte :=
  match u.queue with
  | [] => List.replicate 10 0
  | e :: _ => byteOf u.queue.length :: e.bytes

/-! ## Snapshots -/

/-- Kind of an earmark in a snapshot entry: 0 none, 1 FLOOR, 2 INCREASE (R193). -/
def earmarkKindCode : Option Earmark → Nat
  | none => 0
  | some m => claimKindCode m.kind + 1

/-- The flags of a snapshot entry (R193); bits 7 to 4, of which the manual says nothing, are sent 0 (log 41). -/
def Entry.flags (e : Entry) : Byte :=
  byteOf (e.stored.localFault.toNat + 2 * e.stored.overdrawn.toNat + 4 * e.suspect.toNat
    + 8 * e.stored.openClaim.isSome.toNat)

/-- A snapshot entry's fourteen bytes (R193). -/
def Entry.bytes (e : Entry) : List Byte :=
  [byteOf (statusCode e.stored.status)] ++ halfBytes e.stored.held
    ++ [byteOf e.stored.floor, byteOf e.stored.priority, e.stored.holdSeq, e.flags, optByte e.stored.openClaim,
        byteOf e.age, byteOf (earmarkKindCode e.stored.earmark), optByte (e.stored.earmark.map (·.number))]
    ++ halfBytes ((e.stored.earmark.map (·.amount)).getD 0)
    ++ [byteOf (if e.stored.earmark.isSome then e.expiry else 0)]

/-- The summary's sixteen bytes (R189, R193). -/
def Snapshot.summaryBytes (n : Snapshot) : List Byte :=
  halfBytes n.capacity ++ quadBytes n.sumHeld ++ quadBytes n.sumEarmark ++ halfBytes n.sumFloor ++ halfBytes n.room
    ++ [byteOf (128 * n.overcommit.toNat + n.validCount), byteOf n.suspectCount]

/-- The own share record's fourteen bytes (R193). -/
def ShareRecord.bytes (r : ShareRecord) : List Byte :=
  halfBytes r.held ++ halfBytes r.lastTx ++ [byteOf r.floor, byteOf r.priority] ++ halfBytes r.demand
    ++ [r.holdSeq, r.claimCounter, byteOf r.silence, byteOf r.failures] ++ optHalfBytes r.backoff

/-- The own claim record's eighteen bytes, all 0 without a claim (R193). -/
def claimBytes : Option ClaimRecord → List Byte
  | none => List.replicate 18 0
  | some c =>
    [1, byteOf (claimKindCode c.kind), c.number] ++ halfBytes c.amount ++ [byteOf c.phase.code]
      ++ stationSetBytes c.roll ++ stationSetBytes c.assents
      ++ [flagByte c.inFlight, byteOf c.window, byteOf c.deadline, byteOf c.roll.length, byteOf c.assents.length, 0]

/-- The data of a SNAPSHOT's DONE response (R189, R192). -/
def Snapshot.bytes (n : Snapshot) : List Byte :=
  [n.number] ++ n.summaryBytes ++ [byteOf n.station.code] ++ n.share.bytes ++ claimBytes n.claim

/-! ## The status record (R181, R193) -/

def identityBytes (s : State) : List Byte :=
  [byteOf s.mc.identity.number, flagByte s.mc.identity.valid, byteOf s.mc.identity.capacityClass]
    ++ halfBytes (capacity s) ++ [byteOf s.mc.identity.leaseSelect]

/-- The pending-request record's byte (R193); bits 7 to 4, of which the manual says nothing, are sent 0 (log 41). -/
def PendingRequest.byte (r : PendingRequest) : Byte :=
  byteOf ((r.first.map Target.code).getD 0 + 4 * r.taken.toNat + 8 * r.behind.toNat)

def membershipBytes (m : Membership) : List Byte :=
  [byteOf m.station.code, flagByte m.configured, flagByte m.duplicate, m.request.byte]
    ++ optHalfBytes (m.lastResolution.map (·.code.toNat)) ++ [byteOf m.census, byteOf m.retry]

/-- The own claim in the status record: a presence flag and eight bytes. -/
def statusClaimBytes : Option ClaimRecord → List Byte
  | none => List.replicate 9 0
  | some c =>
    [1, byteOf (claimKindCode c.kind), c.number] ++ halfBytes c.amount
      ++ [byteOf c.phase.code, byteOf c.roll.length, byteOf c.assents.length, flagByte c.inFlight]

/-- The table's part (R181): the sums that its last update left. -/
def tableBytes (t : ShareTable) : List Byte :=
  quadBytes t.sums.held ++ quadBytes t.sums.earmark ++ halfBytes t.sums.floor ++ halfBytes t.sums.room
    ++ [flagByte t.overcommit, byteOf t.sums.valid, byteOf t.sums.suspect]

/-- A slot's byte: occupancy in bits 7 and 6, resting in bit 5, attempts in bits 4 to 0. -/
def slotByte (o : Occupancy) (resting : Bool) (attempts : Nat) : Byte :=
  byteOf (64 * o.code + 32 * resting.toNat + attempts)

def slotBytes (o : Outbox) : List Byte :=
  [slotByte o.hold.occupancy o.hold.resting o.hold.attempts, slotByte o.claim.occupancy false o.claim.attempts]
    ++ o.answers.map (fun a => slotByte a.occupancy false a.attempts)

def timeBytes (t : TimeBase) : List Byte :=
  halfBytes t.ms.toNat ++ [byteOf t.watchdog.interval, flagByte t.watchdog.lock]
    ++ halfBytes (if t.watchdog.interval = 0 then 0 else t.watchdog.remaining)

def pilotBytes (p : PilotUnit) : List Byte :=
  [byteOf p.mode.code] ++ halfBytes p.drive ++ halfBytes p.duty
    ++ [byteOf p.applied.code, flagByte p.faultIn, flagByte p.loadIn]

def eventBytes (u : EventUnit) : List Byte :=
  [byteOf u.queue.length, u.nextSeq, u.active.byte, u.acked.byte, flagByte (attnAsserted u), flagByte (alertAsserted u)]

def QueuedRequest.isDemand : QueuedRequest → Bool
  | .demand _ => true
  | _ => false

def QueuedRequest.isStateRequest : QueuedRequest → Bool
  | .stateRequest _ => true
  | _ => false

def portBytes (p : Port) : List Byte :=
  [byteOf p.fifo.length, flagByte (p.fifo.any QueuedRequest.isDemand), flagByte (p.fifo.any QueuedRequest.isStateRequest),
    byteOf p.snapRequest.code] ++ optHalfBytes (p.snapshot.map (·.number.toNat))

/-- The status record's ninety-six bytes (R193); the drive level is the one last handed to the Pilot Unit (R159). -/
def statusBytes (s : State) : List Byte :=
  identityBytes s ++ membershipBytes s.mc ++ s.alloc.share.bytes ++ halfBytes s.pilot.requested
    ++ statusClaimBytes s.alloc.claim ++ tableBytes s.table ++ slotBytes s.outbox ++ timeBytes s.time ++ pilotBytes s.pilot
    ++ eventBytes s.events ++ portBytes s.port ++ List.replicate 10 0

end Sys2Proof.Machine
end

