-- ==== Sys2Proof/Machine/Port.lean ====
section
/-! DEFINITION. The Local Port (spec/10): transactions, the decode of the immediate and of the queued requests, snapshots.
A request's command is its decode, at its last bit (log 16). -/

namespace Sys2Proof.Machine

def setPort (p : Port) (s : State) : State := { s with port := p }

/-! ## Responses -/

/-- The response codes (R178). -/
inductive ResponseCode
  | done | queued | retry | busy | full | refused | bad
  deriving DecidableEq, Repr

/-- Their codes (R192). -/
def ResponseCode.code : ResponseCode → Byte
  | .done => 1 | .queued => 2 | .retry => 3 | .busy => 4 | .full => 5 | .refused => 6 | .bad => 7

/-- Data bytes brought to the length that the command code fixes, zeros behind them (R178, R192). -/
def padTo (n : Nat) (data : List Byte) : List Byte := data.take n ++ List.replicate (n - data.length) 0

/-- The response to a request (R177, R192), and what its end owes it (R180). -/
def respond (command : Byte) (r : ResponseCode) (data : List Byte) (atEnd : EndEffect) (s : State) : State :=
  setPort
    { s.port with
      transaction := .response, response := r.code :: padTo (dataLength command) data, atEnd := atEnd } s

/-! ## The bits of a request (R177) -/

/-- A bit taken from SDI, most significant bit of each byte first. -/
def Port.takeBit (p : Port) (b : Bool) : Port :=
  if p.bits.length < 7 then { p with bits := p.bits ++ [b] }
  else { p with request := p.request ++ [byteOfPortBits (p.bits ++ [b])], bits := [] }

/-- With this bit the request has been taken in full, so that it is decoded in that step (R177, R178). -/
def Port.completes (p : Port) (b : Bool) : Bool :=
  (p.takeBit b).bits.isEmpty && (requestOf (p.takeBit b).request).isSome

/-- The bits taken before a decode: the bit that completes a request is taken by the request's own command (log 16). -/
def Port.shiftIn (p : Port) : List Bool → Port
  | [] => p
  | b :: rest => if p.completes b then p else (p.takeBit b).shiftIn rest

/-- The bits of the request taken so far. -/
def Port.taken (p : Port) : List Bool := portBits p.request ++ p.bits

/-- The port is taking a request that may turn out to be these bytes: outside RESET and IGNORE (R179), in REQUEST, the bits
so far their beginning. -/
def hears (bytes : List Byte) (s : State) : Bool :=
  s.mc.station != .reset && s.port.transaction == .request && s.port.taken.isPrefixOf (portBits bytes)

/-- The decode of a request, with its last bit (R177): the bytes that spell `c` are in the request buffer. -/
def decoded (c : Instr) (act : State → State) (s : State) : State :=
  if hears (requestBytes c) s = true ∧ requestOf (requestBytes c) = some c then
    act (setPort { s.port with request := requestBytes c, bits := [] } s)
  else s

/-! ## Transactions -/

/-- The level of SEL_N. -/
def setSelect (high : Bool) (s : State) : State := { s with pins := { s.pins with selN := high } }

/-- A transaction begins, if the port is IDLE and the station not in RESET (R177, R179). -/
def beginRequest (sdi : List Bool) (s : State) : State :=
  if s.mc.station ≠ .reset ∧ s.port.transaction = .idle then
    setPort
      (Port.shiftIn { s.port with transaction := .request, request := [], bits := [], response := [], atEnd := .none }
        sdi) s
  else s

/-- The bits that SDI gives in this transaction have been given (log 16). -/
def passSdi (s : State) : State := { s with pins := { s.pins with sdi := s.pins.sdi.tail } }

/-- TRANSACTION_START (R177, R179): SEL_N falls, and the bits of this transaction are taken from SDI. -/
def transactionStart (s : State) : State :=
  if s.pins.selN then beginRequest (s.pins.sdi.headD []) (passSdi (setSelect false s)) else s

/-- The end of a transaction at the port: IDLE, the buffers empty. -/
def toIdle (s : State) : State :=
  setPort { s.port with transaction := .idle, request := [], bits := [], response := [], atEnd := .none } s

/-- The end-of-transaction effects of a whole transaction (R180). -/
def wholeEffect (e : EndEffect) (s : State) : State :=
  match e with
  | .pop => { s with events := s.events.finishPop }
  | .meterClear captured => { s with pilot := { s.pilot with meter := s.pilot.meter - captured } }
  | .snapshotDelivered => setPort { s.port with snapRequest := .none } s
  | .none | .hardReset => s

/-- The pop in progress of a broken EVENT_POP becomes absent (R172). -/
def brokenEffect (e : EndEffect) (s : State) : State :=
  match e with
  | .pop => { s with events := { s.events with popping := none } }
  | .none | .meterClear _ | .snapshotDelivered | .hardReset => s

/-- The end of a transaction in RESPONSE (R177, R180, R190). -/
def endResponse (shifted : Nat) (s : State) : State :=
  if s.port.atEnd = .hardReset then enterReset s.pins.rstN Config.tickPeriods s
  else if 8 * s.port.response.length ≤ shifted then toIdle (wholeEffect s.port.atEnd s)
  else toIdle (brokenEffect s.port.atEnd s)

/-- The end of a transaction by the state it has reached (R177); in RESET there is none (R179). -/
def endTransaction (shifted : Nat) (s : State) : State :=
  if s.mc.station = .reset then s
  else
    match s.port.transaction with
    | .response => endResponse shifted s
    | _ => toIdle s

/-- TRANSACTION_END (R177, R180, R190): SEL_N rises with `shifted` response bits shifted out. Cut short in REQUEST; in
RESPONSE whole once every response bit has been shifted out, broken before; a decoded HARD_RESET resets in either. -/
def transactionEnd (shifted : Nat) (s : State) : State :=
  if s.pins.selN then s else endTransaction shifted (setSelect true s)

/-- UNKNOWN_COMMAND (R178): the one BAD byte. -/
def unknownCommand (code : Byte) (s : State) : State := respond code .bad [] .none s

/-! ## The pin SDO -/

/-- What a pin carries. -/
inductive PinLevel
  | highImpedance
  | driven (high : Bool)
  deriving DecidableEq, Repr

/-- SDO after `n` falling edges of SCK since the decode (R177, R179): high impedance while SEL_N is high, in RESET and in
IGNORE; the response from its first bit on, most significant bit of each byte first, then zeros. Before the first response
bit the manual gives no level (log 29). -/
def sdo (s : State) (n : Nat) : PinLevel :=
  if s.mc.station = .reset ∨ s.pins.selN = true then .highImpedance
  else
    match s.port.transaction, n with
    | .idle, _ | .ignore, _ => .highImpedance
    | .request, _ | .response, 0 => .driven (Config.sdoBeforeResponse s.port.taken.length)
    | .response, n + 1 => .driven ((portBits s.port.response)[n]?.getD false)

/-! ## Immediate requests -/

/-- STATUS (R181). -/
def statusRequest (s : State) : State := respond 0x01 .done (statusBytes s) .none s

/-- The data of FEED: the remaining count before it, and the interval; both 0 while the watchdog is off (R144). -/
def feedBytes (w : Watchdog) : List Byte :=
  halfBytes (if w.interval = 0 then 0 else w.remaining) ++ [byteOf w.interval]

/-- FEED (R144): a running watchdog restarts. -/
def feed (s : State) : State :=
  respond 0x02 .done (feedBytes s.time.watchdog) .none (if s.time.watchdog.interval = 0 then s else restartWatchdog s)

/-- ACK_ALERT (R169). -/
def ackAlert (s : State) : State :=
  respond 0x03 .done [s.events.active.byte, s.events.acknowledge.acked.byte] .none
    { s with events := s.events.acknowledge }

/-- EVENT_PEEK (R171). -/
def eventPeek (s : State) : State := respond 0x04 .done (headBytes s.events) .none s

/-- EVENT_POP (R172): the head is read and its sequence recorded. -/
def eventPop (s : State) : State :=
  respond 0x05 .done (headBytes s.events) .pop
    { s with events := { s.events with popping := s.events.queue.head?.map (·.seq) } }

/-- SNAPSHOT (R187). -/
def snapshotRequest (s : State) : State :=
  match s.port.snapRequest with
  | .none =>
    respond 0x06 .retry [] .none
      (if s.port.fifo = [] then setPort { s.port with snapRequest := .started } s else s)
  | .started => respond 0x06 .retry [] .none s
  | .ready => respond 0x06 .done ((s.port.snapshot.map Snapshot.bytes).getD []) .snapshotDelivered s

/-- ENTRY_READ (R188): the range of n before anything else. -/
def entryRead (n : Byte) (s : State) : State :=
  if 24 ≤ n.toNat then respond 0x07 .bad [] .none s
  else
    match s.port.snapshot with
    | none => respond 0x07 .refused [1] .none s
    | some copy => respond 0x07 .done (copy.number :: (copy.entries[n.toNat]?.getD Entry.empty).bytes) .none s

/-- METER_READ (R157). -/
def meterRead (flag : Byte) (s : State) : State :=
  if flag = 0 then respond 0x08 .done (quadBytes s.pilot.meter.toNat) .none s
  else if flag = 1 then respond 0x08 .done (quadBytes s.pilot.meter.toNat) (.meterClear s.pilot.meter) s
  else respond 0x08 .bad [] .none s

/-- HARD_RESET (R190): nothing else changes at the decode. -/
def hardReset (s : State) : State := respond 0x09 .done [] .hardReset s

/-! ## Queued requests -/

/-- The FIFO has a place (R182). -/
def fifoHasRoom (s : State) : Bool := s.port.fifo.length < Config.fifoDepth

/-- A request placed at the tail (R182). -/
def place (q : QueuedRequest) (s : State) : State := setPort { s.port with fifo := s.port.fifo ++ [q] } s

/-- CONFIGURE at its arrival (R182). -/
def configureArrives (record : ConfigRecord) (s : State) : State :=
  if fifoHasRoom s then respond 0x10 .queued [] .none (place (.configure record) s) else respond 0x10 .full [] .none s

/-- A waiting DEMAND takes the new target in its place (R182). -/
def coalesce (target : Half) (q : QueuedRequest) : QueuedRequest := if q.isDemand then .demand target else q

/-- DEMAND at its arrival (R182). -/
def demandArrives (target : Half) (s : State) : State :=
  if s.port.fifo.any QueuedRequest.isDemand then
    respond 0x12 .queued [] .none (setPort { s.port with fifo := s.port.fifo.map (coalesce target) } s)
  else if fifoHasRoom s then respond 0x12 .queued [] .none (place (.demand target) s)
  else respond 0x12 .full [] .none s

/-- A STATE_REQUEST accepted at the FIFO tail, or FULL (R45). -/
def placeStateRequest (t : Target) (r : PendingRequest) (s : State) : State :=
  if fifoHasRoom s then respond 0x11 .queued [] .none (setRequest r (place (.stateRequest t) s))
  else respond 0x11 .full [] .none s

/-- A waiting STATE_REQUEST turned into a DETACHED in its place (R182). -/
def QueuedRequest.toDetached (q : QueuedRequest) : QueuedRequest :=
  if q.isStateRequest then .stateRequest .detached else q

/-- A waiting ACTIVE gives its place to a DETACHED and is resolved CANCELLED (R45, R182). -/
def replaceWaiting (s : State) : State :=
  respond 0x11 .queued [] .none (setRequest { first := some .detached, taken := false, behind := false }
    (report (.command .stateRequest (some .active) .cancelled)
      (setPort { s.port with fifo := s.port.fifo.map QueuedRequest.toDetached } s)))

/-- STATE_REQUEST at its arrival, decided against the pending-request record (R45). -/
def stateRequestArrives (target : Byte) (s : State) : State :=
  let r := s.mc.request
  match targetOf target, r.first with
  | none, _ => respond 0x11 .bad [] .none s
  | some t, none => placeStateRequest t { first := some t, taken := false, behind := false } s
  | some .detached, some .active =>
    if r.behind then respond 0x11 .busy [] .none s
    else if r.taken then placeStateRequest .detached { r with behind := true } s
    else replaceWaiting s
  | some .active, some .active => respond 0x11 .busy [] .none s
  | some _, some .detached => respond 0x11 .busy [] .none s

/-! ## The snapshot -/

/-- The copy (R23, R189), under the next snapshot number. -/
def copyTable (s : State) : Snapshot :=
  { number := s.table.nextSnapshot, capacity := capacity s, sumHeld := sumHeld s, sumEarmark := sumEarmark s
    sumFloor := sumFloor s, room := room s, overcommit := s.table.overcommit, validCount := validCount s
    suspectCount := suspectCount s, station := s.mc.station, share := s.alloc.share, claim := s.alloc.claim
    entries := views s }

/-- The copy is made under the next snapshot number and handed to the port (R23, R24, R187). -/
def keepCopy (s : State) : State :=
  { s with
    table := { s.table with nextSnapshot := s.table.nextSnapshot + 1 }
    port := { s.port with snapRequest := .ready, snapshot := some (copyTable s) } }

/-- SNAPSHOT_TAKEN (R23, R24): parity checked and the sums settled, then the copy, then the test that ends an update
(R53). -/
def snapshotTaken (s : State) : State :=
  if s.mc.station ≠ .reset ∧ s.port.snapRequest = .started then
    tryStart (keepCopy (settle none (checkAllParity s)))
  else s

/-! ## The commands -/

/-- TRANSACTION_START (R177). -/
def execTransactionStart (s : State) : Host.Outcome State Fault Refusal := .next (transactionStart s)
/-- TRANSACTION_END (R177). -/
def execTransactionEnd (shifted : Nat) (s : State) : Host.Outcome State Fault Refusal := .next (transactionEnd shifted s)
/-- UNKNOWN_COMMAND (R178). -/
def execUnknownCommand (code : Byte) (s : State) : Host.Outcome State Fault Refusal :=
  .next (decoded (.unknownCommand code) (unknownCommand code) s)
/-- STATUS (R181). -/
def execStatus (s : State) : Host.Outcome State Fault Refusal := .next (decoded .status statusRequest s)
/-- FEED (R144). -/
def execFeed (s : State) : Host.Outcome State Fault Refusal := .next (decoded .feed feed s)
/-- ACK_ALERT (R169). -/
def execAckAlert (s : State) : Host.Outcome State Fault Refusal := .next (decoded .ackAlert ackAlert s)
/-- EVENT_PEEK (R171). -/
def execEventPeek (s : State) : Host.Outcome State Fault Refusal := .next (decoded .eventPeek eventPeek s)
/-- EVENT_POP (R172). -/
def execEventPop (s : State) : Host.Outcome State Fault Refusal := .next (decoded .eventPop eventPop s)
/-- SNAPSHOT (R187). -/
def execSnapshot (s : State) : Host.Outcome State Fault Refusal :=
  .next (decoded .snapshot snapshotRequest s)
/-- SNAPSHOT_TAKEN (R23). -/
def execSnapshotTaken (s : State) : Host.Outcome State Fault Refusal := .next (snapshotTaken s)
/-- ENTRY_READ (R188). -/
def execEntryRead (n : Byte) (s : State) : Host.Outcome State Fault Refusal :=
  .next (decoded (.entryRead n) (entryRead n) s)
/-- METER_READ (R157). -/
def execMeterRead (flag : Byte) (s : State) : Host.Outcome State Fault Refusal :=
  .next (decoded (.meterRead flag) (meterRead flag) s)
/-- HARD_RESET (R190). -/
def execHardReset (s : State) : Host.Outcome State Fault Refusal :=
  .next (decoded .hardReset hardReset s)
/-- CONFIGURE (R182). -/
def execConfigure (record : ConfigRecord) (s : State) : Host.Outcome State Fault Refusal :=
  .next (decoded (.configure record) (configureArrives record) s)
/-- STATE_REQUEST (R45). -/
def execStateRequest (target : Byte) (s : State) : Host.Outcome State Fault Refusal :=
  .next (decoded (.stateRequest target) (stateRequestArrives target) s)
/-- DEMAND (R182). -/
def execDemand (target : Half) (s : State) : Host.Outcome State Fault Refusal :=
  .next (decoded (.demand target) (demandArrives target) s)

end Sys2Proof.Machine
end

