-- ==== Sys2Proof/Machine/Queue.lean ====
section
/-! DEFINITION. The queued requests taken by their owners (R183): CONFIGURE (spec/10 section 10.4), STATE_REQUEST (spec/02
section 2.7), DEMAND (spec/04 section 4.2). Each command takes the request at the head of the FIFO, if it is of its
kind. -/

namespace Sys2Proof.Machine

/-- The head leaves the FIFO (R183). -/
def popFifo (s : State) : State := setPort { s.port with fifo := s.port.fifo.tail } s

/-! ## CONFIGURE -/

/-- The states in which a CONFIGURE is taken (R49). -/
def configurable (st : StationState) : Bool := st == .offline || st == .detached || st == .monitor

/-- The watchdog as a record sets it (R143): a non-zero interval locks it and restarts it. -/
def Watchdog.configured (w : Watchdog) (interval : Byte) : Watchdog :=
  if interval = 0 then w else { interval := interval.toNat, lock := true, remaining := 10 * interval.toNat }

/-- Every field replaces the one in force (R186), and the configured flag is set. -/
def applyRecord (r : ConfigRecord) (polarity : Polarity) (steering : PerClass Steer) (s : State) : State :=
  { s with
    mc := { s.mc with configured := true }
    alloc := { s.alloc with share := { s.alloc.share with floor := r.floor.toNat, priority := r.priority.toNat } }
    pilot := { s.pilot with fullScale := r.fullScale.toNat, polarity := polarity }
    time := { s.time with watchdog := s.time.watchdog.configured r.watchdog }
    events := { s.events with filter := filterOf r.filter, steering := steering } }

/-- The result of a CONFIGURE (R185): the state, the ranges, the watchdog lock, in this order. A record applied changes the
own share record, which is an update of the table (R7). -/
def takeConfigure (r : ConfigRecord) (s : State) : State :=
  if configurable s.mc.station then
    match recordInRange r with
    | none => report (.command .configure none .badValue) s
    | some (polarity, steering) =>
      if r.watchdog = 0 ∧ s.time.watchdog.lock = true then report (.command .configure none .watchdogLocked) s
      else endUpdate none (report (.command .configure none .done) (applyRecord r polarity steering s))
  else report (.command .configure none .locked) s

/-- CONFIGURE_TAKEN (R49, R183, R186). -/
def configureTaken (s : State) : State :=
  match s.port.fifo with
  | .configure r :: _ => if s.mc.station = .reset then s else takeConfigure r (popFifo s)
  | _ => s

/-! ## STATE_REQUEST -/

/-- The way to JOINING (R31, R46): past CENSUS once the census count is 2. -/
def beginJoin (s : State) : State :=
  if s.mc.census = Config.censusEnd then enterJoining s else changeState .census s

/-- What a taken ACTIVE leads to, by the state it finds (R46). -/
def actOnActive (s : State) : State :=
  match s.mc.station with
  | .offline | .detached | .fenced => if s.mc.configured then beginJoin s else resolveFirst .notConfigured s
  | .active => resolveFirst .done s
  | _ => resolveFirst .locked s

/-- The taking of an ACTIVE (R46). -/
def takeActive (s : State) : State := actOnActive (setRequest { s.mc.request with first := some .active, taken := true } s)

/-- STATE_REQUEST_ACTIVE_TAKEN (R46, R183). -/
def stateRequestActiveTaken (s : State) : State :=
  match s.port.fifo with
  | .stateRequest .active :: _ => if s.mc.station = .reset then s else takeActive (popFifo s)
  | _ => s

/-- A taken ACTIVE still pending is resolved CANCELLED (R47). -/
def cancelTaken (s : State) : State :=
  if s.mc.request.taken = true ∧ s.mc.request.first = some .active then resolveFirst .cancelled s else s

/-- What a taken DETACHED leads to, by the state it finds (R47). -/
def actOnDetached (s : State) : State :=
  match s.mc.station with
  | .active => changeState .leaving s
  | .offline | .census | .joining | .waiting | .fenced => changeState .detached s
  | .detached => resolveFirst .done s
  | .reset | .monitor | .leaving | .fault => resolveFirst .locked s

/-- The taking of a DETACHED (R47). -/
def takeDetached (s : State) : State :=
  actOnDetached (setRequest { first := some .detached, taken := true, behind := false } (cancelTaken s))

/-- STATE_REQUEST_DETACHED_TAKEN (R47, R183). -/
def stateRequestDetachedTaken (s : State) : State :=
  match s.port.fifo with
  | .stateRequest .detached :: _ => if s.mc.station = .reset then s else takeDetached (popFifo s)
  | _ => s

/-! ## DEMAND -/

/-- A DEMAND at or below own held abandons an open INCREASE claim whose commit attempt is NONE (R63). -/
def dropByDemand (s : State) : State :=
  if s.alloc.claim.any (fun c => c.kind == .increase && !c.inFlight) = true ∧ s.alloc.share.demand ≤ s.alloc.share.held then
    abandonClaim .demandDrop s
  else s

/-- What a new demand target does in ACTIVE, in the order of R80. -/
def followDemand (s : State) : State :=
  if s.mc.station = .active then recomputeDrive (decrease (dropByDemand s)) else s

/-- The change of the demand target, an update of the table in every state (R7, R79), and what it does in ACTIVE (R80). -/
def actOnDemand (s : State) : State := endUpdate none (followDemand s)

/-- The taking of a DEMAND (R80): refused above 6400; else the target, and in ACTIVE the claim, the decrease, the drive
level, the start conditions. -/
def takeDemand (target : Half) (s : State) : State :=
  if Config.maxShare < target.toNat then report (.command .demand none .badValue) s
  else actOnDemand (report (.demandTaken target.toNat) (setShare { s.alloc.share with demand := target.toNat } s))

/-- DEMAND_TAKEN (R80, R183). -/
def demandTaken (s : State) : State :=
  match s.port.fifo with
  | .demand target :: _ => if s.mc.station = .reset then s else takeDemand target (popFifo s)
  | _ => s

/-! ## The commands -/

/-- CONFIGURE_TAKEN (R186). -/
def execConfigureTaken (s : State) : Host.Outcome State Fault Refusal := .next (configureTaken s)
/-- STATE_REQUEST_ACTIVE_TAKEN (R46). -/
def execStateRequestActiveTaken (s : State) : Host.Outcome State Fault Refusal := .next (stateRequestActiveTaken s)
/-- STATE_REQUEST_DETACHED_TAKEN (R47). -/
def execStateRequestDetachedTaken (s : State) : Host.Outcome State Fault Refusal := .next (stateRequestDetachedTaken s)
/-- DEMAND_TAKEN (R80). -/
def execDemandTaken (s : State) : Host.Outcome State Fault Refusal := .next (demandTaken s)

end Sys2Proof.Machine
end

