-- ==== Sys2Proof/Machine/Dispatch.lean ====
section
/-! DEFINITION. The effect of each command, arm by arm. -/

namespace Sys2Proof.Machine

def exec (i : Instr) (s : State) : Host.Outcome State Fault Refusal :=
  match i with
  | .rstNAsserted => Sys2Proof.Machine.execRstNAsserted s
  | .powerUp => Sys2Proof.Machine.execPowerUp s
  | .resetEnd straps => Sys2Proof.Machine.execResetEnd straps s
  | .cutMarkEnd => Sys2Proof.Machine.execCutMarkEnd s
  | .tick event => Sys2Proof.Machine.execTick event s
  | .leaseBoundary order => Sys2Proof.Machine.execLeaseBoundary order s
  | .earmarkExpiry station => Sys2Proof.Machine.execEarmarkExpiry station s
  | .responseWindowPassed => Sys2Proof.Machine.execResponseWindowPassed s
  | .commitDeadlinePassed => Sys2Proof.Machine.execCommitDeadlinePassed s
  | .backoffEnd => Sys2Proof.Machine.execBackoffEnd s
  | .answerDeadline slot => Sys2Proof.Machine.execAnswerDeadline slot s
  | .watchdogExpired => Sys2Proof.Machine.execWatchdogExpired s
  | .pilotPeriodStart levels between => Sys2Proof.Machine.execPilotPeriodStart levels between s
  | .faultInChange => Sys2Proof.Machine.execFaultInChange s
  | .txInhibitAsserted => Sys2Proof.Machine.execTxInhibitAsserted s
  | .txInhibitDeasserted => Sys2Proof.Machine.execTxInhibitDeasserted s
  | .lineOffer => Sys2Proof.Machine.execLineOffer s
  | .attemptCompleted => Sys2Proof.Machine.execAttemptCompleted s
  | .attemptCollided => Sys2Proof.Machine.execAttemptCollided s
  | .frameHeader => Sys2Proof.Machine.execFrameHeader s
  | .skipEnd => Sys2Proof.Machine.execSkipEnd s
  | .frameVerdict => Sys2Proof.Machine.execFrameVerdict s
  | .holdReceived => Sys2Proof.Machine.execHoldReceived s
  | .farewellReceived => Sys2Proof.Machine.execFarewellReceived s
  | .announceReceived => Sys2Proof.Machine.execAnnounceReceived s
  | .claimReceived => Sys2Proof.Machine.execClaimReceived s
  | .assentReceived => Sys2Proof.Machine.execAssentReceived s
  | .objectReceived => Sys2Proof.Machine.execObjectReceived s
  | .transactionStart => Sys2Proof.Machine.execTransactionStart s
  | .transactionEnd shifted => Sys2Proof.Machine.execTransactionEnd shifted s
  | .unknownCommand code => Sys2Proof.Machine.execUnknownCommand code s
  | .status => Sys2Proof.Machine.execStatus s
  | .feed => Sys2Proof.Machine.execFeed s
  | .ackAlert => Sys2Proof.Machine.execAckAlert s
  | .eventPeek => Sys2Proof.Machine.execEventPeek s
  | .eventPop => Sys2Proof.Machine.execEventPop s
  | .snapshot => Sys2Proof.Machine.execSnapshot s
  | .snapshotTaken => Sys2Proof.Machine.execSnapshotTaken s
  | .entryRead n => Sys2Proof.Machine.execEntryRead n s
  | .meterRead flag => Sys2Proof.Machine.execMeterRead flag s
  | .hardReset => Sys2Proof.Machine.execHardReset s
  | .configure record => Sys2Proof.Machine.execConfigure record s
  | .stateRequest target => Sys2Proof.Machine.execStateRequest target s
  | .demand target => Sys2Proof.Machine.execDemand target s
  | .configureTaken => Sys2Proof.Machine.execConfigureTaken s
  | .stateRequestActiveTaken => Sys2Proof.Machine.execStateRequestActiveTaken s
  | .stateRequestDetachedTaken => Sys2Proof.Machine.execStateRequestDetachedTaken s
  | .demandTaken => Sys2Proof.Machine.execDemandTaken s
  | .syncPatternMatch => Sys2Proof.Machine.execSyncPatternMatch s
  | .lineBitTaken recessive => Sys2Proof.Machine.execLineBitTaken recessive s
  | .lineRxEdge => Sys2Proof.Machine.execLineRxEdge s

end Sys2Proof.Machine
end

