-- ==== Sys2Proof/Machine/Step.lean ====
section
/-! DEFINITION. One step: the command at the front of the queue, or one OSC_IN period while none waits. -/

namespace Sys2Proof.Machine

/-- The state with these commands waiting. -/
def State.withPending (s : State) (queue : List Instr) : State := { s with pending := queue }

/-- A step (log 1, log 2): the command at the front acts on the state that holds the rest of the queue; with none waiting,
one OSC_IN period passes. -/
def step (s : State) : Host.Outcome State Fault Refusal :=
  match s.pending with
  | [] => .next (oscPeriod s)
  | c :: rest => exec c (s.withPending rest)

/-- The command that a word spells put at the front of the queue; no row of the table has bits, so no word spells one
(log 19). -/
def State.withFetchWord (s : State) (nbits w : Nat) : State :=
  match decodeTableWord nbits w with
  | some c => s.withPending (c :: s.pending)
  | none => s

end Sys2Proof.Machine
end

