-- ==== Sys2Proof/Safety.lean ====
section
/-! DEFINITION. What the manual calls kept by every step: the laws of the station state, as predicates that a run never
leaves. Each is decidable on a given state. -/

namespace Sys2Proof.Machine

/-! ## The event queue and the alert conditions (spec/09) -/

/-- One set of alert conditions lies within another. -/
def AlertSet.within (a b : AlertSet) : Prop :=
  (a.overcommit = true → b.overcommit = true) ∧ (a.fenced = true → b.fenced = true) ∧ (a.fault = true → b.fault = true)
    ∧ (a.duplicate = true → b.duplicate = true) ∧ (a.suspectPresent = true → b.suspectPresent = true)
    ∧ (a.faultIn = true → b.faultIn = true)

/-- The event queue (R160, R165, R166): at most 64 entries; neighbours' sequence numbers differ by one, and the last
entry's is the one before the next sequence; LOSS_BEFORE on the head entry alone. -/
def EventLaw (s : State) : Prop :=
  s.events.queue.length ≤ 64
    ∧ (∀ p ∈ s.events.queue.zip s.events.queue.tail, p.2.seq = p.1.seq + 1)
    ∧ (∀ e ∈ s.events.queue.getLast?, s.events.nextSeq = e.seq + 1)
    ∧ (∀ e ∈ s.events.queue.tail, e.lossBefore = false)

/-- The active set holds each condition exactly as its owner does (R168); the acknowledged set lies within it (R169). -/
def ConditionLaw (s : State) : Prop :=
  s.events.active.overcommit = s.table.overcommit
    ∧ s.events.active.fenced = (s.mc.station == .fenced)
    ∧ s.events.active.fault = (s.mc.station == .fault)
    ∧ s.events.active.duplicate = s.mc.duplicate
    ∧ s.events.active.suspectPresent = anySuspect s
    ∧ s.events.active.faultIn = s.pilot.faultIn
    ∧ s.events.acked.within s.events.active

/-! ## The drive level (spec/04 section 4.6, spec/08) -/

/-- The Pilot Unit's copies (R90, R151): the state copy is the station state, and the requested drive is the drive level of
R90, or, while the Allocation Engine has still to take a change of the FAULT_IN sample (R150), the level under the sample before it. -/
def DriveLaw (s : State) : Prop :=
  s.pilot.stateCopy = s.mc.station
    ∧ (s.pilot.requested = driveLevel s
      ∨ (s.pilot.faultDue = true
        ∧ s.pilot.requested = driveLevel { s with pilot := { s.pilot with faultIn := !s.pilot.faultIn } }))

/-! ## The own share and the own claim (spec/03, spec/04) -/

/-- The own share record's ranges (R79, R87): held between the floor and 6400 in ACTIVE and 0 elsewhere, the own silence
counter below 3 in ACTIVE. -/
def ShareLaw (s : State) : Prop :=
  s.mc.identity.capacityClass ≤ 15 ∧ s.alloc.share.floor ≤ 250 ∧ s.alloc.share.demand ≤ 6400
    ∧ s.alloc.share.held ≤ 6400 ∧ s.alloc.share.lastTx ≤ 6400
    ∧ (∀ a ∈ s.alloc.holdAttempt, a.held ≤ 6400)
    ∧ s.alloc.share.failures ≤ 15 ∧ s.alloc.share.silence ≤ 3
    ∧ (s.mc.station = .active → s.alloc.share.floor ≤ s.alloc.share.held ∧ s.alloc.share.silence < 3)
    ∧ (s.mc.station ≠ .active → s.alloc.share.held = 0)

/-- The fields of a claim record among themselves (R52, R58, R60). -/
def ClaimRecord.Law (c : ClaimRecord) : Prop :=
  c.window ≤ 24 ∧ c.deadline ≤ 48 ∧ (∀ i ∈ c.roll, i < 24) ∧ (∀ i ∈ c.assents, i ∈ c.roll)
    ∧ (c.phase = .sending → c.roll = [] ∧ c.window = 24 ∧ c.deadline = 48)
    ∧ (c.inFlight = true → c.phase = .committing) ∧ (c.deadlinePassed = true → c.inFlight = true)

/-- The own claim (R52, R53, R62, R79): in JOINING a FLOOR claim for the own floor is open; an INCREASE claim is open in
ACTIVE alone, for at least 1 and for no more than 6400 allows; in every other state none is. -/
def ClaimLaw (s : State) : Prop :=
  match s.alloc.claim with
  | none => s.mc.station ≠ .joining
  | some c =>
    c.Law ∧
      match c.kind with
      | .floor => s.mc.station = .joining ∧ c.amount = s.alloc.share.floor
      | .increase => s.mc.station = .active ∧ 1 ≤ c.amount ∧ s.alloc.share.held + c.amount ≤ 6400

/-- While OVERCOMMIT is set, own held is no greater than the floor, and no INCREASE claim is open (R92). -/
def OvercommitLaw (s : State) : Prop :=
  s.table.overcommit = true →
    s.alloc.share.held ≤ s.alloc.share.floor ∧ ∀ c ∈ s.alloc.claim, c.kind ≠ .increase

/-- The laws of the own holding together. -/
def HoldingLaw (s : State) : Prop := ShareLaw s ∧ ClaimLaw s ∧ OvercommitLaw s

/-- What the Share Table keeps agrees with itself (R6, R7, R8): OVERCOMMIT is set exactly while the kept sum of held shares
exceeds the capacity, and the kept room is what the kept sums leave. -/
def SumsLaw (s : State) : Prop :=
  (s.table.overcommit = true ↔ capacity s < s.table.sums.held)
    ∧ s.table.sums.room = capacity s - s.table.sums.held - s.table.sums.earmark

/-! ## The slots and the transmitter (spec/05, spec/06) -/

/-- The attempt in progress or not yet reported (R112 to R114). -/
def Transmitter.attempt? : Transmitter → Option Attempt
  | .sending a => if a.stopped then Option.none else Option.some a
  | _ => Option.none

/-- The slot that this attempt is sent from. -/
def Transmitter.slot? (tx : Transmitter) : Option SlotId := tx.attempt?.map (·.slot)

/-- The slot of an attempt whose report is open (R113 to R116). -/
def Transmitter.liveSlot? (tx : Transmitter) : Option SlotId := (tx.attempt?.filter (·.live)).map (·.slot)

/-- One of the six slots. -/
def SlotId.inRange : SlotId → Bool
  | .answer k => k < 4
  | .hold | .claim => true

/-- The slots that may hold a frame in each state (R28). -/
def SlotLaw (s : State) : Prop :=
  (s.outbox.hold.occupancy ≠ .empty →
      s.mc.station = .active ∨ s.mc.station = .joining ∨ s.mc.station = .leaving ∨ s.mc.station = .fenced)
    ∧ (s.outbox.claim.occupancy ≠ .empty → s.mc.station = .active ∨ s.mc.station = .joining)
    ∧ (∀ a ∈ s.outbox.answers, a.occupancy ≠ .empty → s.mc.station = .active)

/-- The CLAIM slot (R52, R122): FILLED with the open claim's number and frame while that claim is in SENDING, and EMPTY
otherwise. -/
def ClaimSlotLaw (s : State) : Prop :=
  match s.alloc.claim with
  | some c =>
    if c.phase = .sending then
      s.outbox.claim.occupancy = .filled ∧ s.outbox.claim.key = some c.number ∧ s.outbox.claim.content = some c.kind
    else s.outbox.claim = ClaimSlot.empty
  | none => s.outbox.claim = ClaimSlot.empty

/-- An ANSWER slot's fields (R119): nothing in an EMPTY one, a key in a RESERVED one, a decided answer and its deadline in a
FILLED one. An answer is rewritten over an attempt in flight alone (log 26). -/
def AnswerSlot.Law (a : AnswerSlot) : Prop :=
  match a.occupancy with
  | .empty => a = AnswerSlot.empty
  | .reserved => a.key.isSome = true ∧ a.content = none ∧ a.inFlight = false ∧ a.rewritten = false
  | .filled =>
    a.key.isSome = true ∧ a.content.isSome = true ∧ a.deadline.isSome = true ∧ (a.rewritten = true → a.inFlight = true)

/-- The six slots (R119): the HOLD slot EMPTY with nothing in it or FILLED; four ANSWER slots; the answer list names each
FILLED ANSWER slot once; no two ANSWER slots have one key (R120). A frame on its way holds a reservation of one of the four
(R67). -/
def OutboxShape (s : State) : Prop :=
  (s.outbox.hold = HoldSlot.empty ∨ s.outbox.hold.occupancy = .filled)
    ∧ s.outbox.answers.length = 4 ∧ (∀ a ∈ s.outbox.answers, a.Law)
    ∧ s.outbox.answerList.Nodup
    ∧ (∀ k < 4, k ∈ s.outbox.answerList ↔ (answerAt s k).occupancy = .filled)
    ∧ (∀ k ∈ s.outbox.answerList, k < 4)
    ∧ (∀ j < 4, ∀ k < 4, j ≠ k → (answerAt s j).key.isSome = true → (answerAt s j).key ≠ (answerAt s k).key)
    ∧ (∀ k ∈ s.line.rx.reservation, k < 4) ∧ (∀ d ∈ s.line.inbox, ∀ k ∈ d.reservation, k < 4)

/-- A slot is in flight (R112, R125, R127). -/
def inFlightAt (s : State) : SlotId → Bool
  | .hold => s.outbox.hold.inFlight
  | .claim => s.outbox.claim.inFlight
  | .answer k => (answerAt s k).inFlight

/-- The attempt `a` of this slot is in progress or not yet reported, and the slot has been neither emptied nor refilled since
(R112, R124, R125). -/
def SendsFrom (s : State) (slot : SlotId) (a : Attempt) : Prop :=
  s.line.tx = .sending a ∧ a.slot = slot ∧ a.stopped = false ∧ inFlightAt s slot = true

/-- The bits of an attempt (R112, R113): none is read before it is sent, and none is sent before the ones before it have been
read back, at most one of them in the bit time in progress. -/
def Attempt.Law (b : BitClock) (a : Attempt) : Prop :=
  a.read ≤ a.total ∧ a.sent ≤ a.read ∧ a.read ≤ a.sent + b.taken.toNat

/-- A slot in flight is the one the transmitter sends from, and the slot of an attempt whose report is open is in flight
(R112, R125, R127): an attempt taken to its end or to a mismatch outlives its slot until it is reported (log 34). In
RESET there is none (R117). A commit attempt is one of the HOLD slot (R58), and of a HOLD attempt in flight the description is
kept (R79, R127). -/
def AttemptLaw (s : State) : Prop :=
  (s.outbox.hold.inFlight = true → s.line.tx.slot? = some .hold)
    ∧ (s.outbox.claim.inFlight = true → s.line.tx.slot? = some .claim)
    ∧ (∀ k < 4, (answerAt s k).inFlight = true → s.line.tx.slot? = some (.answer k))
    ∧ (∀ q ∈ s.line.tx.liveSlot?, inFlightAt s q = true)
    ∧ (∀ q ∈ s.line.tx.slot?, q.inRange = true)
    ∧ (∀ a ∈ s.line.tx.attempt?, a.Law s.line.bits)
    ∧ (s.mc.station = .reset → s.line.tx.attempt? = none)
    ∧ (∀ c ∈ s.alloc.claim, c.inFlight = true → s.outbox.hold.inFlight = true)
    ∧ (s.outbox.hold.inFlight = true → s.alloc.holdAttempt.isSome = true)

/-- The laws of the slots together, on a station that keeps the law of its claim. -/
def OutboxLaw (s : State) : Prop :=
  SlotLaw s ∧ ClaimSlotLaw s ∧ OutboxShape s ∧ AttemptLaw s ∧ ClaimLaw s

/-! ## The command FIFO and the pending requests (spec/02 section 2.7, spec/10) -/

/-- The targets of the STATE_REQUESTs in the FIFO, in order. -/
def waitingTargets (fifo : List QueuedRequest) : List Target :=
  fifo.filterMap (fun q => match q with | .stateRequest t => some t | _ => none)

/-- The targets that the pending-request record says are still in the FIFO (R45). -/
def PendingRequest.waiting (r : PendingRequest) : List Target :=
  (if r.taken then [] else r.first.toList) ++ (if r.behind then [.detached] else [])

/-- The FIFO and the record (R45, R182): at most eight requests, at most one DEMAND, and exactly the STATE_REQUESTs that the
record says are waiting; a DETACHED is behind a taken ACTIVE alone. -/
def RequestLaw (s : State) : Prop :=
  s.port.fifo.length ≤ 8 ∧ s.port.fifo.countP QueuedRequest.isDemand ≤ 1
    ∧ waitingTargets s.port.fifo = s.mc.request.waiting
    ∧ (s.mc.request.behind = true → s.mc.request.first = some .active ∧ s.mc.request.taken = true)
    ∧ (s.mc.request.taken = true → s.mc.request.first.isSome = true)

/-! ## Counts (spec/02, spec/05, spec/07, spec/08) -/

/-- The ranges of the free-running counts (R31, R36, R100, R107, R110, R136, R140, R142, R148). -/
def CountLaw (s : State) : Prop :=
  s.time.tickDivider < 4096 ∧ s.time.leaseMatch < 100 ∧ s.time.leasePost < 10
    ∧ s.time.watchdog.interval ≤ 255 ∧ s.time.watchdog.remaining ≤ 10 * s.time.watchdog.interval
    ∧ (s.time.watchdog.lock = true ↔ s.time.watchdog.interval ≠ 0)
    ∧ s.mc.census ≤ 2 ∧ s.mc.retry ≤ 4 ∧ (s.mc.station = .waiting → s.mc.retry < 4)
    ∧ s.line.idle ≤ 255 ∧ s.line.rx.skipLeft ≤ 97
    ∧ s.line.bits.acc < 125 ∧ (s.line.bits.length = 16 ∨ s.line.bits.length = 17)
    ∧ s.line.bits.pos < s.line.bits.length
    ∧ s.pilot.phase < 4096 ∧ s.pilot.duty ≤ 1000 ∧ 100 ≤ s.pilot.fullScale ∧ s.pilot.fullScale ≤ 6400

/-! ## The table and what is due (spec/01, spec/07) -/

/-- The table has its 24 entries (R1), and no block has one tick to take twice (R137; that State lists the blocks is the
model's choice, log 4). -/
def ShapeLaw (s : State) : Prop := s.table.entries.length = 24 ∧ s.time.tickDue.Nodup

/-! ## RESET (spec/02) -/

/-- In RESET every block stands at its reset values; the transmitter drives a cut mark, the rest of a bit time or nothing
(R25, R117). -/
def ResetLaw (s : State) : Prop :=
  s.mc.station = .reset →
    s.mc = .initial ∧ s.table = .initial ∧ s.alloc = .initial ∧ s.outbox = .initial ∧ s.time = .initial
      ∧ s.pilot = .initial ∧ s.events = .initial ∧ s.port = .initial
      ∧ s.line.rx = .hunting ∧ s.line.idle = 0 ∧ s.line.inbox = [] ∧ s.line.tx.slot? = none

/-! ## The entry to RESET -/

/-- `t` is `s` with reset taken (R25, R115, R117, R158, R174, R179): every block at its reset values, an attempt in progress
cut and its mark left to run, one that has been taken to its end or to a mismatch left to the end of its bit time, the bit
timing and the pins' levels kept. RST_N is then at `rstN`, and `internal` OSC_IN periods of an internal reset are left. -/
def EnteredReset (rstN : Bool) (internal : Nat) (s t : State) : Prop :=
  t.mc = .initial ∧ t.table = .initial ∧ t.alloc = .initial ∧ t.outbox = .initial ∧ t.time = .initial
    ∧ t.pilot = .initial ∧ t.events = .initial ∧ t.port = .initial
    ∧ t.line.rx = .hunting ∧ t.line.idle = 0 ∧ t.line.inbox = [] ∧ t.line.bits = s.line.bits
    ∧ (∀ a, s.line.tx = .sending a → a.live = true → t.line.tx = .marking a a.markStart)
    ∧ (∀ a, s.line.tx = .sending a → a.live = false → a.over = false → t.line.tx = .sending { a with stopped := true })
    ∧ (∀ a start, s.line.tx = .marking a start → a.sent ≤ 8 * a.bytes.length → t.line.tx = .marking a start)
    ∧ (s.line.tx.over = true → t.line.tx = .none)
    ∧ t.pins = { s.pins with rstN := rstN, internalReset := internal } ∧ t.pending = s.pending

/-! ## Bit times (spec/05) -/

/-- `b'` is the start of the bit time after `b` (R100). -/
def BitClock.Begun (b b' : BitClock) : Prop :=
  b'.pos = 0 ∧ b'.taken = false
    ∧ (b.acc + 48 < 125 → b'.length = 16 ∧ b'.acc = b.acc + 48)
    ∧ (125 ≤ b.acc + 48 → b'.length = 17 ∧ b'.acc = b.acc + 48 - 125)

/-- `tx'` is the transmitter `tx` one bit boundary later (R112, R115, R116): the next bit of an attempt follows one that has
been read back, a reported attempt is gone, a mark goes on through the end space. -/
def Transmitter.SentOn (tx tx' : Transmitter) : Prop :=
  (tx = .none → tx' = .none)
    ∧ (∀ a, tx = .sending a → a.stopped = true → tx' = .none)
    ∧ (∀ a, tx = .sending a → a.stopped = false → a.sent < a.taken + a.mismatch.toNat →
        tx' = .sending { a with sent := a.sent + 1 })
    ∧ (∀ a, tx = .sending a → a.stopped = false → a.taken + a.mismatch.toNat ≤ a.sent → tx' = .sending a)
    ∧ (∀ a start, tx = .marking a start → tx' = .marking { a with sent := min (a.sent + 1) (8 * a.bytes.length + 1) } start)

/-- The Line Interface of `t` is that of `s` with an attempt begun at the bit boundary at hand (R110, R111, R112): the first
bit being sent, the line-idle timer at 0. -/
def StartedIn (s t : State) : Prop :=
  (∃ a, t.line.tx = .sending a ∧ a.sent = 0 ∧ a.taken = 0 ∧ a.mismatch = false ∧ a.stopped = false)
    ∧ t.line.idle = 0 ∧ t.line.rx = s.line.rx ∧ t.line.inbox = s.line.inbox
    ∧ (s.line.bits.taken = true → s.line.bits.Begun t.line.bits)
    ∧ (s.line.bits.taken = false → t.line.bits = s.line.bits)

/-- A HOLD attempt that starts in this station state commits the open claim (R58, R82): COMMITTING, its deadline not passed,
INCREASE in ACTIVE or FLOOR in JOINING. -/
def ClaimRecord.CommitsIn (station : StationState) (c : ClaimRecord) : Prop :=
  c.phase = .committing ∧ c.deadlinePassed = false
    ∧ ((station = .active ∧ c.kind = .increase) ∨ (station = .joining ∧ c.kind = .floor))

/-! ## Requests on their way (spec/10) -/

/-- The port is taking a request, in RESET none, and the bits taken so far begin these bytes (R177, R179). -/
def Hears (s : State) (bytes : List Byte) : Prop :=
  s.mc.station ≠ .reset ∧ s.port.transaction = .request
    ∧ (portBits s.port.request ++ s.port.bits) <+: portBits bytes

/-! ## The parity check of one peer entry (R21) -/

/-- SUSPECT as the check of a peer entry leaves it. -/
def suspectOnCheck (s : State) (i : Nat) : Bool := (entryAt s i).suspect || !(entryAt s i).parityGood

/-- The entry as the check leaves it. -/
def entryOnCheck (s : State) (i : Nat) : Entry := { entryAt s i with suspect := suspectOnCheck s i }

/-- After the events of `u`, PARITY with the station's number, if the check fails. -/
def State.parityEvent (s : State) (i : Nat) (u : EventUnit) : EventUnit :=
  if (entryAt s i).suspect = false ∧ (entryAt s i).parityGood = false then
    u.take .parity (some i) none none s.time.ms
  else u

/-- The events as the check leaves them. -/
def eventsOnCheck (s : State) (i : Nat) : EventUnit := s.parityEvent i s.events

/-- After the events of `u`, those of the check of every peer entry but `x`'s (R68), in order of station number (log 7). -/
def State.parityEvents (s : State) (x : Nat) (u : EventUnit) : EventUnit :=
  (List.range 24).foldl (fun u i => if isPeer s i = true ∧ i ≠ x then s.parityEvent i u else u) u

/-- After the events of `u`, those of one entry's work at a lease boundary (R17 to R19): PARITY for a failed check, ahead of
PEER_ABSENT with the held that counted (log 7), or PEER_SILENT with the held. -/
def State.boundaryEvent (s : State) (i : Nat) (u : EventUnit) : EventUnit :=
  if isPeer s i = false then u
  else if 7 ≤ (entryAt s i).age
      ∧ (suspectOnCheck s i = true ∨ (entryAt s i).stored.status = .member ∨ (entryAt s i).stored.status = .silent) then
    (s.parityEvent i u).take .peerAbsent (some i) none
      (some (valueOf (if suspectOnCheck s i then 0 else (entryAt s i).stored.held))) s.time.ms
  else if 3 ≤ (entryAt s i).age ∧ suspectOnCheck s i = false ∧ (entryAt s i).stored.status = .member then
    u.take .peerSilent (some i) none (some (valueOf (entryAt s i).stored.held)) s.time.ms
  else s.parityEvent i u

/-- A peer entry that the lease boundary turns SILENT or ABSENT (R17 to R19): it ages, and reaches age 8, or age 4 as a
MEMBER. -/
def FallsAtBoundary (s : State) (i : Nat) : Prop :=
  isPeer s i = true
    ∧ (suspectOnCheck s i = true ∨ (entryAt s i).stored.status = .member ∨ (entryAt s i).stored.status = .silent)
    ∧ (7 ≤ (entryAt s i).age
      ∨ (3 ≤ (entryAt s i).age ∧ suspectOnCheck s i = false ∧ (entryAt s i).stored.status = .member))

/-! ## Ends of the own claim (spec/03) -/

/-- The own records once the own claim has ended in a failure that counts (R52, R64, R65): no claim, one failure more up to
15, and the backoff for the raised count. -/
def claimCounted (s : State) : Allocation :=
  { s.alloc with
    claim := none
    share :=
      { s.alloc.share with
        failures := min (s.alloc.share.failures + 1) 15
        backoff := some (4 * (s.mc.identity.number + 1) * 2 ^ min (min (s.alloc.share.failures + 1) 15 - 1) 3) } }

/-! ## Ticks in a row (spec/07) -/

/-- The state after a number of ticks, each taken at every block at once, with nothing between them (R136, R137). -/
def afterTicks : Nat → State → State
  | 0, s => s
  | n + 1, s =>
    match exec (.tick (.issued [] [.shareTable, .allocation, .timeBase])) (afterTicks n s) with
    | .next t => t
    | .fault _ | .refused _ => afterTicks n s

/-! ## Frames (spec/12) -/

/-- The frame of a GOOD verdict. -/
def Verdict.frame? : Verdict → Option Frame
  | .good f => some f
  | .bad _ => none

/-- A body whose fields are in range (R105, R191). -/
def FrameBody.wf : FrameBody → Bool
  | .hold h => h.held ≤ 6400 && h.floor ≤ 250
  | .claim _ amount priority => amount ≤ 6400 && priority ≤ 3
  | .announce _ floor priority cls lease => floor ≤ 250 && priority ≤ 3 && cls ≤ 15 && lease ≤ 3
  | .assent target _ => target ≤ 23
  | .object target _ _ => target ≤ 23

/-- A frame that a station can send: a source of 0 to 23 and fields in range. -/
def Frame.wf (f : Frame) : Bool := f.source ≤ 23 && f.body.wf

/-! ## Frames taken (spec/01, spec/03) -/

/-- What a HOLD was allowed for beyond the held on record (R10): the amount of the entry's earmark, if the HOLD commits that
claim. -/
def allowanceFor (h : HoldFields) (m : Option Earmark) : Nat :=
  (m.map (fun m => if h.commit = some m.number then m.amount else 0)).getD 0

/-- The Event Unit takes an event on a condition. -/
def EventUnit.takeIf (b : Bool) (kind : EventKind) (station : Option Nat) (claim : Option Byte) (value : Option Half)
    (time : Half) (u : EventUnit) : EventUnit :=
  if b then u.take kind station claim value time else u

/-- The Event Unit takes CLAIM_ABANDONED for an INCREASE claim, if there is one, with this reason's code (R62, R193). -/
def EventUnit.takeAbandoned (claim : Option ClaimRecord) (reason : Nat) (time : Half) (u : EventUnit) : EventUnit :=
  match claim with
  | none => u
  | some c => u.take .claimAbandoned none (some c.number) (some (BitVec.ofNat 16 (256 * 1 + reason))) time

/-- The events that a HOLD of `x` brings of itself (R9, R11): PEER_JOINED, PEER_OVERDRAW, PEER_FAULT, each on its condition
(in the order of log 7). -/
def State.peerEvents (s : State) (x : Nat) (h : HoldFields) : EventUnit :=
  ((s.events.takeIf ((entryAt s x).stored.status == .absent) .peerJoined (some x) none (some (valueOf h.held))
      s.time.ms).takeIf
    ((entryAt s x).stored.status != .absent
      && (entryAt s x).stored.held + allowanceFor h (entryAt s x).stored.earmark < h.held)
    .peerOverdraw (some x) none (some (valueOf h.held)) s.time.ms).takeIf
    ((entryAt s x).stored.localFault != h.localFault) .peerFault (some x) none (some (if h.localFault then 1 else 0))
    s.time.ms

/-- The events of an update that sets OVERCOMMIT at `s`, after those of `u` (R62, R92): OVERCOMMIT_SET with the sum of held
shares, by a HOLD of `source` if one set it; CLAIM_ABANDONED for an open INCREASE claim; SHARE_CHANGED with the floor where
own held is cut to it. OVERCOMMIT_SET comes first, as the worked sequence of 11.6 shows (log 8). -/
def State.overcommitEvents (s : State) (source : Option Nat) (sum : Nat) (u : EventUnit) : EventUnit :=
  ((u.take .overcommitSet source none (some (valueOf sum)) s.time.ms).takeAbandoned
    (s.alloc.claim.filter (fun c => c.kind == .increase)) 11 s.time.ms).takeIf
    (s.mc.station == .active && decide (s.alloc.share.floor < s.alloc.share.held)) .shareChanged none none
    (some (valueOf s.alloc.share.floor)) s.time.ms

/-- The table as step 2 of the answer to an ANNOUNCE leaves it (R14, R72): a MEMBER, SILENT or PENDING_JOIN entry of the joiner, not
SUSPECT, returned to ABSENT. -/
def State.rejoined (s : State) (j : Nat) : State :=
  if (entryAt s j).stored.status = .absent ∨ (entryAt s j).suspect = true then s
  else
    { s with
      table :=
        { s.table with
          entries := s.table.entries.set j
            { Entry.empty with stored := { Stored.empty with holdSeq := (entryAt s j).stored.holdSeq } } } }

/-- The entry less an earmark of this claim number (R16, R78): a PENDING_JOIN entry that carries one returns to ABSENT, with its
hold sequence and SUSPECT kept; any other loses the earmark alone; without one the entry stays as it is. -/
def Entry.without (n : Byte) (e : Entry) : Entry :=
  if e.stored.earmark.any (fun m => m.number == n) = false then e
  else if e.stored.status = .pendingJoin then
    { stored := { Stored.empty with holdSeq := e.stored.holdSeq }, parityGood := true, age := 0, expiry := 0
      suspect := e.suspect }
  else { e with stored := { e.stored with earmark := none }, parityGood := true, expiry := 0 }

/-- The entry of a CLAIM's source as the taking of the CLAIM leaves it (R15, R21): the frame's priority in a MEMBER or SILENT
entry that is not SUSPECT, any other entry as its check leaves it. -/
def entryOnClaim (s : State) (x priority : Nat) : Entry :=
  if suspectOnCheck s x = false
      ∧ ((entryAt s x).stored.status = .member ∨ (entryAt s x).stored.status = .silent) then
    { entryAt s x with stored := { (entryAt s x).stored with priority := priority } }
  else entryOnCheck s x

/-- The joiner's entry as the taking of its ANNOUNCE leaves it (R14, R21): ABSENT, the last hold sequence kept, where the
ANNOUNCE `rejoins`; any other entry as its check leaves it. -/
def entryOnAnnounce (s : State) (j : Nat) (rejoins : Bool) : Entry :=
  if rejoins then { Entry.empty with stored := { Stored.empty with holdSeq := (entryAt s j).stored.holdSeq } }
  else entryOnCheck s j

/-- The rows of R72 that answer an ANNOUNCE with OBJECT, in their order; none is row 7. -/
def announceRow (s : State) (j floor cls lease : Nat) : Option ObjectReason :=
  if cls ≠ s.mc.identity.capacityClass ∨ lease ≠ s.mc.identity.leaseSelect then some .mismatch
  else if (views (s.rejoined j)).any (fun e => e.suspect) then some .suspect
  else if (views (s.rejoined j)).any (fun e => e.stored.status == .silent) then some .silentPeer
  else if (views (s.rejoined j)).any (fun e => e.stored.earmark.isSome) || s.alloc.claim.isSome then some .busy
  else if capacity s < sumFloor (s.rejoined j) + floor then some .floorsFull
  else none

/-- The own ceiling for a joiner's floor (R73). -/
def ceilingFor (s : State) (j floor : Nat) : Nat :=
  s.alloc.share.floor + (capacity s - sumFloor (s.rejoined j) - floor)
    / ((views (s.rejoined j)).countP (fun e => e.stored.status == .member || e.stored.status == .pendingJoin) + 1)

/-- The first four rows of R69, which answer a CLAIM with OBJECT whatever the room. -/
def claimBar (s : State) (x : Nat) : Option ObjectReason :=
  if (entryAt s x).suspect = true ∨ (entryAt s x).stored.status ≠ .member then some .notMember
  else if (views s).any (fun e => e.suspect) then some .suspect
  else if s.table.overcommit then some .noRoom
  else if (views s).any (fun e => e.stored.earmark.any (fun m => m.kind == .floor)) then some .busy
  else none

/-- Slot `k` takes the decision for a key whose header reserved slot `r` (R68, R120): it holds the key, or no slot does and it
is the reserved slot, EMPTY (log 13). -/
def DecidedAt (s : State) (x : Nat) (n : Byte) (r : Option Nat) (k : Nat) : Prop :=
  (r.isSome = true ∧ s.outbox.answers.findIdx? (fun a => a.key == some (x, n)) = some k)
    ∨ ((∀ a ∈ s.outbox.answers, a.key ≠ some (x, n)) ∧ r = some k ∧ (answerAt s k).occupancy = .empty)

/-- No slot takes the decision (R68): none was reserved at the header, or none holds the key and the reserved one holds
another (log 13). -/
def NotDecided (s : State) (x : Nat) (n : Byte) (r : Option Nat) : Prop :=
  r = none ∨ ((∀ a ∈ s.outbox.answers, a.key ≠ some (x, n)) ∧ ∀ k, r = some k → (answerAt s k).occupancy ≠ .empty)

/-- An ANSWER slot holds a fresh decision (R68): FILLED under its key, no attempt spent, not expired, 24 ms to go, and last in
the answer list; an attempt still in flight was sent for what the slot held before (R129, log 26). -/
def AnswerDecided (k x : Nat) (n : Byte) (a : Answer) (shed : Bool) (s : State) : Prop :=
  (answerAt s k).occupancy = .filled ∧ (answerAt s k).key = some (x, n) ∧ (answerAt s k).content = some a
    ∧ (answerAt s k).attempts = 0 ∧ (answerAt s k).waitingShed = shed ∧ (answerAt s k).expired = false
    ∧ (answerAt s k).deadline = some 24 ∧ (answerAt s k).rewritten = (answerAt s k).inFlight ∧ s.outbox.answerList.getLast? = some k

/-- No check of a peer entry would fail: the parity is right, or the entry is SUSPECT and is not checked again (R21). -/
def NoCheckFails (s : State) : Prop :=
  ∀ i < 24, isPeer s i = true → (entryAt s i).parityGood = true ∨ (entryAt s i).suspect = true

/-- No check of a peer entry would fail, the kept sums are those of the entries, and OVERCOMMIT stands as they say (R7, R8,
R21). -/
def Settled (s : State) : Prop :=
  NoCheckFails s ∧ s.table.sums = sumsNow s ∧ (s.table.overcommit = true ↔ capacity s < sumHeld s)

end Sys2Proof.Machine
end

