-- ==== Sys2Proof/Certificates/Slice0/Obligations.lean ====
section
/-! DEFINITION. The statements for the provers, by chapter: the step and the reset, time, station state, the pilot, the line, ends
of attempts, frames taken, the local port, queued requests, and what every step keeps. A number after "log" is a row of
notes/assumptions. -/

open Sys2Proof Sys2Proof.Machine

/-! ## The step and the reset -/

/-- O1. A step runs the command at the front of the queue on the state that holds the queue's rest (log 1). -/
def Obligations.StepRunsTheFrontCommand : Prop :=
  ∀ (c : Instr) (rest : List Instr) (s : State),
    step { s with pending := c :: rest } = exec c { s with pending := rest }

/-- O2. No command stops the station or touches the commands that wait behind it, in any state (95: each step is
whole; INVENTORY, Faults). -/
def Obligations.EveryCommandAnswersAndKeepsTheQueue : Prop :=
  ∀ (c : Instr) (s : State), ∃ t, exec c s = .next t ∧ t.pending = s.pending

/-- O3. The values after reset that the manual states: R3, R8, R24, R25, R45, R48, R52, R79, R102, R110, R112, R119,
R136, R139, R140, R142, R148, R160, R176. -/
def Obligations.ResetLeavesTheStatedValues : Prop :=
  ∀ s : State, s = State.reset →
  (s.mc.station = .reset ∧ s.mc.census = 0 ∧ s.mc.retry = 0 ∧ s.mc.configured = false
      ∧ s.mc.request = { first := none, taken := false, behind := false } ∧ s.mc.lastResolution = none
      ∧ s.mc.duplicate = false)
    ∧ (∀ i < 24, (entryAt s i).stored.status = .absent ∧ (entryAt s i).stored.held = 0 ∧ (entryAt s i).stored.floor = 0
        ∧ (entryAt s i).stored.priority = 0 ∧ (entryAt s i).stored.holdSeq = 0
        ∧ (entryAt s i).stored.openClaim = none ∧ (entryAt s i).stored.earmark = none
        ∧ (entryAt s i).stored.localFault = false ∧ (entryAt s i).stored.overdrawn = false
        ∧ (entryAt s i).parityGood = true ∧ (entryAt s i).suspect = false ∧ (entryAt s i).age = 0)
    ∧ (sumHeld s = 0 ∧ sumEarmark s = 0 ∧ sumFloor s = 0 ∧ room s = capacity s
        ∧ s.table.sums = { held := 0, earmark := 0, floor := 0, room := capacity s, valid := 0, suspect := 0 }
        ∧ s.table.overcommit = false
        ∧ s.table.nextSnapshot = 0)
    ∧ (s.alloc.share.held = 0 ∧ s.alloc.share.lastTx = 0 ∧ s.alloc.share.floor = 0 ∧ s.alloc.share.priority = 0
        ∧ s.alloc.share.demand = 0 ∧ s.alloc.share.holdSeq = 0 ∧ s.alloc.share.claimCounter = 0
        ∧ s.alloc.share.silence = 0 ∧ s.alloc.share.failures = 0 ∧ s.alloc.share.backoff = none
        ∧ s.alloc.claim = none ∧ s.alloc.holdAttempt = none)
    ∧ (s.outbox.hold = { occupancy := .empty, attempts := 0, inFlight := false, resting := false }
        ∧ s.outbox.claim = { occupancy := .empty, key := none, content := none, attempts := 0, inFlight := false }
        ∧ s.outbox.answers.length = 4
        ∧ (∀ a ∈ s.outbox.answers, a =
            { occupancy := .empty, key := none, content := none, attempts := 0, inFlight := false, waitingShed := false,
              expired := false, deadline := none, rewritten := false })
        ∧ s.outbox.answerList = [])
    ∧ (s.line.rx.mode = .hunt ∧ s.line.rx.window = 0xFFFF ∧ s.line.idle = 0 ∧ s.line.tx = .none)
    ∧ (s.time.tickDivider = 0 ∧ s.time.ms = 0 ∧ s.time.leaseMatch = 0 ∧ s.time.leasePost = 0
        ∧ s.time.watchdog = { interval := 0, lock := false, remaining := 0 })
    ∧ (s.pilot.requested = 0 ∧ s.pilot.stateCopy = .reset
        ∧ s.pilot.faultIn = false ∧ s.pilot.loadIn = false
        ∧ s.pilot.mode = .idle ∧ s.pilot.drive = 0 ∧ s.pilot.duty = 0 ∧ s.pilot.applied = .normal ∧ s.pilot.phase = 0
        ∧ s.pilot.meter = 0 ∧ s.pilot.fullScale = 320 ∧ s.pilot.polarity = .normal)
    ∧ (s.events.queue = [] ∧ s.events.nextSeq = 0 ∧ (∀ c, s.events.filter.get c = true)
        ∧ s.events.steering =
            { membership := .attn, claim := .attn, answer := .none, share := .attn, line := .none, loc := .none,
              table := .alert }
        ∧ (∀ c, s.events.active.has c = false) ∧ (∀ c, s.events.acked.has c = false) ∧ s.events.popping = none)
    ∧ (s.port.transaction = .idle ∧ s.port.request = [] ∧ s.port.bits = [] ∧ s.port.response = [] ∧ s.port.fifo = []
        ∧ s.port.snapRequest = .none ∧ s.port.snapshot = none)

/-- O4. RST_N going low, the supply coming into range, and SEL_N rising on a decoded HARD_RESET each lead to RESET
from any state, with every block at its reset values and an attempt's cut mark left to run; an attempt that has been
taken to its end or to a mismatch is left to the end of its bit time (R25, R115, R117, R158, R174, R190). RST_N
leaves an internal reset that is already running to run on (log 27). -/
def Obligations.EverySourceOfResetEntersReset : Prop :=
  (∀ s : State, ∃ t, exec .rstNAsserted s = .next t
      ∧ EnteredReset false (if s.mc.station = .reset then s.pins.internalReset else 0) s t)
    ∧ (∀ s : State, ∃ t, exec .powerUp s = .next t ∧ EnteredReset s.pins.rstN 4096 s t)
    ∧ (∀ (s : State) (shifted : Nat), s.mc.station ≠ .reset → s.pins.selN = false → s.port.transaction = .response →
        s.port.atEnd = .hardReset →
          ∃ t, exec (.transactionEnd shifted) s = .next t
            ∧ EnteredReset s.pins.rstN 4096 { s with pins := { s.pins with selN := true } } t)

/-- O5. At reset end, with RST_N high and no internal reset in progress, the straps are latched, and the station
enters OFFLINE with a valid identity and MONITOR with an invalid one (R26); the change out of RESET is entry 0 of
the queue (R27, R174), which asserts ATTN_N (R167); the bit timing begins (R100), SEL_N low leads the port to IGNORE
(R176), and the kept room is the capacity (R7). Everything else stands at its reset value. While an internal reset
runs (log 3), or the transmitter still drives what OSC_IN times to its end (R117, R147; log 12), the command brings
RST_N high and nothing more; outside RESET it changes nothing (log 1). -/
def Obligations.ResetEndLatchesTheStraps : Prop :=
  ∀ (p : Straps) (s : State),
    (s.mc.station = .reset → s.pins.internalReset = 0 → s.line.tx = .none → ResetLaw s →
      ∃ t, exec (.resetEnd p) s = .next t
        ∧ t.mc.identity.number = p.sn.toNat ∧ t.mc.identity.capacityClass = p.cc.toNat
        ∧ t.mc.identity.leaseSelect = p.ls.toNat
        ∧ (t.mc.identity.valid = true ↔ p.sn.toNat ≤ 23
            ∧ ([p.sn.getLsbD 4, p.sn.getLsbD 3, p.sn.getLsbD 2, p.sn.getLsbD 1, p.sn.getLsbD 0, p.snp].countP id) % 2 = 1)
        ∧ t.mc = { s.mc with
            station := if t.mc.identity.valid then .offline else .monitor, identity := t.mc.identity }
        ∧ capacity t = 400 * (p.cc.toNat + 1)
        ∧ t.events = { s.events with
            nextSeq := 1
            queue :=
              [{ seq := 0, kind := .stateChanged, station := none, claim := none,
                 value := some (if t.mc.identity.valid then 2 else 1), time := 0, lossBefore := false }] }
        ∧ attnAsserted t.events = true ∧ alertAsserted t.events = false
        ∧ t.pins = { s.pins with rstN := true }
        ∧ t.line.bits.acc = 48 ∧ t.line.bits.length = 16 ∧ t.line.bits.pos = 0
        ∧ t.port = { Port.initial with transaction := if s.pins.selN then .idle else .ignore }
        ∧ t.table =
            { ShareTable.initial with
              sums := { held := 0, earmark := 0, floor := 0, room := capacity t, valid := 0, suspect := 0 } }
        ∧ { t with pins := s.pins, mc := s.mc, table := s.table, events := s.events, line := s.line, pilot := s.pilot,
                   port := s.port } = s
        ∧ { t.line with bits := s.line.bits } = s.line
        ∧ t.pilot = { PilotUnit.initial with stateCopy := t.mc.station })
    ∧ (s.mc.station = .reset → (s.pins.internalReset ≠ 0 ∨ s.line.tx ≠ .none) →
        exec (.resetEnd p) s = .next { s with pins := { s.pins with rstN := true } })
    ∧ (s.mc.station ≠ .reset → exec (.resetEnd p) s = .next s)

/-! ## Time -/

/-- O6. A tick (R136, R137). Once issued it is due at the Share Table, the Allocation Engine and the Time Base, the
tick divider is 0, and a period start is due at the Pilot Unit (R151), beside those it has still to make (log 4).
Each of the three takes it as an event of its own, in the step that issues it or in a later one (log 4), and moves
its own counts alone: the expiry counts of earmarks (R16); the claim record's counts (R52, R57), the window of a
claim in COMMITTING standing as it is (log 37), the backoff (R65) and the answer deadlines (R77); the millisecond
count (R139), the lease clock, whose values are O7's, and the watchdog while it runs (R142). A block that has none
to take takes none (log 1), the order of the blocks makes no difference, and one that has still to take the former
tick, due once at each block (O59), takes it ahead of a new one. In RESET there is no tick (R136). A TICK given as a
command stands for the periods left to it (log 3), and a count that reaches 0 keeps what it counts for until the
command of its own that acts on it (log 4). What a failure of the storage leaves (log 6) is the last clause. -/
def Obligations.TickLowersEveryCount : Prop :=
  (∀ s : State, s.mc.station ≠ .reset → s.time.tickDue = [] →
      exec (.tick (.issued [] [])) s = .next
        { s with
          time := { s.time with tickDivider := 0, tickDue := [.shareTable, .allocation, .timeBase] }
          pilot := { s.pilot with periodDue := s.pilot.periodDue + 1 } })
    ∧ (∀ s : State, s.mc.station ≠ .reset → s.time.tickDue.contains .shareTable = true →
        exec (.tick (.taken [.shareTable])) s = .next
          { s with
            time := { s.time with tickDue := s.time.tickDue.erase .shareTable }
            table :=
              { s.table with
                entries := s.table.entries.map
                  (fun e => if e.stored.earmark.isSome then { e with expiry := e.expiry - 1 } else e) } })
    ∧ (∀ s : State, s.mc.station ≠ .reset → s.time.tickDue.contains .allocation = true →
        exec (.tick (.taken [.allocation])) s = .next
          { s with
            time := { s.time with tickDue := s.time.tickDue.erase .allocation }
            alloc :=
              { s.alloc with
                share := { s.alloc.share with backoff := s.alloc.share.backoff.map (fun n => n - 1) }
                claim := s.alloc.claim.map (fun c =>
                  match c.phase with
                  | .sending => c
                  | .awaiting => { c with window := c.window - 1, deadline := c.deadline - 1 }
                  | .committing => { c with deadline := c.deadline - 1 }) }
            outbox :=
              { s.outbox with
                answers := s.outbox.answers.map (fun a => { a with deadline := a.deadline.map (fun n => n - 1) }) } })
    ∧ (∀ s : State, s.mc.station ≠ .reset → s.time.tickDue.contains .timeBase = true →
        ∃ t, exec (.tick (.taken [.timeBase])) s = .next t
          ∧ t.time =
              { s.time with
                tickDue := s.time.tickDue.erase .timeBase
                ms := s.time.ms + 1
                watchdog :=
                  if s.time.watchdog.interval = 0 then s.time.watchdog
                  else { s.time.watchdog with remaining := s.time.watchdog.remaining - 1 }
                leaseMatch := t.time.leaseMatch, leasePost := t.time.leasePost, boundaryDue := t.time.boundaryDue }
          ∧ { t with time := s.time } = s)
    ∧ (∀ (b : TickBlock) (s : State), s.time.tickDue.contains b = false → exec (.tick (.taken [b])) s = .next s)
    ∧ (∀ (b : TickBlock) (blocks : List TickBlock) (s : State),
        ∃ t, exec (.tick (.taken [b])) s = .next t
          ∧ exec (.tick (.taken (b :: blocks))) s = exec (.tick (.taken blocks)) t)
    ∧ (∀ (a b : TickBlock) (s : State), exec (.tick (.taken [a, b])) s = exec (.tick (.taken [b, a])) s)
    ∧ (∀ (blocks : List TickBlock) (s : State), s.mc.station ≠ .reset →
        ∃ t, exec (.tick (.issued [] [])) s = .next t
          ∧ exec (.tick (.issued [] blocks)) s = exec (.tick (.taken blocks)) t)
    ∧ (∀ (upsets : List Upset) (blocks : List TickBlock) (s : State), s.time.tickDue.Nodup →
        ∃ t, exec (.tick (.taken [.shareTable, .allocation, .timeBase])) s = .next t
          ∧ exec (.tick (.issued upsets blocks)) s = exec (.tick (.issued upsets blocks)) t)
    ∧ (∀ (event : TickEvent) (s : State), s.mc.station = .reset → exec (.tick event) s = .next s)
    ∧ (∀ (u : Upset) (blocks : List TickBlock) (s : State), s.mc.station ≠ .reset → isPeer s u.station = true →
        s.table.entries.length = 24 →
        ∃ t, exec (.tick (.issued [u] blocks)) s = .next t
          ∧ (entryAt t u.station).stored = u.stored ∧ (entryAt t u.station).parityGood = false
          ∧ (entryAt t u.station).suspect = (entryAt s u.station).suspect
          ∧ (entryAt t u.station).age = (entryAt s u.station).age)

/-- O7. The lease clock (R140) and the millisecond count (R139): from both counters at 0, with every tick taken at
every block as it is issued, the n-th tick leaves them at n modulo the lease period's ticks, and exactly the ticks
that are a multiple of the period make a lease boundary due at every block that takes it (R141), beside those that
the block has still to take (log 5). -/
def Obligations.LeaseBoundaryFallsEveryLeasePeriod : Prop :=
  ∀ (n per : Nat) (s : State), s.mc.station ≠ .reset → s.time.tickDue = [] → s.time.leaseMatch = 0 →
    s.time.leasePost = 0 →
    ((s.mc.identity.leaseSelect = 0 ∧ per = 100) ∨ (s.mc.identity.leaseSelect = 1 ∧ per = 200)
      ∨ (s.mc.identity.leaseSelect = 2 ∧ per = 500) ∨ (s.mc.identity.leaseSelect = 3 ∧ per = 1000)) →
      (afterTicks n s).time.leaseMatch + 100 * (afterTicks n s).time.leasePost = n % per
        ∧ (afterTicks n s).time.leaseMatch < 100
        ∧ (afterTicks n s).time.ms = s.time.ms + BitVec.ofNat 16 n
        ∧ ((n + 1) % per = 0 →
            (afterTicks (n + 1) s).time.boundaryDue
              = (afterTicks n s).time.boundaryDue ++ [.shareTable, .membership, .allocation, .outbox])
        ∧ ((n + 1) % per ≠ 0 → (afterTicks (n + 1) s).time.boundaryDue = (afterTicks n s).time.boundaryDue)

/-- O8. One OSC_IN period on an empty queue (log 2): outside RESET the tick divider rises, and at 4096 it returns to 0
and a tick comes, which the blocks take at once (R136, R137; log 4): after the counts of the period itself, the step
is the command TICK taken by its three blocks, whose counts are O6's and whose lease clock is O7's. The pilot's phase
count rises (R152); the bit timing moves, and at the end of a bit time the transmitter reaches its next bit (R100,
R112), in the period that brings a tick as in any other. In RESET the divider stands, the internal reset runs (R136),
and with it what the transmitter still drives, which ends by itself (R117). Nothing else moves. -/
def Obligations.IdleStepIsOneOscillatorPeriod : Prop :=
  (∀ s : State, s.pending = [] → s.mc.station ≠ .reset → s.time.tickDivider < 4095 →
      ∃ t, step s = .next t
        ∧ t.time = { s.time with tickDivider := s.time.tickDivider + 1 }
        ∧ t.pilot = { s.pilot with phase := min (s.pilot.phase + 1) 4095 }
        ∧ (s.line.bits.pos + 1 < s.line.bits.length →
            t.line = { s.line with bits := { s.line.bits with pos := s.line.bits.pos + 1 } })
        ∧ (s.line.bits.length ≤ s.line.bits.pos + 1 →
            s.line.bits.Begun t.line.bits ∧ s.line.tx.SentOn t.line.tx
              ∧ { t.line with bits := s.line.bits, tx := s.line.tx } = s.line)
        ∧ { t with time := s.time, pilot := s.pilot, line := s.line } = s)
    ∧ (∀ s : State, s.pending = [] → s.mc.station ≠ .reset → s.time.tickDivider = 4095 →
        ∃ l : LineInterface,
          (s.line.bits.pos + 1 < s.line.bits.length →
              l = { s.line with bits := { s.line.bits with pos := s.line.bits.pos + 1 } })
            ∧ (s.line.bits.length ≤ s.line.bits.pos + 1 →
                s.line.bits.Begun l.bits ∧ s.line.tx.SentOn l.tx
                  ∧ { l with bits := s.line.bits, tx := s.line.tx } = s.line)
            ∧ step s = exec (.tick (.issued [] [.shareTable, .allocation, .timeBase]))
                { s with line := l, pilot := { s.pilot with phase := min (s.pilot.phase + 1) 4095 } }
            ∧ (s.time.tickDue = [] →
                ∃ t, step s = .next t ∧ t.line = l
                  ∧ t.table =
                      { s.table with
                        entries := s.table.entries.map
                          (fun e => if e.stored.earmark.isSome then { e with expiry := e.expiry - 1 } else e) }
                  ∧ t.alloc =
                      { s.alloc with
                        share := { s.alloc.share with backoff := s.alloc.share.backoff.map (fun n => n - 1) }
                        claim := s.alloc.claim.map (fun c =>
                          match c.phase with
                          | .sending => c
                          | .awaiting => { c with window := c.window - 1, deadline := c.deadline - 1 }
                          | .committing => { c with deadline := c.deadline - 1 }) }
                  ∧ t.outbox =
                      { s.outbox with
                        answers := s.outbox.answers.map
                          (fun a => { a with deadline := a.deadline.map (fun n => n - 1) }) }
                  ∧ t.time =
                      { s.time with
                        tickDivider := 0, tickDue := [], ms := s.time.ms + 1
                        watchdog :=
                          if s.time.watchdog.interval = 0 then s.time.watchdog
                          else { s.time.watchdog with remaining := s.time.watchdog.remaining - 1 }
                        leaseMatch := t.time.leaseMatch, leasePost := t.time.leasePost
                        boundaryDue := t.time.boundaryDue }
                  ∧ t.pilot =
                      { s.pilot with phase := min (s.pilot.phase + 1) 4095, periodDue := s.pilot.periodDue + 1 }
                  ∧ { t with time := s.time, pilot := s.pilot, line := s.line, table := s.table, alloc := s.alloc,
                             outbox := s.outbox } = s))
    ∧ (∀ s : State, s.pending = [] → s.mc.station = .reset →
        ∃ t, step s = .next t ∧ t.pins = { s.pins with internalReset := s.pins.internalReset - 1 }
          ∧ { t with pins := s.pins, line := s.line } = s
          ∧ { t.line with bits := s.line.bits, tx := s.line.tx } = s.line
          ∧ (s.line.tx = .none → t.line = s.line)
          ∧ (s.line.tx ≠ .none → s.line.bits.pos + 1 < s.line.bits.length →
              t.line.bits = { s.line.bits with pos := s.line.bits.pos + 1 }
                ∧ t.line.tx = if s.line.tx.over then .none else s.line.tx)
          ∧ (s.line.tx ≠ .none → s.line.bits.length ≤ s.line.bits.pos + 1 →
              s.line.bits.Begun t.line.bits
                ∧ ∃ tx, s.line.tx.SentOn tx ∧ t.line.tx = if tx.over then .none else tx))

/-- O9. The Share Table's lease boundary (R17 to R19, R21): every peer entry is checked and aged, the own entry is
not. An ABSENT entry and a PENDING_JOIN entry that are not SUSPECT keep their age; an age that reaches 8 returns the
entry to ABSENT with SUSPECT cleared and its hold sequence kept; a MEMBER entry that reaches 4 becomes SILENT; the
others are one boundary older. The events of one entry's work at a lease boundary (R17 to R19, R21): PARITY for a
failed check, ahead of PEER_ABSENT with the held that counted, or PEER_SILENT with the held (log 7). With OVERCOMMIT
set, or the held shares within the capacity, the events of the whole step are those of the stations in order (R17),
then OVERCOMMIT_CLEAR with the sum of held shares where the condition was set and the sum then fits (R93). The
stations whose entries become SILENT or ABSENT here, and no others, are struck off the roll of an open claim, which
may cover it (R56). -/
def Obligations.ShareTableAgesEveryPeerEntry : Prop :=
  (∀ s : State, s.table.entries.length = 24 → s.time.boundaryDue.contains .shareTable = true →
    ∃ t, exec (.leaseBoundary [.shareTable]) s = .next t
      ∧ (∀ i < 24, isPeer s i = false → entryAt t i = entryAt s i)
      ∧ (∀ i < 24, isPeer s i = true →
          ((suspectOnCheck s i = false
                ∧ ((entryAt s i).stored.status = .absent ∨ (entryAt s i).stored.status = .pendingJoin)) →
              entryAt t i = entryAt s i)
            ∧ ((suspectOnCheck s i = true ∨ (entryAt s i).stored.status = .member
                  ∨ (entryAt s i).stored.status = .silent) →
                (7 ≤ (entryAt s i).age →
                    entryAt t i =
                      { stored := { Stored.empty with holdSeq := (entryAt s i).stored.holdSeq }, parityGood := true,
                        age := 0, expiry := 0, suspect := false })
                  ∧ ((3 ≤ (entryAt s i).age ∧ (entryAt s i).age < 7 ∧ suspectOnCheck s i = false
                        ∧ (entryAt s i).stored.status = .member) →
                      entryAt t i =
                        { entryAt s i with
                          stored := { (entryAt s i).stored with status := .silent }
                          age := (entryAt s i).age + 1 })
                  ∧ (((entryAt s i).age < 3 ∨ ((entryAt s i).age < 7
                        ∧ (suspectOnCheck s i = true ∨ (entryAt s i).stored.status = .silent))) →
                      entryAt t i = { entryOnCheck s i with age := (entryAt s i).age + 1 })))
      ∧ (∀ c, s.alloc.claim = some c → ∀ d, t.alloc.claim = some d →
          (∀ i < 24, (i ∈ d.roll ↔ i ∈ c.roll ∧ ¬ FallsAtBoundary s i))
            ∧ ((∃ i < 24, i ∈ c.roll ∧ FallsAtBoundary s i) → c.phase = .awaiting → (∀ i ∈ d.roll, i ∈ c.assents) →
                d.phase = .committing))
      ∧ ((s.table.overcommit = true ∨ sumHeld s ≤ capacity s) →
          { t.events with active := s.events.active, acked := s.events.acked } =
            ((List.range 24).foldl (fun u i => s.boundaryEvent i u) s.events).takeIf
              (s.table.overcommit && decide (sumHeld t ≤ capacity s)) .overcommitClear none none
              (some (valueOf (sumHeld t))) s.time.ms)
      ∧ t.table.entries.length = 24
      ∧ t.time = { s.time with boundaryDue := s.time.boundaryDue.erase .shareTable }
      ∧ t.pins = s.pins ∧ t.port = s.port ∧ t.mc = s.mc ∧ t.line.rx = s.line.rx ∧ t.line.inbox = s.line.inbox)
    ∧ (∀ (i : Nat) (s : State), isPeer s i = true → s.table.entries.length = 24 → i < 24 →
    ((suspectOnCheck s i = false
          ∧ ((entryAt s i).stored.status = .absent ∨ (entryAt s i).stored.status = .pendingJoin)) →
        (ageEntry i s).events = s.events)
      ∧ ((suspectOnCheck s i = true ∨ (entryAt s i).stored.status = .member
            ∨ (entryAt s i).stored.status = .silent) →
          (7 ≤ (entryAt s i).age →
              (ageEntry i s).events =
                (eventsOnCheck s i).take .peerAbsent (some i) none
                  (some (valueOf (if suspectOnCheck s i then 0 else (entryAt s i).stored.held))) s.time.ms)
            ∧ ((3 ≤ (entryAt s i).age ∧ (entryAt s i).age < 7 ∧ suspectOnCheck s i = false
                  ∧ (entryAt s i).stored.status = .member) →
                (ageEntry i s).events =
                  s.events.take .peerSilent (some i) none (some (valueOf (entryAt s i).stored.held)) s.time.ms)
            ∧ (((entryAt s i).age < 3 ∨ ((entryAt s i).age < 7
                  ∧ (suspectOnCheck s i = true ∨ (entryAt s i).stored.status = .silent))) →
                (ageEntry i s).events = eventsOnCheck s i)))

/-- O10. The Membership Controller's lease boundary (R31, R36): the census count rises to 2 and stays; a station in
CENSUS at 2, and a station in WAITING at a join-retry count of 4, enters JOINING, with the FLOOR claim opened under
the next claim number and the CLAIM slot filled with its ANNOUNCE (R32), the own silence counter 0 and own held 0. -/
def Obligations.CensusAndRetryLeadToJoining : Prop :=
  ∀ s : State, s.time.boundaryDue.contains .membership = true →
    ∃ t, exec (.leaseBoundary [.membership]) s = .next t
      ∧ t.mc.census = min (s.mc.census + 1) 2
      ∧ t.mc.retry = (if s.mc.station = .waiting then s.mc.retry + 1 else s.mc.retry)
      ∧ (((s.mc.station = .census ∧ 1 ≤ s.mc.census) ∨ (s.mc.station = .waiting ∧ 3 ≤ s.mc.retry)) →
          t.mc.station = .joining ∧ t.alloc.share.silence = 0 ∧ t.alloc.share.held = 0
            ∧ t.alloc.share.claimCounter = s.alloc.share.claimCounter + 1
            ∧ t.alloc.claim = some
                { kind := .floor, number := s.alloc.share.claimCounter + 1, amount := s.alloc.share.floor, phase := .sending,
                  roll := [], assents := [], window := 24, deadline := 48, inFlight := false, deadlinePassed := false }
            ∧ t.outbox.claim =
                { occupancy := .filled, key := some (s.alloc.share.claimCounter + 1), content := some .floor, attempts := 0,
                  inFlight := false })
      ∧ (((s.mc.station ≠ .census ∨ s.mc.census = 0) ∧ (s.mc.station ≠ .waiting ∨ s.mc.retry < 3)) →
          { t with mc := s.mc, time := s.time } = s ∧ { t.mc with census := s.mc.census, retry := s.mc.retry } = s.mc)
      ∧ t.time = { s.time with boundaryDue := s.time.boundaryDue.erase .membership }

/-- O11. The Allocation Engine's lease boundary (R83, R87, R40): in ACTIVE the own silence counter rises, and the HOLD
slot is filled if it is empty; at 3 the station fences, with the farewell in the slot; in JOINING the counter alone
rises, up to 3, an update of the table as any change of the own share record is (R7); elsewhere nothing. The Outbox's
lease boundary (R132): in ACTIVE the HOLD slot's attempt count is 0 and it no longer rests; elsewhere, and in every
other slot, nothing changes. A block that has no boundary to take takes none (log 1, log 5). Several blocks named in
one command take it one after the other, in the order named (R141; log 5). -/
def Obligations.AllocationAndOutboxTakeTheBoundary : Prop :=
  (∀ s : State, s.time.boundaryDue.contains .allocation = true →
    ∃ t, exec (.leaseBoundary [.allocation]) s = .next t
      ∧ t.time = { s.time with boundaryDue := s.time.boundaryDue.erase .allocation }
      ∧ ((s.mc.station = .active ∨ s.mc.station = .joining) →
          t.alloc.share.silence = min (s.alloc.share.silence + 1) 3)
      ∧ ((s.mc.station = .active ∧ s.alloc.share.silence < 2) →
          t.mc.station = .active
            ∧ t.outbox.hold = (if s.outbox.hold.occupancy = .filled then s.outbox.hold
                else { occupancy := .filled, attempts := 0, inFlight := false, resting := false })
            ∧ t.outbox.answers = s.outbox.answers ∧ t.table.entries = s.table.entries)
      ∧ ((s.mc.station = .active ∧ 2 ≤ s.alloc.share.silence) →
          t.mc.station = .fenced ∧ t.alloc.share.held = 0 ∧ t.pilot.requested = 0 ∧ t.alloc.claim = none
            ∧ t.outbox.hold = { occupancy := .filled, attempts := 0, inFlight := false, resting := false }
            ∧ t.events.active.fenced = true)
      ∧ (s.mc.station = .joining →
          t = endUpdate none
            { s with
              time := { s.time with boundaryDue := s.time.boundaryDue.erase .allocation }
              alloc :=
                { s.alloc with
                  share := { s.alloc.share with silence := min (s.alloc.share.silence + 1) 3 } } })
      ∧ ((s.mc.station ≠ .active ∧ s.mc.station ≠ .joining) → { t with time := s.time } = s))
    ∧ (∀ s : State, s.time.boundaryDue.contains .outbox = true →
    ∃ t, exec (.leaseBoundary [.outbox]) s = .next t
      ∧ t.outbox = (if s.mc.station = .active then
          { s.outbox with hold := { s.outbox.hold with attempts := 0, resting := false } } else s.outbox)
      ∧ t.time = { s.time with boundaryDue := s.time.boundaryDue.erase .outbox }
      ∧ { t with outbox := s.outbox, time := s.time } = s)
    ∧ (∀ (b : Block) (s : State), s.time.boundaryDue.contains b = false → exec (.leaseBoundary [b]) s = .next s)
    ∧ (∀ (b : Block) (rest : List Block) (s : State),
        ∃ t, exec (.leaseBoundary [b]) s = .next t
          ∧ exec (.leaseBoundary (b :: rest)) s = exec (.leaseBoundary rest) t)
    ∧ (∀ s : State, exec (.leaseBoundary []) s = .next s)

/-- O12. An earmark whose count is at 0 goes (R16, R76): a PENDING_JOIN entry returns to ABSENT, with SUSPECT kept;
any other entry keeps all but the earmark; the ASSENT that waits on it is withdrawn and an attempt of it cut, the
mark beginning with the next bit time (log 30), by the claim number that the storage reads, for a SUSPECT entry by
the model's choice (log 39); no other entry and no other slot changes. The expiry is a command of
its own at a count of 0 (log 4), one for each earmark (log 35); where no earmark is due it changes nothing (log 1). -/
def Obligations.EarmarkExpiryRemovesEarmarkAndAssent : Prop :=
  (∀ (i : Fin 24) (s : State), s.mc.station ≠ .reset → isPeer s i = true → s.table.entries.length = 24 →
      s.outbox.answers.length = 4 → (entryAt s i).expiry = 0 → ∀ m, (entryAt s i).stored.earmark = some m →
        ∃ t, exec (.earmarkExpiry i) s = .next t
          ∧ entryAt t i =
              (if (entryAt s i).stored.status = .pendingJoin then
                { stored := { Stored.empty with holdSeq := (entryAt s i).stored.holdSeq }, parityGood := true, age := 0,
                  expiry := 0, suspect := suspectOnCheck s i }
              else
                { entryOnCheck s i with
                  stored := { (entryAt s i).stored with earmark := none }
                  parityGood := true })
          ∧ (∀ j < 24, j ≠ i.val → entryAt t j = entryAt s j)
          ∧ (∀ k, answerFor s i m.number = some k → (answerAt s k).content = some .assent →
              answerAt t k = AnswerSlot.empty ∧ k ∉ t.outbox.answerList
                ∧ (∀ a, s.line.tx = .sending a → a.live = true → a.slot = .answer k →
                  t.line.tx = .marking a (max 16 (a.sent + 1)))
                ∧ ∀ j < 4, j ≠ k → answerAt t j = answerAt s j)
          ∧ ((answerFor s i m.number = none) → t.outbox.answers = s.outbox.answers)
          ∧ t.mc = s.mc ∧ t.pins = s.pins ∧ t.time = s.time ∧ t.port = s.port)
    ∧ (∀ (i : Fin 24) (s : State),
        ((entryAt s i).stored.earmark = none ∨ (entryAt s i).expiry ≠ 0 ∨ isPeer s i = false ∨ s.mc.station = .reset) →
          exec (.earmarkExpiry i) s = .next s)

/-- O13. The response window at 0 in AWAITING with the roll not covered, and the commit deadline at 0 in COMMITTING
with no commit attempt in flight, end an INCREASE claim (R57, R60): CLAIM_FAILED with NO_ANSWER, or CLAIM_LAPSED
with the amount; the record gone, the CLAIM slot empty, one more failure up to 15, and the backoff of R65 for that
count (R64). With the commit attempt IN_FLIGHT the passing of the deadline is noted and the claim waits. The same
two limits end a join (R35, R57, R60): the claim is gone, the station is in WAITING with a join-retry count of 0,
and neither the failure count nor the backoff changes. A commit attempt reported COLLIDED (R58, R60, R63, R64): the
claim waits for its next attempt; it lapses if its deadline passed meanwhile, a join going to WAITING; an INCREASE
claim is abandoned with DEMAND_DROP if the demand target does not lie above own held at the report (log 21). Where
both hold, it has ended in one of these two ways (log 9), counted as one failure. The sixteenth report is O36's, and
a CUT report O22's. -/
def Obligations.LimitsAndFailedCommitsEndTheClaim : Prop :=
  (∀ (c : ClaimRecord) (s : State), s.alloc.claim = some c → c.kind = .increase → c.phase = .awaiting → c.window = 0 →
      (∃ i ∈ c.roll, i ∉ c.assents) →
        exec .responseWindowPassed s = .next (endUpdate none
          { s with
            alloc := claimCounted s
            outbox := { s.outbox with claim := ClaimSlot.empty }
            line := { s.line with tx := s.line.tx.cutFrom .claim }
            events := s.events.take .claimFailed none (some c.number) (some (BitVec.ofNat 16 (256 * 1 + 8))) s.time.ms }))
    ∧ (∀ (c : ClaimRecord) (s : State), s.alloc.claim = some c → c.kind = .increase → c.phase = .committing →
        c.deadline = 0 → c.inFlight = false → c.deadlinePassed = false →
          exec .commitDeadlinePassed s = .next (endUpdate none
            { s with
              alloc := claimCounted s
              outbox := { s.outbox with claim := ClaimSlot.empty }
              line := { s.line with tx := s.line.tx.cutFrom .claim }
              events := s.events.take .claimLapsed none (some c.number) (some (valueOf c.amount)) s.time.ms }))
    ∧ (∀ (c : ClaimRecord) (s : State), s.alloc.claim = some c → c.phase = .committing → c.deadline = 0 →
        c.inFlight = true → c.deadlinePassed = false →
          exec .commitDeadlinePassed s
            = .next { s with alloc := { s.alloc with claim := some { c with deadlinePassed := true } } })
    ∧ (∀ (c : ClaimRecord) (s : State), s.alloc.claim = some c → s.mc.station = .joining → c.kind = .floor →
      c.phase = .awaiting → c.window = 0 → (∃ i ∈ c.roll, i ∉ c.assents) →
        ∃ t, exec .responseWindowPassed s = .next t ∧ t.mc.station = .waiting ∧ t.mc.retry = 0 ∧ t.alloc.claim = none
          ∧ t.outbox.hold = HoldSlot.empty ∧ t.outbox.claim = ClaimSlot.empty
          ∧ t.alloc.share.failures = s.alloc.share.failures ∧ t.alloc.share.backoff = s.alloc.share.backoff)
    ∧ (∀ (c : ClaimRecord) (s : State), s.alloc.claim = some c → s.mc.station = .joining → c.kind = .floor →
        c.phase = .committing → c.deadline = 0 → c.inFlight = false → c.deadlinePassed = false →
          ∃ t, exec .commitDeadlinePassed s = .next t ∧ t.mc.station = .waiting ∧ t.mc.retry = 0 ∧ t.alloc.claim = none
            ∧ t.outbox.hold = HoldSlot.empty ∧ t.outbox.claim = ClaimSlot.empty
            ∧ t.alloc.share.failures = s.alloc.share.failures ∧ t.alloc.share.backoff = s.alloc.share.backoff)
    ∧ (∀ (c : ClaimRecord) (a : Attempt) (s : State), s.alloc.claim = some c → c.inFlight = true →
      s.outbox.hold.attempts < 15 → SendsFrom s .hold a → a.mismatch = true →
      ((c.deadlinePassed = false ∧ (c.kind = .floor ∨ s.alloc.share.held < s.alloc.share.demand)) →
          exec .attemptCollided s = .next (endUpdate none
            { s with
              alloc := { s.alloc with claim := some { c with inFlight := false } }
              line := (endAttempt s).line
              outbox :=
                { s.outbox with
                  hold := { s.outbox.hold with inFlight := false, attempts := s.outbox.hold.attempts + 1 } } }))
      ∧ ((c.kind = .increase ∧ c.deadlinePassed = true ∧ s.alloc.share.held < s.alloc.share.demand) →
          exec .attemptCollided s = .next (endUpdate none
            { s with
              alloc := claimCounted s
              line := (endAttempt s).line
              outbox :=
                { s.outbox with
                  hold := { s.outbox.hold with inFlight := false, attempts := s.outbox.hold.attempts + 1 }
                  claim := ClaimSlot.empty }
              events := s.events.take .claimLapsed none (some c.number) (some (valueOf c.amount)) s.time.ms }))
      ∧ ((c.kind = .increase ∧ c.deadlinePassed = false ∧ s.alloc.share.demand ≤ s.alloc.share.held) →
          exec .attemptCollided s = .next (endUpdate none
            { s with
              alloc := claimCounted s
              line := (endAttempt s).line
              outbox :=
                { s.outbox with
                  hold := { s.outbox.hold with inFlight := false, attempts := s.outbox.hold.attempts + 1 }
                  claim := ClaimSlot.empty }
              events := s.events.take .claimAbandoned none (some c.number) (some (BitVec.ofNat 16 (256 * 1 + 10)))
                s.time.ms }))
      ∧ ((c.kind = .increase ∧ c.deadlinePassed = true ∧ s.alloc.share.demand ≤ s.alloc.share.held) →
          ∃ t, exec .attemptCollided s = .next t ∧ t.alloc.claim = none
            ∧ t.alloc.share.failures = min (s.alloc.share.failures + 1) 15)
      ∧ ((c.kind = .floor ∧ c.deadlinePassed = true) →
          ∃ t, exec .attemptCollided s = .next t ∧ t.mc.station = .waiting ∧ t.mc.retry = 0 ∧ t.alloc.claim = none
            ∧ t.outbox.hold = HoldSlot.empty ∧ t.outbox.claim = ClaimSlot.empty
            ∧ t.alloc.share.failures = s.alloc.share.failures ∧ t.alloc.share.backoff = s.alloc.share.backoff))

/-- O14. An ANSWER slot whose deadline has reached 0 (R77): with no attempt of it in flight the slot is emptied and
leaves the answer list, the earmark of an ASSENT goes, an OBJECT leaves table and own records as they were, and
ANSWER_EXPIRED reports claimant, number, DEADLINE and what the slot held; with an attempt in flight it is marked
expired and nothing else changes. A slot whose deadline is not at 0, that is not FILLED, or that is expired already is
left as it is (log 1). -/
def Obligations.AnswerDeadlineDropsTheAnswer : Prop :=
  (∀ (k : Fin 4) (s : State), s.outbox.answers.length = 4 → s.table.entries.length = 24 →
      (answerAt s k).occupancy = .filled → (answerAt s k).deadline = some 0 → (answerAt s k).expired = false →
      (answerAt s k).inFlight = false → ∀ key, (answerAt s k).key = some key → key.1 < 24 →
      ∀ a, (answerAt s k).content = some a →
        ∃ t, exec (.answerDeadline k) s = .next t
          ∧ answerAt t k = AnswerSlot.empty ∧ k.val ∉ t.outbox.answerList
          ∧ (∀ j < 4, j ≠ k.val → answerAt t j = answerAt s j)
          ∧ (a = .assent → isPeer s key.1 = true → ∀ m, (entryAt s key.1).stored.earmark = some m → m.number = key.2 →
              (entryAt t key.1).stored.earmark = none)
          ∧ (a ≠ .assent → t.table = s.table ∧ t.alloc = s.alloc ∧ t.pilot = s.pilot)
          ∧ (Settled s → s.table.overcommit = false →
              t.events.queue = (s.events.take .answerExpired (some key.1) (some key.2)
                (some (BitVec.ofNat 16 (256 * 1 + if a = .assent then 1 else 2))) s.time.ms).queue)
          ∧ t.mc = s.mc ∧ t.pins = s.pins ∧ t.time = s.time ∧ t.port = s.port)
    ∧ (∀ (k : Fin 4) (s : State), (answerAt s k).occupancy = .filled → (answerAt s k).deadline = some 0 →
        (answerAt s k).expired = false → (answerAt s k).inFlight = true →
          ∃ t, exec (.answerDeadline k) s = .next t
            ∧ answerAt t k = { answerAt s k with expired := true }
            ∧ (∀ j < 4, j ≠ k.val → answerAt t j = answerAt s j)
            ∧ { t.outbox with answers := s.outbox.answers } = s.outbox ∧ { t with outbox := s.outbox } = s)
    ∧ (∀ (k : Fin 4) (s : State),
        ((answerAt s k).occupancy ≠ .filled ∨ (answerAt s k).deadline ≠ some 0 ∨ (answerAt s k).expired = true) →
          exec (.answerDeadline k) s = .next s)

/-- O15. The watchdog's expiry (R41, R145): WATCHDOG_EXPIRED with the interval; FENCED from ACTIVE, JOINING and
WAITING, after the report, no change of state elsewhere; the watchdog restarted with the same interval. While the
watchdog is off, its count is not at 0, or in RESET the command changes nothing (log 1). -/
def Obligations.WatchdogExpiryReportsFencesAndRestarts : Prop :=
  (∀ s : State, s.mc.station ≠ .reset → s.time.watchdog.interval ≠ 0 → s.time.watchdog.remaining = 0 →
      ∃ t, exec .watchdogExpired s = .next t
        ∧ t.time = { s.time with watchdog := { s.time.watchdog with remaining := 10 * s.time.watchdog.interval } }
        ∧ ((s.mc.station = .active ∨ s.mc.station = .joining ∨ s.mc.station = .waiting) →
            t =
                { endUpdate none (changeState .fenced
                    { s with
                      events := s.events.take .watchdogExpired none none (some (valueOf s.time.watchdog.interval))
                        s.time.ms }) with
                  time := t.time }
              ∧ t.mc.station = .fenced ∧ t.alloc.share.held = 0 ∧ t.pilot.requested = 0 ∧ t.alloc.claim = none
              ∧ t.outbox.hold = { occupancy := .filled, attempts := 0, inFlight := false, resting := false })
        ∧ ((s.mc.station ≠ .active ∧ s.mc.station ≠ .joining ∧ s.mc.station ≠ .waiting) →
            t.events = s.events.take .watchdogExpired none none (some (valueOf s.time.watchdog.interval)) s.time.ms
              ∧ { t with time := s.time, events := s.events } = s))
    ∧ (∀ s : State, (s.mc.station = .reset ∨ s.time.watchdog.interval = 0 ∨ s.time.watchdog.remaining ≠ 0) →
        exec .watchdogExpired s = .next s)

/-! ## Changes of station state, and the end of an update -/

/-- O16. A change of station state with its entry actions (R27, R28, R36, R37, R42, R44, R62, R76, R79, R90, R124):
the state and the Pilot Unit's copy of it; FENCED and FAULT as alert conditions; outside ACTIVE held and drive 0, no
answer slot and no claim slot holds anything, and an attempt of any slot whose report is open is cut; outside ACTIVE
and JOINING no claim, and one that was open ends as no failure: the failure count and the backoff stay (R64); the HOLD
slot refilled in LEAVING and FENCED, kept into ACTIVE, empty elsewhere; on leaving ACTIVE no earmark on a peer entry;
the join-retry count 0 in WAITING. A cut mark begins with the next bit time, and not before the kind-and-length byte
(R115, log 30); an attempt taken to its end or to a mismatch stands (R115). -/
def Obligations.ChangeOfStateMakesItsEntryActions : Prop :=
  ∀ (new : StationState) (s : State), OutboxShape s → AttemptLaw s → s.table.entries.length = 24 →
    (changeState new s).mc.station = new ∧ (changeState new s).pilot.stateCopy = new
      ∧ (changeState new s).events.active.fenced = (new == .fenced)
      ∧ (changeState new s).events.active.fault = (new == .fault)
      ∧ (new ≠ .active →
          (changeState new s).alloc.share.held = 0 ∧ (changeState new s).pilot.requested = 0
            ∧ (changeState new s).outbox.answers = List.replicate 4 AnswerSlot.empty
            ∧ (changeState new s).outbox.answerList = []
            ∧ (changeState new s).outbox.claim = ClaimSlot.empty
            ∧ (∀ a, s.line.tx = .sending a → a.live = true →
                (changeState new s).line.tx = .marking a (max 16 (a.sent + 1))))
      ∧ (∀ a, s.line.tx = .sending a → a.live = false → (changeState new s).line.tx = .sending a)
      ∧ (new = .active → s.outbox.hold.occupancy = .filled → (changeState new s).outbox.hold = s.outbox.hold)
      ∧ ((new ≠ .active ∧ new ≠ .joining) →
          (changeState new s).alloc.claim = none
            ∧ (changeState new s).alloc.share.failures = s.alloc.share.failures
            ∧ (changeState new s).alloc.share.backoff = s.alloc.share.backoff)
      ∧ ((new = .leaving ∨ new = .fenced) →
          (changeState new s).outbox.hold = { occupancy := .filled, attempts := 0, inFlight := false, resting := false })
      ∧ ((new ≠ .leaving ∧ new ≠ .fenced ∧ new ≠ .active) → (changeState new s).outbox.hold = HoldSlot.empty)
      ∧ (s.mc.station = .active → new ≠ .active → ∀ i < 24, i ≠ s.mc.identity.number →
          new ≠ .monitor → (entryAt (changeState new s) i).stored.earmark = none
            ∧ ((entryAt s i).stored.status = .pendingJoin → (entryAt s i).stored.earmark.isSome = true →
                (entryAt (changeState new s) i).stored.status = .absent))
      ∧ (changeState new s).mc.retry = (if new = .waiting then 0 else s.mc.retry)
      ∧ (changeState new s).mc.identity = s.mc.identity ∧ (changeState new s).mc.census = s.mc.census
      ∧ (changeState new s).mc.configured = s.mc.configured ∧ (changeState new s).mc.duplicate = s.mc.duplicate
      ∧ (changeState new s).pins = s.pins ∧ (changeState new s).time = s.time ∧ (changeState new s).port = s.port
      ∧ (changeState new s).alloc.share.floor = s.alloc.share.floor
      ∧ (changeState new s).alloc.share.demand = s.alloc.share.demand
      ∧ (changeState new s).alloc.share.lastTx = s.alloc.share.lastTx
      ∧ (changeState new s).alloc.share.holdSeq = s.alloc.share.holdSeq
      ∧ (changeState new s).alloc.share.claimCounter = s.alloc.share.claimCounter
      ∧ (changeState new s).alloc.share.silence = s.alloc.share.silence

/-- O17. A change of state raises STATE_CHANGED with the state left and the state entered as its value (R27, R193),
where nothing else is there to report: no taken request, no check that fails, OVERCOMMIT clear with the sum fitting,
into ACTIVE with own held as well. It is the only event of the step but for a claim that the change ends: one open at
a change to a state other than ACTIVE and JOINING is reported by CLAIM_ABANDONED with its number, its kind and
STATE_CHANGE (R62, R193). That CLAIM_ABANDONED stands ahead of STATE_CHANGED is the model's choice of order (log 7):
R27, R37, R42, R44, R62, R162 and R193 give the two none. (MONITOR is entered at reset end alone, O5.) A taken
request is resolved by the state the station reaches (R48), its resolution the last one that STATUS returns; a
DETACHED pending behind it takes its place in the record (R45). -/
def Obligations.ChangeOfStateIsReportedAndResolves : Prop :=
  (∀ (new : StationState) (u : EventUnit) (s : State), new ≠ .monitor → s.mc.request.taken = false →
    NoCheckFails s → s.table.entries.length = 24 → s.table.overcommit = false →
    sumHeld s ≤ capacity s → (new = .active → sumHeld s + s.alloc.share.held ≤ capacity s) →
    ((s.alloc.claim = none ∨ new = .active ∨ new = .joining) ∧ u = s.events
      ∨ (∃ c, s.alloc.claim = some c ∧ new ≠ .active ∧ new ≠ .joining
        ∧ u = s.events.take .claimAbandoned none (some c.number)
            (some (if c.kind = .increase then BitVec.ofNat 16 (256 * 1 + 13) else BitVec.ofNat 16 (256 * 0 + 13)))
            s.time.ms)) →
      (changeState new s).events.queue
          = (u.take .stateChanged none none (some (BitVec.ofNat 16 (256 * s.mc.station.code + new.code)))
              s.time.ms).queue
        ∧ (changeState new s).events.nextSeq
            = (u.take .stateChanged none none (some (BitVec.ofNat 16 (256 * s.mc.station.code + new.code)))
                s.time.ms).nextSeq)
    ∧ (∀ (new : StationState) (target : Target) (s : State), s.mc.request.taken = true → s.mc.request.first = some target →
    (∀ result : CommandResult,
        (target = .active ∧ new = .active ∧ result = .done) ∨ (target = .active ∧ new = .fenced ∧ result = .failed)
          ∨ (target = .active ∧ new = .fault ∧ result = .failed) ∨ (target = .detached ∧ new = .detached ∧ result = .done)
          ∨ (target = .detached ∧ new = .fault ∧ result = .failed) →
        (changeState new s).mc.lastResolution = some (.command .stateRequest (some target) result)
          ∧ (changeState new s).mc.request =
              { first := if s.mc.request.behind then some .detached else none, taken := false, behind := false })
      ∧ ((new ≠ .fault ∧ (target = .active → new ≠ .active ∧ new ≠ .fenced) ∧ (target = .detached → new ≠ .detached)) →
          (changeState new s).mc.lastResolution = s.mc.lastResolution ∧ (changeState new s).mc.request = s.mc.request))

/-- O18. The end of an update of the table (R7, R8, R21, R53, R92): the kept sums are those of the entries;
OVERCOMMIT is set exactly when the sum of held shares exceeds the capacity, its alert condition with it;
SUSPECT_PRESENT is active exactly while an entry is SUSPECT; where OVERCOMMIT is set by this update, the own
INCREASE claim is gone and, in ACTIVE, own held is at most the floor or what it was; no start of a claim is left
undone: the start conditions do not all hold any more. An update that sets OVERCOMMIT raises OVERCOMMIT_SET with the
sum of held shares and the source of the HOLD that set it, if one did, CLAIM_ABANDONED for an open INCREASE claim,
SHARE_CHANGED with the floor where own held is cut to it, and OVERCOMMIT_CLEAR where the sum then fits (R62, R92,
R93); that OVERCOMMIT_SET comes first is read from the worked sequence of 11.6 (log 8). One that clears it raises
OVERCOMMIT_CLEAR with the sum (R93). -/
def Obligations.EndOfUpdateSettlesOvercommit : Prop :=
  ∀ (source : Option Nat) (s t : State), t = endUpdate source s →
    t.table.sums =
        { held := sumHeld t, earmark := sumEarmark t, floor := sumFloor t, room := room t, valid := validCount t,
          suspect := suspectCount t }
      ∧ (t.table.overcommit = true ↔ capacity t < sumHeld t)
      ∧ ((s.events.active.overcommit = s.table.overcommit) → t.events.active.overcommit = t.table.overcommit)
      ∧ t.events.active.suspectPresent = anySuspect t
      ∧ ((s.table.overcommit = false ∧ capacity s < sumHeld s ∧ s.mc.station = .active) →
          t.alloc.share.held = min s.alloc.share.held s.alloc.share.floor
            ∧ (∀ c, s.alloc.claim = some c → c.kind = .increase → t.alloc.claim = none
                ∧ t.alloc.share.failures = min (s.alloc.share.failures + 1) 15))
      ∧ ((s.table.overcommit = true ∨ sumHeld s ≤ capacity s ∨ s.mc.station ≠ .active) →
          t.alloc.share.held = s.alloc.share.held)
      ∧ ((s.table.overcommit = false ∧ capacity s < sumHeld s) →
          { t.events with active := s.events.active, acked := s.events.acked } =
            (s.overcommitEvents source (sumHeld s) s.events).takeIf (decide (sumHeld t ≤ capacity s)) .overcommitClear
              none none (some (valueOf (sumHeld t))) s.time.ms)
      ∧ ((s.table.overcommit = true ∧ sumHeld s ≤ capacity s) →
          { t.events with active := s.events.active, acked := s.events.acked } =
            s.events.take .overcommitClear none none (some (valueOf (sumHeld s))) s.time.ms)
      ∧ t.table.entries = s.table.entries
      ∧ ¬ (t.mc.station = .active ∧ t.alloc.share.held < t.alloc.share.demand ∧ t.alloc.claim = none
          ∧ t.table.overcommit = false ∧ (∀ e ∈ views t, e.suspect = false)
          ∧ (∀ e ∈ views t, ∀ m ∈ e.stored.earmark, m.kind ≠ .floor) ∧ t.alloc.share.backoff = none ∧ 1 ≤ room t)

/-- O19. The start of an INCREASE claim (R53): at the end of an update that leaves OVERCOMMIT as it was, exactly
when every start condition holds, a claim is opened for the lesser of what the target asks above held and the room,
under the next claim number, in SENDING, with the CLAIM slot filled; otherwise nothing is. A backoff at 0 becomes
none and the start conditions are tested (R65), with the room that the last update kept (R7): with a start condition
failing nothing else changes, with all of them true a claim starts. That the end of a backoff is itself no update of
the table, so that the sums are not recomputed before the test, is the model's choice (log 36). The end of a backoff
is a command of its own (log 4); one that is none or still running is left alone (log 1). -/
def Obligations.ClaimStartsWhenEveryConditionHolds : Prop :=
  (∀ (source : Option Nat) (s t : State), t = endUpdate source s →
    (s.table.overcommit = true ↔ capacity s < sumHeld s) →
      ((s.mc.station = .active ∧ s.alloc.share.held < s.alloc.share.demand ∧ s.alloc.claim = none
            ∧ s.table.overcommit = false ∧ (∀ e ∈ views s, e.suspect = false)
            ∧ (∀ e ∈ views s, ∀ m ∈ e.stored.earmark, m.kind ≠ .floor) ∧ s.alloc.share.backoff = none ∧ 1 ≤ room s) →
          t.alloc.claim = some
              { kind := .increase, number := s.alloc.share.claimCounter + 1,
                amount := min (s.alloc.share.demand - s.alloc.share.held) (room s), phase := .sending, roll := [],
                assents := [], window := 24, deadline := 48, inFlight := false, deadlinePassed := false }
            ∧ t.alloc.share = { s.alloc.share with claimCounter := s.alloc.share.claimCounter + 1 }
            ∧ t.outbox.claim =
                { occupancy := .filled, key := some (s.alloc.share.claimCounter + 1), content := some .increase,
                  attempts := 0, inFlight := false }
            ∧ { t with alloc := s.alloc, outbox := s.outbox, events := s.events, table := s.table } = s
            ∧ { t.alloc with claim := s.alloc.claim, share := s.alloc.share } = s.alloc
            ∧ { t.outbox with claim := s.outbox.claim } = s.outbox)
        ∧ (¬ (s.mc.station = .active ∧ s.alloc.share.held < s.alloc.share.demand ∧ s.alloc.claim = none
            ∧ s.table.overcommit = false ∧ (∀ e ∈ views s, e.suspect = false)
            ∧ (∀ e ∈ views s, ∀ m ∈ e.stored.earmark, m.kind ≠ .floor) ∧ s.alloc.share.backoff = none ∧ 1 ≤ room s) →
          { t with events := s.events, table := s.table } = s)
        ∧ { t.table with sums := s.table.sums } = s.table ∧ t.events.queue = s.events.queue)
    ∧ (∀ s : State, s.alloc.share.backoff = some 0 →
      (¬ (s.mc.station = .active ∧ s.alloc.share.held < s.alloc.share.demand ∧ s.alloc.claim = none
          ∧ s.table.overcommit = false ∧ (∀ e ∈ views s, e.suspect = false)
          ∧ (∀ e ∈ views s, ∀ m ∈ e.stored.earmark, m.kind ≠ .floor) ∧ 1 ≤ s.table.sums.room)) →
        exec .backoffEnd s
          = .next { s with alloc := { s.alloc with share := { s.alloc.share with backoff := none } } })
    ∧ (∀ s : State, s.alloc.share.backoff = some 0 → s.mc.station = .active → s.alloc.share.held < s.alloc.share.demand →
        s.alloc.claim = none → s.table.overcommit = false → (∀ e ∈ views s, e.suspect = false) →
        (∀ e ∈ views s, ∀ m ∈ e.stored.earmark, m.kind ≠ .floor) → 1 ≤ s.table.sums.room →
          exec .backoffEnd s = .next (endUpdate none
            { s with
              alloc :=
                { s.alloc with
                  share := { s.alloc.share with backoff := none, claimCounter := s.alloc.share.claimCounter + 1 }
                  claim := some
                    { kind := .increase, number := s.alloc.share.claimCounter + 1,
                      amount := min (s.alloc.share.demand - s.alloc.share.held) s.table.sums.room, phase := .sending,
                      roll := [], assents := [], window := 24, deadline := 48, inFlight := false,
                      deadlinePassed := false } }
              outbox :=
                { s.outbox with
                  claim :=
                    { occupancy := .filled, key := some (s.alloc.share.claimCounter + 1), content := some .increase,
                      attempts := 0, inFlight := false } } }))
    ∧ (∀ s : State, s.alloc.share.backoff ≠ some 0 → exec .backoffEnd s = .next s)

/-! ## The Pilot Unit -/

/-- O20. A period start (R149, R151, R154, R156): the samples taken; the meter raised by the drive of the period
that ends while LOAD_IN is asserted, modulo 2^32; the mode by FAULT_IN, then by the station state; drive and duty of
a DRIVE period, 0 in the others; the polarity in force; the phase at 0. The drive level and the station state are
those handed over, or, between the two hand-overs of a change of state, one of them and the former other (log 18): a
change of state keeps what the Pilot Unit held while a period start is due. Each tick that the Pilot Unit has to
take has a period start of its own (R137; log 4). A sample of FAULT_IN other than the one before it is handed to the
Event Unit in the same step (R150, R162, R168): FAULT_IN_CHANGED with the new sample, and the alert condition
following it. Nothing else outside the Pilot Unit changes. The change then waits for the Allocation Engine, and one
that still waits at the next period start is taken ahead of it (log 38). The Allocation Engine's taking of it (R91,
R150): the drive level recomputed, and in ACTIVE the HOLD slot filled if it is empty; nothing else. How many period
starts are due and whether a change is are fields of State, and a command that is not due changes nothing (log 1). -/
def Obligations.PilotUnitTakesPeriodAndFault : Prop :=
  (∀ (faultIn loadIn : Bool) (between : Option Handover) (drive : Nat) (station : StationState) (s : State),
      s.mc.station ≠ .reset → 0 < s.pilot.periodDue → s.pilot.faultDue = false →
      (((between = none ∨ s.pilot.former = none) ∧ drive = s.pilot.requested ∧ station = s.pilot.stateCopy)
        ∨ (∃ former, s.pilot.former = some former
          ∧ ((between = some .drive ∧ drive = s.pilot.requested ∧ station = former.2)
            ∨ (between = some .station ∧ drive = former.1 ∧ station = s.pilot.stateCopy)))) →
      ∃ t, exec (.pilotPeriodStart { faultIn := faultIn, loadIn := loadIn } between) s = .next t
        ∧ t.pilot.faultIn = faultIn ∧ t.pilot.loadIn = loadIn ∧ t.pilot.phase = 0 ∧ t.pilot.periodDue = s.pilot.periodDue - 1
        ∧ t.pilot.former = none
        ∧ t.pilot.meter = (if loadIn then s.pilot.meter + BitVec.ofNat 32 s.pilot.drive else s.pilot.meter)
        ∧ t.pilot.mode = (if faultIn = true ∨ station = .fenced ∨ station = .fault then .fence
            else if station = .active then .drive else .idle)
        ∧ (t.pilot.mode = .drive → t.pilot.drive = drive ∧ t.pilot.duty = min 1000 (drive * 1000 / s.pilot.fullScale))
        ∧ (t.pilot.mode ≠ .drive → t.pilot.drive = 0 ∧ t.pilot.duty = 0)
        ∧ t.pilot.applied = s.pilot.polarity
        ∧ t.pilot.faultDue = (faultIn != s.pilot.faultIn)
        ∧ t.pilot.requested = s.pilot.requested ∧ t.pilot.stateCopy = s.pilot.stateCopy
        ∧ t.pilot.fullScale = s.pilot.fullScale ∧ t.pilot.polarity = s.pilot.polarity
        ∧ (faultIn = s.pilot.faultIn → t.events = s.events)
        ∧ (faultIn ≠ s.pilot.faultIn →
            t.events =
              { s.events.take .faultInChanged none none (some (if faultIn then 1 else 0)) s.time.ms with
                active := { s.events.active with faultIn := faultIn }
                acked := { s.events.acked with faultIn := faultIn && s.events.acked.faultIn } })
        ∧ { t with pilot := s.pilot, events := s.events } = s)
    ∧ (∀ (levels : LoadLevels) (between : Option Handover) (s : State),
        s.mc.station ≠ .reset → 0 < s.pilot.periodDue → s.pilot.faultDue = true →
          ∃ t, exec .faultInChange s = .next t ∧ t.pilot.faultDue = false ∧ t.pilot.periodDue = s.pilot.periodDue
            ∧ exec (.pilotPeriodStart levels between) s = exec (.pilotPeriodStart levels between) t)
    ∧ (∀ (levels : LoadLevels) (between : Option Handover) (s : State),
        (s.mc.station = .reset ∨ s.pilot.periodDue = 0) → exec (.pilotPeriodStart levels between) s = .next s)
    ∧ (∀ (new : StationState) (s : State), new ≠ .active →
        (changeState new s).pilot.former =
          if 0 < s.pilot.periodDue then some (s.pilot.requested, s.pilot.stateCopy) else none)
    ∧ (∀ s : State, s.mc.station ≠ .reset → s.pilot.faultDue = true →
      ∃ t, exec .faultInChange s = .next t
        ∧ t.pilot = { s.pilot with
            faultDue := false
            former := none
            requested := if s.mc.station = .active ∧ s.pilot.faultIn = false then
              min s.alloc.share.held (min s.alloc.share.lastTx s.alloc.share.demand) else 0 }
        ∧ t.outbox.hold = (if s.mc.station = .active ∧ s.outbox.hold.occupancy ≠ .filled then
            { occupancy := .filled, attempts := 0, inFlight := false, resting := false } else s.outbox.hold)
        ∧ { t with pilot := s.pilot, outbox := s.outbox } = s
        ∧ { t.outbox with hold := s.outbox.hold } = s.outbox)
    ∧ (∀ s : State, (s.mc.station = .reset ∨ s.pilot.faultDue = false) → exec .faultInChange s = .next s)

/-- O21. The wave on PILOT (R152), true for high: the rest level in IDLE and at duty 0, the active level in FENCE
and at duty 1000, and in between the active level while the phase count is below the duty times 4096 over 1000;
active is low in NORMAL and high in INVERTED polarity. Each OSC_IN period outside RESET raises the phase count by
one, below its top (that a step on an empty queue is such a period is the model's choice, log 2). -/
def Obligations.PilotPinCarriesModeAndDuty : Prop :=
  (∀ (high : Bool) (s : State), high = (s.pilot.applied == .inverted) →
      (s.pilot.mode = .idle → pilotPin s = !high)
        ∧ (s.pilot.mode = .fence → pilotPin s = high)
        ∧ (s.pilot.mode = .drive → s.pilot.duty = 0 → pilotPin s = !high)
        ∧ (s.pilot.mode = .drive → s.pilot.duty = 1000 → pilotPin s = high)
        ∧ (s.pilot.mode = .drive → 1 ≤ s.pilot.duty → s.pilot.duty ≤ 999 →
            (s.pilot.phase < s.pilot.duty * 4096 / 1000 → pilotPin s = high)
              ∧ (s.pilot.duty * 4096 / 1000 ≤ s.pilot.phase → pilotPin s = !high)))
    ∧ (∀ s : State, s.mc.station ≠ .reset → s.pilot.phase < 4095 →
        (oscPeriod s).pilot.phase = s.pilot.phase + 1 ∧ (oscPeriod s).pilot.mode = s.pilot.mode
          ∧ (oscPeriod s).pilot.duty = s.pilot.duty ∧ (oscPeriod s).pilot.applied = s.pilot.applied)

/-! ## The Line Interface and the frames -/

/-- O22. TX_INHIBIT (R116, R129): its level alone changes while no attempt's report is open, a cut mark running on.
An attempt whose report is open is reported CUT in the command's step, and its bit time is the last that the
transmitter drives (log 28); no mark is driven. The slot keeps its content and its attempt count: a claim frame, an
answer, an ordinary HOLD, with which no update of the table comes (R86; log 36). An expired answer is dropped with
ANSWER_EXPIRED (R77), the only event of the step where every parity is right and OVERCOMMIT is clear. A commit
attempt (R58, R60, R63, R64) leaves its claim waiting, lapsed if its deadline passed meanwhile, or abandoned with
DEMAND_DROP if the demand target does not lie above own held (log 21; where both hold, log 9); a join whose deadline
passed goes to WAITING. The release of the pin changes its level alone. -/
def Obligations.TransmitInhibitCutsWithoutAMark : Prop :=
  (∀ s : State, (∀ a, s.line.tx = .sending a → a.live = false) →
      exec .txInhibitAsserted s = .next { s with pins := { s.pins with txInhibit := true } })
    ∧ (∀ (a : Attempt) (s : State), SendsFrom s .claim a → a.live = true →
        exec .txInhibitAsserted s = .next
          { s with
            pins := { s.pins with txInhibit := true }
            line := { s.line with tx := .sending { a with stopped := true } }
            outbox := { s.outbox with claim := { s.outbox.claim with inFlight := false } } })
    ∧ (∀ (a : Attempt) (k : Fin 4) (s : State), SendsFrom s (.answer k) a → a.live = true →
        s.outbox.answers.length = 4 →
          ((answerAt s k).expired = false →
              exec .txInhibitAsserted s = .next
                { s with
                  pins := { s.pins with txInhibit := true }
                  line := { s.line with tx := .sending { a with stopped := true } }
                  outbox :=
                    { s.outbox with
                      answers := s.outbox.answers.set k { answerAt s k with inFlight := false, rewritten := false } } })
          ∧ ((answerAt s k).expired = true →
              ∃ t, exec .txInhibitAsserted s = .next t ∧ t.line.tx = .sending { a with stopped := true }
                ∧ t.pins = { s.pins with txInhibit := true } ∧ answerAt t k = AnswerSlot.empty
                ∧ k.val ∉ t.outbox.answerList ∧ (∀ j < 4, j ≠ k.val → answerAt t j = answerAt s j)
                ∧ (Settled s → s.table.entries.length = 24 → s.table.overcommit = false →
                    ∀ key, (answerAt s k).key = some key → ∀ c, (answerAt s k).content = some c →
                      t.events.queue = (s.events.take .answerExpired (some key.1) (some key.2)
                        (some (BitVec.ofNat 16 (256 * 1 + if c = .assent then 1 else 2))) s.time.ms).queue)))
    ∧ (∀ (a : Attempt) (s : State), SendsFrom s .hold a → a.live = true → (∀ c ∈ s.alloc.claim, c.inFlight = false) →
        exec .txInhibitAsserted s = .next
          { s with
            pins := { s.pins with txInhibit := true }
            line := { s.line with tx := .sending { a with stopped := true } }
            outbox := { s.outbox with hold := { s.outbox.hold with inFlight := false } } })
    ∧ (∀ (c : ClaimRecord) (a : Attempt) (s : State), SendsFrom s .hold a → a.live = true → s.alloc.claim = some c →
        c.inFlight = true →
          ((c.deadlinePassed = false ∧ (c.kind = .floor ∨ s.alloc.share.held < s.alloc.share.demand)) →
              exec .txInhibitAsserted s = .next (endUpdate none
                { s with
                  pins := { s.pins with txInhibit := true }
                  alloc := { s.alloc with claim := some { c with inFlight := false } }
                  line := { s.line with tx := .sending { a with stopped := true } }
                  outbox := { s.outbox with hold := { s.outbox.hold with inFlight := false } } }))
          ∧ ((c.kind = .increase ∧ c.deadlinePassed = true ∧ s.alloc.share.held < s.alloc.share.demand) →
              exec .txInhibitAsserted s = .next (endUpdate none
                { s with
                  pins := { s.pins with txInhibit := true }
                  alloc := claimCounted s
                  line := { s.line with tx := .sending { a with stopped := true } }
                  outbox :=
                    { s.outbox with hold := { s.outbox.hold with inFlight := false }, claim := ClaimSlot.empty }
                  events := s.events.take .claimLapsed none (some c.number) (some (valueOf c.amount)) s.time.ms }))
          ∧ ((c.kind = .increase ∧ c.deadlinePassed = false ∧ s.alloc.share.demand ≤ s.alloc.share.held) →
              exec .txInhibitAsserted s = .next (endUpdate none
                { s with
                  pins := { s.pins with txInhibit := true }
                  alloc := claimCounted s
                  line := { s.line with tx := .sending { a with stopped := true } }
                  outbox :=
                    { s.outbox with hold := { s.outbox.hold with inFlight := false }, claim := ClaimSlot.empty }
                  events := s.events.take .claimAbandoned none (some c.number) (some (BitVec.ofNat 16 (256 * 1 + 10)))
                    s.time.ms }))
          ∧ ((c.kind = .increase ∧ c.deadlinePassed = true ∧ s.alloc.share.demand ≤ s.alloc.share.held) →
              ∃ t, exec .txInhibitAsserted s = .next t ∧ t.alloc.claim = none
                ∧ t.alloc.share.failures = min (s.alloc.share.failures + 1) 15)
          ∧ ((c.kind = .floor ∧ c.deadlinePassed = true) →
              ∃ t, exec .txInhibitAsserted s = .next t ∧ t.mc.station = .waiting ∧ t.alloc.claim = none
                ∧ t.alloc.share.failures = s.alloc.share.failures ∧ t.alloc.share.backoff = s.alloc.share.backoff))
    ∧ (∀ s : State, exec .txInhibitDeasserted s = .next { s with pins := { s.pins with txInhibit := false } })

/-- O23. An offer of the line (R111, R125, R126): while the line is not available, in mid-bit, or while no slot is
eligible, nothing changes (a HOLD slot that is resting is not, R131); otherwise the eligible answer nearest the head
of the answer list goes, before the HOLD, before the claim frame. The chosen slot is in flight, the transmitter sends
from the first bit the frame that the slot's owner assembles then, whose bytes are O24's, and the line-idle timer is
held at 0 (R110, R112, R127). A commit attempt's start changes the own claim record and ends as an update of the table
(R7, R58; log 36). The boundary at which the attempt starts is the one at hand: a bit time begins, or its bit has been
taken and the next one begins with the command (log 3). -/
def Obligations.OfferChoosesAnswerThenHoldThenClaim : Prop :=
  (∀ s : State, (s.mc.station = .reset ∨ s.line.tx ≠ .none ∨ s.pins.txInhibit = true
        ∨ s.line.idle < 40 + 4 * s.mc.identity.number ∨ (s.line.bits.taken = false ∧ s.line.bits.pos ≠ 0)) →
          exec .lineOffer s = .next s)
    ∧ (∀ s : State,
        (s.outbox.hold.occupancy ≠ .filled ∨ s.outbox.hold.resting = true ∨ s.outbox.hold.inFlight = true) →
        (s.outbox.claim.occupancy ≠ .filled ∨ s.outbox.claim.inFlight = true) →
        (∀ k ∈ s.outbox.answerList, (answerAt s k).occupancy ≠ .filled ∨ (answerAt s k).waitingShed = true
          ∨ (answerAt s k).expired = true ∨ (answerAt s k).inFlight = true) → exec .lineOffer s = .next s)
    ∧ (∀ s : State, s.mc.station ≠ .reset → s.line.tx = .none → s.pins.txInhibit = false →
        40 + 4 * s.mc.identity.number ≤ s.line.idle → (s.line.bits.taken = true ∨ s.line.bits.pos = 0) → OutboxShape s →
        ∀ k, s.outbox.answerList.find? (fun j => (answerAt s j).occupancy == .filled && !(answerAt s j).inFlight
            && !(answerAt s j).waitingShed && !(answerAt s j).expired) = some k →
          ∃ t, exec .lineOffer s = .next t ∧ t.line.tx.slot? = some (.answer k) ∧ StartedIn s t
            ∧ t.line.tx = (startAnswer k s).line.tx
            ∧ answerAt t k = { answerAt s k with inFlight := true }
            ∧ (∀ j < 4, j ≠ k → answerAt t j = answerAt s j)
            ∧ t.outbox.hold = s.outbox.hold ∧ t.outbox.claim = s.outbox.claim
            ∧ { t with outbox := s.outbox, line := s.line } = s)
    ∧ (∀ s : State, s.mc.station ≠ .reset → s.line.tx = .none → s.pins.txInhibit = false →
        40 + 4 * s.mc.identity.number ≤ s.line.idle → (s.line.bits.taken = true ∨ s.line.bits.pos = 0) →
        (∀ k ∈ s.outbox.answerList, (answerAt s k).occupancy ≠ .filled ∨ (answerAt s k).waitingShed = true
          ∨ (answerAt s k).expired = true ∨ (answerAt s k).inFlight = true) →
        s.outbox.hold.occupancy = .filled → s.outbox.hold.inFlight = false → s.outbox.hold.resting = false →
          ((∀ c ∈ s.alloc.claim, c.CommitsIn s.mc.station → c.inFlight = true) →
              ∃ t, exec .lineOffer s = .next t ∧ t.line.tx.slot? = some .hold ∧ StartedIn s t
                ∧ t.line.tx = (startHold s).line.tx
                ∧ t.outbox = { s.outbox with hold := { s.outbox.hold with inFlight := true } }
                ∧ t.alloc = { s.alloc with holdAttempt := (startHold s).alloc.holdAttempt }
                ∧ { t with outbox := s.outbox, line := s.line, alloc := s.alloc } = s)
          ∧ (∀ c, s.alloc.claim = some c → c.CommitsIn s.mc.station → c.inFlight = false →
              exec .lineOffer s = .next (endUpdate none
                { s with
                  line :=
                    { s.line with
                      tx := (startHold s).line.tx, idle := 0
                      bits := if s.line.bits.taken then s.line.bits.start else s.line.bits }
                  outbox := { s.outbox with hold := { s.outbox.hold with inFlight := true } }
                  alloc :=
                    { s.alloc with
                      holdAttempt := (startHold s).alloc.holdAttempt, claim := some { c with inFlight := true } } })))
    ∧ (∀ (c : ClaimRecord) (s : State), s.alloc.claim = some c → s.mc.station ≠ .reset → s.line.tx = .none →
        s.pins.txInhibit = false → 40 + 4 * s.mc.identity.number ≤ s.line.idle →
        (s.line.bits.taken = true ∨ s.line.bits.pos = 0) →
        (∀ k ∈ s.outbox.answerList, (answerAt s k).occupancy ≠ .filled ∨ (answerAt s k).waitingShed = true
          ∨ (answerAt s k).expired = true ∨ (answerAt s k).inFlight = true) →
        (s.outbox.hold.occupancy ≠ .filled ∨ s.outbox.hold.resting = true ∨ s.outbox.hold.inFlight = true) →
        s.outbox.claim.occupancy = .filled → s.outbox.claim.inFlight = false →
          ∃ t, exec .lineOffer s = .next t ∧ t.line.tx.slot? = some .claim ∧ StartedIn s t
            ∧ t.line.tx = (startClaim s).line.tx
            ∧ t.outbox = { s.outbox with claim := { s.outbox.claim with inFlight := true } }
            ∧ { t with outbox := s.outbox, line := s.line } = s)

/-- O24. What the attempt of each slot carries, assembled at its start (R127): the ordinary HOLD (R81), the commit
HOLD in ACTIVE and in JOINING (R58, R82), the farewell (R37), the CLAIM with the own priority (R54), the ANNOUNCE
with the straps (R32), the answer by its slot's key and content (R68). The HOLD's description is kept (R79), and a
commit attempt becomes IN_FLIGHT (R58), which as a change of the own claim record ends as an update of the table (R7,
R79; log 36). -/
def Obligations.AttemptCarriesTheOwnersStateAtItsStart : Prop :=
  (∀ s : State, ((s.mc.station = .active ∧ ∀ c, s.alloc.claim = some c → c.phase ≠ .committing)) →
      (startHold s).line.tx = .sending
          { bytes := Frame.bytes
              { source := s.mc.identity.number
                body := .hold
                  { seq := s.alloc.share.holdSeq, held := s.alloc.share.held, floor := s.alloc.share.floor, commit := none
                    farewell := false, localFault := s.pilot.faultIn
                    openClaim := s.alloc.claim.bind (fun c => if c.kind = .increase then some c.number else none) } }
            slot := .hold, sent := 0, taken := 0, mismatch := false, stopped := false }
        ∧ (startHold s).alloc =
            { s.alloc with
              holdAttempt := some
                { held := s.alloc.share.held, floor := s.alloc.share.floor, localFault := s.pilot.faultIn
                  openClaim := s.alloc.claim.bind (fun c => if c.kind = .increase then some c.number else none)
                  commit := none, afterCut := true } })
    ∧ (∀ (c : ClaimRecord) (s : State), s.alloc.claim = some c → c.CommitsIn s.mc.station →
          (startHold s).line.tx = .sending
              { bytes := Frame.bytes
                  { source := s.mc.identity.number
                    body := .hold
                      { seq := s.alloc.share.holdSeq, held := s.alloc.share.held + c.amount, floor := s.alloc.share.floor
                        commit := some c.number, farewell := false, localFault := s.pilot.faultIn, openClaim := none } }
                slot := .hold, sent := 0, taken := 0, mismatch := false, stopped := false }
            ∧ (c.inFlight = false →
                startHold s = endUpdate none
                  { s with
                    alloc :=
                      { s.alloc with
                        claim := some { c with inFlight := true }
                        holdAttempt := some
                          { held := s.alloc.share.held + c.amount, floor := s.alloc.share.floor
                            localFault := s.pilot.faultIn, openClaim := none, commit := some c.number
                            afterCut := true } }
                    outbox := { s.outbox with hold := { s.outbox.hold with inFlight := true } }
                    line := { s.line with tx := (startHold s).line.tx, idle := 0 } }))
    ∧ (∀ s : State, (s.mc.station = .leaving ∨ s.mc.station = .fenced) →
        (startHold s).line.tx = .sending
            { bytes := Frame.bytes
                { source := s.mc.identity.number
                  body := .hold
                    { seq := s.alloc.share.holdSeq, held := 0, floor := s.alloc.share.floor, commit := none
                      farewell := true, localFault := s.pilot.faultIn, openClaim := none } }
              slot := .hold, sent := 0, taken := 0, mismatch := false, stopped := false })
    ∧ (∀ (c : ClaimRecord) (s : State), s.alloc.claim = some c →
        (startClaim s).line.tx = .sending
            { bytes := Frame.bytes
                { source := s.mc.identity.number
                  body :=
                    match c.kind with
                    | .increase => .claim c.number c.amount s.alloc.share.priority
                    | .floor => .announce c.number s.alloc.share.floor s.alloc.share.priority
                        s.mc.identity.capacityClass s.mc.identity.leaseSelect }
              slot := .claim, sent := 0, taken := 0, mismatch := false, stopped := false })
    ∧ (∀ (k : Nat) (s : State), ∀ key, (answerAt s k).key = some key → ∀ a, (answerAt s k).content = some a →
        (startAnswer k s).line.tx = .sending
            { bytes := Frame.bytes
                { source := s.mc.identity.number
                  body :=
                    match a with
                    | .assent => .assent key.1 key.2
                    | .object reason => .object key.1 key.2 reason }
              slot := .answer k, sent := 0, taken := 0, mismatch := false, stopped := false })

/-- O25. Frame bytes (R101, R191): preamble and start byte, kind with body length, source, body with its numbers
high byte first, and the check value (R109) over kind, source and body, high byte first. The seven reasons of an
OBJECT have the codes 1 to 7, in the order of R191. -/
def Obligations.FrameBytesFollowTheLayouts : Prop :=
  (∀ f : Frame,
      Frame.bytes f =
        [0xAA, 0x2D, BitVec.ofNat 8 (16 * f.body.kindCode + f.body.bytes.length), BitVec.ofNat 8 f.source] ++ f.body.bytes
          ++ [(checkValue ([BitVec.ofNat 8 (16 * f.body.kindCode + f.body.bytes.length), BitVec.ofNat 8 f.source]
                ++ f.body.bytes)).extractLsb' 8 8,
              (checkValue ([BitVec.ofNat 8 (16 * f.body.kindCode + f.body.bytes.length), BitVec.ofNat 8 f.source]
                ++ f.body.bytes)).extractLsb' 0 8])
    ∧ (∀ h : HoldFields, (FrameBody.hold h).kindCode = 1
        ∧ (FrameBody.hold h).bytes = [h.seq, BitVec.ofNat 8 (h.held / 256), BitVec.ofNat 8 h.held, BitVec.ofNat 8 h.floor,
            BitVec.ofNat 8 (h.commit.isSome.toNat + 2 * h.farewell.toNat + 4 * h.localFault.toNat
              + 8 * h.openClaim.isSome.toNat), h.commit.getD 0] ++ h.openClaim.toList)
    ∧ (∀ (n : Byte) (a p : Nat), (FrameBody.claim n a p).kindCode = 2
        ∧ (FrameBody.claim n a p).bytes = [n, BitVec.ofNat 8 (a / 256), BitVec.ofNat 8 a, BitVec.ofNat 8 p])
    ∧ (∀ (n : Byte) (fl p c l : Nat), (FrameBody.announce n fl p c l).kindCode = 3
        ∧ (FrameBody.announce n fl p c l).bytes = [n, BitVec.ofNat 8 fl, BitVec.ofNat 8 p, BitVec.ofNat 8 (16 * c + l)])
    ∧ (∀ (x : Nat) (n : Byte), (FrameBody.assent x n).kindCode = 4 ∧ (FrameBody.assent x n).bytes = [BitVec.ofNat 8 x, n, 0])
    ∧ (∀ (x : Nat) (n : Byte) (r : ObjectReason), (FrameBody.object x n r).kindCode = 5
        ∧ (FrameBody.object x n r).bytes = [BitVec.ofNat 8 x, n, BitVec.ofNat 8 r.code])
    ∧ [ObjectReason.noRoom, .notMember, .suspect, .busy, .silentPeer, .floorsFull, .mismatch].map ObjectReason.code
        = [1, 2, 3, 4, 5, 6, 7]

/-- O26. The check value (R109): the register starts at FFFFh; for each bit of each byte, least significant first,
its top bit is combined with the bit, the register shifted up with 0 entering, and 8005h combined in when the
combination was 1. A frame ends in the check value of its kind-and-length byte, source byte and body, high byte
first, and of nothing else. Received check bits that differ from the value of the bytes received give BAD of class
CHECK. -/
def Obligations.CheckValueIsTheStatedRegister : Prop :=
  checkValue [] = 0xFFFF
    ∧ (∀ (bytes : List Byte) (b : Byte),
        checkValue (bytes ++ [b]) = (List.range 8).foldl
          (fun (r : Half) i => if r.getLsbD 15 != b.getLsbD i then (r <<< 1) ^^^ 0x8005#16 else r <<< 1) (checkValue bytes))
    ∧ (∀ f : Frame,
        Frame.bytes f = [0xAA, 0x2D] ++ f.checked
          ++ [(checkValue f.checked).extractLsb' 8 8, (checkValue f.checked).extractLsb' 0 8]
        ∧ f.checked = [BitVec.ofNat 8 (16 * f.body.kindCode + f.body.bytes.length), BitVec.ofNat 8 f.source] ++ f.body.bytes)
    ∧ (∀ (covered : List Byte) (hi lo : Byte) (rest : List Bool), 2 ≤ covered.length →
        covered.length = 2 + (covered.headD 0).toNat % 16 → hi ++ lo ≠ checkValue covered →
          verdictOf (lineBits (covered ++ [hi, lo]) ++ rest) = .bad .check)

/-- O27. What a station sends, a station receives (R101, R103, R105, R109, R191): the bits of a frame's bytes after
its start byte, with a recessive end space, are judged GOOD and give back the frame, every field at every value of
its range; with the end space dominant they are BAD of class END; and the header of the same bits is complete, with
the frame's kind and source. -/
def Obligations.FrameRoundTripsThroughTheReceiver : Prop :=
  ∀ f : Frame, f.wf = true →
    verdictOf (lineBits ((Frame.bytes f).drop 2) ++ [true]) = .good f
      ∧ verdictOf (lineBits ((Frame.bytes f).drop 2) ++ [false]) = .bad .ending
      ∧ (Frame.bytes f).take 2 = [0xAA, 0x2D]
      ∧ (lineBits ((Frame.bytes f).drop 2) ++ [true]).length
          = frameSpan (lengthOf (byteOfBits ((lineBits ((Frame.bytes f).drop 2)).take 8)))
      ∧ judgeHeader ((lineBits ((Frame.bytes f).drop 2)).take 24)
          = .complete f.body.kindCode f.source (f.body.bytes.headD 0)

/-- O28. What the Line Interface does with a bit. It is taken at the middle of its bit time (R100), which stands at
8 OSC_IN periods: R100 gives no period, and the 8 is the model's choice (log 15). A bit that comes after the one of
this bit time has been taken is that of the next bit time, whose boundary is reached first (R100, R112; log 3). In
HUNT the window takes the bit at its least significant end, and the line-idle timer counts recessive bits while the
station drives nothing, up to 255, and returns to 0 at a dominant one (R102, R110); a window that holds the sync
pattern is taken as a match first (log 17). In HEADER and BODY the bit joins the frame's, with the class at the
sixteenth (R108) and a cut mark of the station's own noted (R106); in SKIP one bit time passes; the timer stands at
0. While an attempt is in progress, a bit taken as it was sent lets the next one follow, and one taken otherwise is
the mismatch that abandons it (R113); a cut mark runs on whatever is taken (R115). In RESET no bit is taken (R102,
R117). LINE_DE is asserted while the transmitter drives, to the end of its last bit time, and LINE_TX then carries
the bit being sent or the mark's dominant level, and is high otherwise (R100, R112, R115). -/
def Obligations.BitsReachReceiverAndTransmitter : Prop :=
  (∀ (recessive : Bool) (s : State), s.mc.station ≠ .reset → s.line.bits.taken = true →
      ∃ u : LineInterface, s.line.bits.Begun u.bits ∧ s.line.tx.SentOn u.tx
        ∧ { u with bits := s.line.bits, tx := s.line.tx } = s.line
        ∧ exec (.lineBitTaken recessive) s = exec (.lineBitTaken recessive) { s with line := u })
    ∧ (∀ (recessive : Bool) (s : State), s.mc.station ≠ .reset → s.line.bits.taken = false →
        s.line.rx.mode = .hunt → s.line.rx.window ≠ 0x55B4 →
        ∃ t, exec (.lineBitTaken recessive) s = .next t
          ∧ t.line.rx = { s.line.rx with window := (s.line.rx.window <<< 1) ||| (if recessive then 1 else 0) }
          ∧ t.line.idle = (if recessive = true ∧ lineDe s = false then min (s.line.idle + 1) 255 else 0))
    ∧ (∀ (recessive : Bool) (s : State), s.mc.station ≠ .reset → s.line.bits.taken = false →
        s.line.rx.mode = .hunt → s.line.rx.window = 0x55B4 →
        ∃ u, exec .syncPatternMatch s = .next u ∧ u.line.rx.mode = .header
          ∧ exec (.lineBitTaken recessive) s = exec (.lineBitTaken recessive) u)
    ∧ (∀ (recessive : Bool) (s : State), s.mc.station ≠ .reset → s.line.bits.taken = false →
        (s.line.rx.mode = .header ∨ s.line.rx.mode = .body) →
        ∃ t, exec (.lineBitTaken recessive) s = .next t
          ∧ t.line.rx.bits = s.line.rx.bits ++ [recessive] ∧ t.line.rx.mode = s.line.rx.mode ∧ t.line.idle = 0
          ∧ t.line.rx.reservation = s.line.rx.reservation
          ∧ (t.line.rx.ownMark = true ↔ s.line.rx.ownMark = true
              ∨ ∃ a start, s.line.tx = .marking a start ∧ start ≤ a.sent ∧ a.sent ≤ 8 * a.bytes.length)
          ∧ (s.line.rx.bits.length ≠ 15 → t.line.rx.cls = s.line.rx.cls)
          ∧ (s.line.rx.bits.length = 15 →
              ((t.line.rx.cls = some .own) ↔ (s.line.rx.ownStart = true
                ∧ ∃ a ∈ t.line.tx.attempt?, a.mismatch = false))
              ∧ (t.line.rx.cls = some .own ∨ t.line.rx.cls = some .foreign)))
    ∧ (∀ (recessive : Bool) (s : State), s.mc.station ≠ .reset → s.line.bits.taken = false → s.line.rx.mode = .skip →
        ∃ t, exec (.lineBitTaken recessive) s = .next t
          ∧ t.line.rx = { s.line.rx with skipLeft := s.line.rx.skipLeft - 1 } ∧ t.line.idle = 0)
    ∧ (∀ (recessive : Bool) (s : State), s.mc.station ≠ .reset → s.line.bits.taken = false →
        ∃ t, exec (.lineBitTaken recessive) s = .next t
          ∧ t.line.bits = { s.line.bits with taken := true, pos := max s.line.bits.pos 8 }
          ∧ (∀ a, s.line.tx = .sending a → a.live = true →
              (a.bytes[a.sent / 8]?.getD 0xFF).getLsbD (a.sent % 8) = recessive →
                t.line.tx = .sending { a with taken := a.taken + 1 })
          ∧ (∀ a, s.line.tx = .sending a → a.live = true →
              (a.bytes[a.sent / 8]?.getD 0xFF).getLsbD (a.sent % 8) ≠ recessive →
                t.line.tx = .sending { a with mismatch := true })
          ∧ ((∀ a, s.line.tx = .sending a → a.live = false) → t.line.tx = s.line.tx)
          ∧ t.line.inbox = s.line.inbox ∧ { t with line := s.line } = s)
    ∧ (∀ (recessive : Bool) (s : State), s.mc.station = .reset → exec (.lineBitTaken recessive) s = .next s)
    ∧ (∀ s : State, (s.line.tx = .none → lineDe s = false ∧ lineTx s = true)
        ∧ (∀ a, s.line.tx = .sending a →
            (a.over = true → lineDe s = false ∧ lineTx s = true)
              ∧ (a.over = false →
                lineDe s = true ∧ lineTx s = (a.bytes[a.sent / 8]?.getD 0xFF).getLsbD (a.sent % 8)))
        ∧ (∀ a start, s.line.tx = .marking a start →
            (8 * a.bytes.length < a.sent → lineDe s = false ∧ lineTx s = true)
              ∧ (a.sent ≤ 8 * a.bytes.length → lineDe s = true
                ∧ lineTx s = (if a.sent < start then (a.bytes[a.sent / 8]?.getD 0xFF).getLsbD (a.sent % 8) else false))))

/-- O29. The sync pattern (R102): in HUNT, with AAh and then 2Dh as the last sixteen bits taken in the order they
are sent, the receiver is in HEADER with no bit of the frame taken, and the line-idle timer is held at 0 (R110); the
frame began with the station's own attempt exactly if that attempt has read back its sixteen bits (R108). A window
without the pattern changes nothing. A recessive-to-dominant edge begins a new bit time with the accumulator carried
on (R100): the next one, or, in the first half of a bit time, the same one anew (log 15); in RESET it moves only
what the transmitter still drives (R117). The ends of SKIP and of a cut mark (R107, R115): after the last bit time
of SKIP the receiver is in HUNT with its window recessive and the line-idle timer at 0; at the end of the mark's end
space, whose middle has been reached (log 3), the transmitter is in NONE. Before that the commands change nothing
(log 1). The end of what the transmitter drove is that of its last bit time: the boundary is reached with the
command, if it has not been reached before (R113 to R115; log 3). -/
def Obligations.SyncEdgesSkipAndMarks : Prop :=
  (∀ s : State, s.mc.station ≠ .reset → s.line.rx.mode = .hunt →
      s.line.rx.window = (lineBits [0xAA, 0x2D]).foldl (fun (w : Half) b => (w <<< 1) ||| (if b then 1 else 0)) 0 →
        ∃ t, exec .syncPatternMatch s = .next t ∧ t.line.rx.mode = .header ∧ t.line.rx.bits = [] ∧ t.line.idle = 0
          ∧ t.line.rx.cls = none ∧ t.line.rx.reservation = none
          ∧ (t.line.rx.ownStart = true ↔ ∃ a ∈ s.line.tx.attempt?, a.taken = 16 ∧ a.mismatch = false)
          ∧ { t with line := s.line } = s ∧ { t.line with rx := s.line.rx, idle := s.line.idle } = s.line)
    ∧ (∀ s : State, (s.mc.station = .reset ∨ s.line.rx.mode ≠ .hunt ∨ s.line.rx.window ≠ 0x55B4) →
        exec .syncPatternMatch s = .next s)
    ∧ (∀ s : State, s.mc.station ≠ .reset →
        ∃ t, exec .lineRxEdge s = .next t ∧ s.line.bits.Begun t.line.bits
          ∧ ((s.line.bits.taken = true ∨ 8 ≤ s.line.bits.pos) → s.line.tx.SentOn t.line.tx)
          ∧ ((s.line.bits.taken = false ∧ s.line.bits.pos < 8) → t.line.tx = s.line.tx)
          ∧ { t with line := s.line } = s ∧ { t.line with bits := s.line.bits, tx := s.line.tx } = s.line)
    ∧ (∀ s : State, s.mc.station = .reset → s.line.tx = .none → exec .lineRxEdge s = .next s)
    ∧ (∀ s : State, s.mc.station = .reset → s.line.tx ≠ .none →
        ∃ t, exec .lineRxEdge s = .next t ∧ s.line.bits.Begun t.line.bits
          ∧ { t with line := s.line } = s ∧ { t.line with bits := s.line.bits, tx := s.line.tx } = s.line
          ∧ ∃ tx : Transmitter, ((s.line.bits.taken = true ∨ 8 ≤ s.line.bits.pos) → s.line.tx.SentOn tx)
            ∧ ((s.line.bits.taken = false ∧ s.line.bits.pos < 8) → tx = s.line.tx)
            ∧ t.line.tx = if tx.over then .none else tx)
    ∧ (∀ s : State, s.line.rx.mode = .skip → s.line.rx.skipLeft = 0 →
      ∃ t, exec .skipEnd s = .next t ∧ t.line.rx.mode = .hunt ∧ t.line.rx.window = 0xFFFF ∧ t.line.rx.bits = []
        ∧ t.line.idle = 0 ∧ { t with line := s.line } = s
        ∧ { t.line with rx := s.line.rx, idle := s.line.idle } = s.line)
    ∧ (∀ s : State, (s.line.rx.mode ≠ .skip ∨ s.line.rx.skipLeft ≠ 0) → exec .skipEnd s = .next s)
    ∧ (∀ (a : Attempt) (start : Nat) (s : State), s.line.tx = .marking a start →
        ((8 * a.bytes.length < a.sent
              ∨ (a.sent = 8 * a.bytes.length ∧ (s.line.bits.taken = true ∨ 8 ≤ s.line.bits.pos))) →
            exec .cutMarkEnd s = .next (endAttempt s))
          ∧ ((a.sent < 8 * a.bytes.length
              ∨ (a.sent = 8 * a.bytes.length ∧ s.line.bits.taken = false ∧ s.line.bits.pos < 8)) →
            exec .cutMarkEnd s = .next s))
    ∧ (∀ s : State, (∀ a start, s.line.tx ≠ .marking a start) → exec .cutMarkEnd s = .next s)
    ∧ (∀ s : State, (endAttempt s).line.tx = .none
        ∧ (lineDe s = false → (endAttempt s).line.bits = s.line.bits)
        ∧ (lineDe s = true → s.line.bits.Begun (endAttempt s).line.bits)
        ∧ { (endAttempt s) with line := s.line } = s
        ∧ { (endAttempt s).line with bits := s.line.bits, tx := s.line.tx } = s.line)

/-- O30. The header (R67, R103, R104, R106, R107): a BAD one raises FRAME_BAD with its class, with no station,
unless the station's own mark spoiled the frame, and leads to SKIP for what is left of 97 bit times; a complete one
leads to BODY. In ACTIVE a FOREIGN CLAIM or ANNOUNCE of another station reserves the slot that holds its key, else
an empty one, the lowest-numbered (log 32), else raises ANSWER_DROPPED; nothing is reserved for any other header.
Outside HEADER, or with the header incomplete, the command changes nothing (log 1). -/
def Obligations.HeaderIsJudgedAndReserves : Prop :=
  (∀ (s : State) (c : BadClass), s.line.rx.mode = .header → judgeHeader s.line.rx.bits = .bad c →
      ∃ t, exec .frameHeader s = .next t ∧ t.line.rx.mode = .skip
        ∧ t.line.rx.skipLeft = 97 - s.line.rx.bits.length ∧ t.line.idle = 0
        ∧ t.events = (if s.line.rx.ownMark then s.events
            else s.events.take .frameBad none none (some (BitVec.ofNat 16 c.code)) s.time.ms)
        ∧ { t with line := s.line, events := s.events } = s
        ∧ { t.line with rx := s.line.rx, idle := s.line.idle } = s.line)
    ∧ (∀ (s : State) (kind x : Nat) (n : Byte), s.line.rx.mode = .header → judgeHeader s.line.rx.bits = .complete kind x n →
        (s.mc.station ≠ .active ∨ s.line.rx.cls ≠ some .foreign ∨ (kind ≠ 2 ∧ kind ≠ 3) ∨ x = s.mc.identity.number) →
          exec .frameHeader s
            = .next { s with line := { s.line with rx := { s.line.rx with mode := .body } } })
    ∧ (∀ (s : State) (kind x : Nat) (n : Byte), s.line.rx.mode = .header → judgeHeader s.line.rx.bits = .complete kind x n →
        s.mc.station = .active → s.line.rx.cls = some .foreign → (kind = 2 ∨ kind = 3) → x ≠ s.mc.identity.number →
        ∀ k, s.outbox.answers.findIdx? (fun a => a.key == some (x, n)) = some k →
          exec .frameHeader s
            = .next { s with line := { s.line with rx := { s.line.rx with mode := .body, reservation := some k } } })
    ∧ (∀ (s : State) (kind x : Nat) (n : Byte), s.line.rx.mode = .header → judgeHeader s.line.rx.bits = .complete kind x n →
        s.mc.station = .active → s.line.rx.cls = some .foreign → (kind = 2 ∨ kind = 3) → x ≠ s.mc.identity.number →
        (∀ a ∈ s.outbox.answers, a.key ≠ some (x, n)) →
        ∀ k, s.outbox.answers.findIdx? (fun a => a.occupancy == .empty) = some k →
          exec .frameHeader s
            = .next
              { s with
                line := { s.line with rx := { s.line.rx with mode := .body, reservation := some k } }
                outbox :=
                  { s.outbox with
                    answers := s.outbox.answers.set k
                      { AnswerSlot.empty with occupancy := .reserved, key := some (x, n) } } })
    ∧ (∀ (s : State) (kind x : Nat) (n : Byte), s.line.rx.mode = .header → judgeHeader s.line.rx.bits = .complete kind x n →
        s.mc.station = .active → s.line.rx.cls = some .foreign → (kind = 2 ∨ kind = 3) → x ≠ s.mc.identity.number →
        (∀ a ∈ s.outbox.answers, a.key ≠ some (x, n) ∧ a.occupancy ≠ .empty) →
          exec .frameHeader s
            = .next
              { s with
                line := { s.line with rx := { s.line.rx with mode := .body } }
                events := s.events.take .answerDropped (some x) (some n) (some (BitVec.ofNat 16 kind)) s.time.ms })
    ∧ (∀ s : State, (s.line.rx.mode ≠ .header ∨ judgeHeader s.line.rx.bits = .incomplete) → exec .frameHeader s = .next s)

/-- O31. The verdict (R5, R43, R68, R105, R106): a BAD frame raises FRAME_BAD with its class and the source, unless
the station's own mark spoiled it, and undoes an empty slot's reservation; a GOOD FOREIGN frame of another station
waits to be taken by a command of its own, with its reservation (log 11); a GOOD OWN frame is applied nowhere; a GOOD
FOREIGN frame of the own number is a duplicate: in MONITOR it is reported and taken, elsewhere it is reported, the
DUPLICATE condition is active, and the station is in FAULT, DUPLICATE standing ahead of STATE_CHANGED as R43 lists
the two (log 7); in FAULT with the condition already active it raises nothing. The receiver is then in HUNT, the
line-idle timer at 0. Outside BODY, or with the frame's bits not all in, the command changes nothing (log 1). -/
def Obligations.VerdictDeliversReportsOrFaults : Prop :=
  (∀ (s : State) (c : BadClass), s.line.rx.mode = .body → s.line.rx.frameIn = true → verdictOf s.line.rx.bits = .bad c →
      s.outbox.answers.length = 4 →
      ∃ t, exec .frameVerdict s = .next t ∧ t.line.rx = Receiver.hunting ∧ t.line.idle = 0
        ∧ t.line.inbox = s.line.inbox
        ∧ t.events = (if s.line.rx.ownMark then s.events
            else s.events.take .frameBad (some (byteOfBits ((s.line.rx.bits.drop 8).take 8)).toNat) none
              (some (BitVec.ofNat 16 c.code)) s.time.ms)
        ∧ (∀ k < 4, answerAt t k =
            (if s.line.rx.reservation = some k ∧ (answerAt s k).occupancy = .reserved then AnswerSlot.empty
              else answerAt s k))
        ∧ { t with line := s.line, events := s.events, outbox := s.outbox } = s
        ∧ t.outbox.hold = s.outbox.hold ∧ t.outbox.claim = s.outbox.claim)
    ∧ (∀ s : State, ∀ f ∈ (verdictOf s.line.rx.bits).frame?,
        s.line.rx.mode = .body → s.line.rx.frameIn = true →
        (s.line.rx.cls = some .own →
            exec .frameVerdict s = .next { s with line := { s.line with rx := Receiver.hunting, idle := 0 } })
        ∧ (s.line.rx.cls ≠ some .own → f.source ≠ s.mc.identity.number →
            exec .frameVerdict s = .next
              { s with
                line :=
                  { s.line with
                    rx := Receiver.hunting, idle := 0,
                    inbox := s.line.inbox ++ [{ frame := f, reservation := s.line.rx.reservation }] } })
        ∧ (s.line.rx.cls ≠ some .own → f.source = s.mc.identity.number → s.mc.station = .monitor →
            exec .frameVerdict s = .next
              { s with
                line :=
                  { s.line with
                    rx := Receiver.hunting, idle := 0,
                    inbox := s.line.inbox ++ [{ frame := f, reservation := s.line.rx.reservation }] }
                events := s.events.take .duplicate (some f.source) none (some (BitVec.ofNat 16 f.body.kindCode))
                  s.time.ms })
        ∧ (s.line.rx.cls ≠ some .own → f.source = s.mc.identity.number → s.mc.station ≠ .monitor →
            ¬ (s.mc.station = .fault ∧ s.mc.duplicate = true) →
              ∃ t, exec .frameVerdict s = .next t ∧ t.mc.station = .fault ∧ t.mc.duplicate = true
                ∧ t.events.active.duplicate = true ∧ t.line.inbox = (s.line.inbox.map (fun d =>
                    if s.mc.station = .fault then d else { d with reservation := none }))
                ∧ t.line.rx = Receiver.hunting ∧ t.line.idle = 0
                ∧ (Settled s → s.table.entries.length = 24 → s.table.overcommit = false → s.alloc.claim = none →
                  s.mc.request.taken = false →
                    t.events.queue =
                      ((s.events.take .duplicate (some s.mc.identity.number) none
                          (some (BitVec.ofNat 16 f.body.kindCode)) s.time.ms).takeIf
                        (s.mc.station != .fault) .stateChanged none none
                        (some (BitVec.ofNat 16 (256 * s.mc.station.code + 10))) s.time.ms).queue))
        ∧ (s.line.rx.cls ≠ some .own → f.source = s.mc.identity.number → s.mc.station = .fault → s.mc.duplicate = true →
            exec .frameVerdict s = .next { s with line := { s.line with rx := Receiver.hunting, idle := 0 } }))
    ∧ (∀ s : State, (s.line.rx.mode ≠ .body ∨ s.line.rx.frameIn = false) → exec .frameVerdict s = .next s)

/-! ## Ends of attempts -/

/-- O32. A completed HOLD that commits no claim, in ACTIVE (R74, R84, R85, R114, R128): the held it carried is the
last transmitted held, the hold sequence advances, the silence counter is 0, the drive level follows; a HOLD
assembled after the squeeze lifts the waiting-on-shed marks; the slot is empty, or filled anew if the HOLD is stale,
if a shed is owed, or if a commit is owed. -/
def Obligations.HoldCompletionUpdatesTheShareRecord : Prop :=
  ∀ (a : Attempt) (s : State), SendsFrom s .hold a → a.mismatch = false → a.taken = 8 * a.bytes.length →
    s.mc.station = .active → (∀ c, s.alloc.claim = some c → c.inFlight = false) →
    (s.table.overcommit = true ↔ capacity s < sumHeld s) → ∀ h, s.alloc.holdAttempt = some h →
      ∃ t, exec .attemptCompleted s = .next t
        ∧ t.alloc.share.lastTx = h.held ∧ t.alloc.share.holdSeq = s.alloc.share.holdSeq + 1 ∧ t.alloc.share.silence = 0
        ∧ t.alloc.share.held = s.alloc.share.held ∧ t.alloc.share.demand = s.alloc.share.demand
        ∧ t.alloc.share.failures = s.alloc.share.failures
        ∧ (s.pilot.faultIn = false → t.pilot.requested = min s.alloc.share.held (min h.held s.alloc.share.demand))
        ∧ (s.pilot.faultIn = true → t.pilot.requested = 0)
        ∧ t.outbox.answers = (if h.afterCut then s.outbox.answers.map (fun b => { b with waitingShed := false })
            else s.outbox.answers)
        ∧ t.outbox.hold =
            (if h.held ≠ s.alloc.share.held ∨ h.floor ≠ s.alloc.share.floor ∨ h.localFault ≠ s.pilot.faultIn
                ∨ h.openClaim ≠ s.alloc.claim.bind (fun c => if c.kind = .increase then some c.number else none)
                ∨ (h.afterCut = false ∧ ∃ b ∈ s.outbox.answers, b.waitingShed = true)
                ∨ (∃ c ∈ s.alloc.claim, c.phase = .committing) then
              { occupancy := .filled, attempts := 0, inFlight := false, resting := false }
            else HoldSlot.empty)
        ∧ t.line.tx = .none ∧ t.table.entries = s.table.entries ∧ t.mc = s.mc ∧ t.pins = s.pins ∧ t.time = s.time
        ∧ t.port = s.port

/-- O33. The commit of an INCREASE claim (R59, R63, R64, R85, R88): own held rises by exactly the amount, and a
target lowered below the sum meanwhile is applied at once as a decrease; the held the attempt carried is the last
transmitted held; the failure count is 0; that claim's record is gone, with CLAIM_COMMITTED for its number and
amount, then SHARE_CHANGED with the new held where the decrease is made (the order of the two is log 7's). -/
def Obligations.CommitRaisesHeldByTheAmount : Prop :=
  ∀ (a : Attempt) (s : State), SendsFrom s .hold a → a.mismatch = false → a.taken = 8 * a.bytes.length →
    s.mc.station = .active → s.table.overcommit = false → ∀ c, s.alloc.claim = some c → c.kind = .increase →
      c.inFlight = true → sumHeld s + c.amount ≤ capacity s → ∀ h, s.alloc.holdAttempt = some h →
        ∃ t, exec .attemptCompleted s = .next t
          ∧ t.alloc.share.held =
              (if s.alloc.share.demand < s.alloc.share.held + c.amount ∧ s.alloc.share.floor < s.alloc.share.held + c.amount then
                max s.alloc.share.demand s.alloc.share.floor else s.alloc.share.held + c.amount)
          ∧ t.alloc.share.lastTx = h.held ∧ t.alloc.share.holdSeq = s.alloc.share.holdSeq + 1
          ∧ t.alloc.share.silence = 0 ∧ t.alloc.share.failures = 0
          ∧ (s.pilot.faultIn = false →
              t.pilot.requested = min t.alloc.share.held (min h.held s.alloc.share.demand))
          ∧ (∀ d, t.alloc.claim = some d → d.number = s.alloc.share.claimCounter + 1 ∧ d.phase = .sending)
          ∧ { t.events with active := s.events.active, acked := s.events.acked } =
              (s.events.take .claimCommitted none (some c.number) (some (valueOf c.amount)) s.time.ms).takeIf
                (decide (s.alloc.share.demand < s.alloc.share.held + c.amount
                  ∧ s.alloc.share.floor < s.alloc.share.held + c.amount))
                .shareChanged none none (some (valueOf (max s.alloc.share.demand s.alloc.share.floor))) s.time.ms
          ∧ t.line.tx = .none ∧ t.mc = s.mc ∧ t.table.entries = s.table.entries ∧ t.outbox.answerList = s.outbox.answerList

/-- O34. The commit of a join (R34): the station is ACTIVE with own held the floor, the failure and silence counts
0, the hold sequence advanced, the FLOOR claim gone, and a taken STATE_REQUEST ACTIVE resolved DONE. With the floor
within the capacity, its events are CLAIM_COMMITTED with the floor as value, STATE_CHANGED from JOINING to ACTIVE,
and COMMAND_DONE for that request (R27, R48, R163; their order is log 7's). A farewell's
completion (R38, R42, R97) leads from LEAVING to DETACHED and leaves FENCED FENCED, with the HOLD slot empty. An
attempt taken to its end whose slot has been emptied or refilled before the report (log 34): the held of a HOLD is
the last transmitted, the hold sequence advances, the silence counter is 0 and the drive level follows (R85), and a
CLAIM or an answer leaves the transmitter in NONE and nothing else. A completed ANNOUNCE whose slot has been emptied
meanwhile returns the silence counter to 0 all the same (R87; log 34), an update of the table where it changes the
counter (log 36). -/
def Obligations.JoinCommitsAndFarewellsEnd : Prop :=
  (∀ (a : Attempt) (s : State), SendsFrom s .hold a → a.mismatch = false → a.taken = 8 * a.bytes.length →
    s.mc.station = .joining → ∀ c, s.alloc.claim = some c → c.kind = .floor → c.inFlight = true →
      ∀ h, s.alloc.holdAttempt = some h →
        ∃ t, exec .attemptCompleted s = .next t
          ∧ t.mc.station = .active ∧ t.alloc.share.held = s.alloc.share.floor ∧ t.alloc.share.lastTx = h.held
          ∧ t.alloc.share.holdSeq = s.alloc.share.holdSeq + 1 ∧ t.alloc.share.silence = 0 ∧ t.alloc.share.failures = 0
          ∧ (∀ d, t.alloc.claim = some d → d.kind = .increase)
          ∧ (s.mc.request.taken = true → s.mc.request.first = some .active →
              t.mc.lastResolution = some (.command .stateRequest (some .active) .done))
          ∧ (s.table.overcommit = false → sumHeld s + s.alloc.share.floor ≤ capacity s →
              { t.events with active := s.events.active, acked := s.events.acked } =
                ((s.events.take .claimCommitted none (some c.number) (some (valueOf s.alloc.share.floor))
                    s.time.ms).take
                  .stateChanged none none (some (BitVec.ofNat 16 (256 * 4 + 6))) s.time.ms).takeIf
                  (s.mc.request.taken && s.mc.request.first == some .active) .commandDone none none (some 0x9110)
                  s.time.ms)
          ∧ t.pilot.stateCopy = .active ∧ t.line.tx = .none ∧ t.table.entries = s.table.entries)
    ∧ (∀ (a : Attempt) (s : State), SendsFrom s .hold a → a.mismatch = false →
        a.taken = 8 * a.bytes.length → (s.mc.station = .leaving ∨ s.mc.station = .fenced) →
          ∀ h, s.alloc.holdAttempt = some h →
            ∃ t, exec .attemptCompleted s = .next t
              ∧ t.mc.station = (if s.mc.station = .leaving then .detached else .fenced)
              ∧ t.outbox.hold = HoldSlot.empty ∧ t.alloc.share.lastTx = h.held
              ∧ t.alloc.share.holdSeq = s.alloc.share.holdSeq + 1 ∧ t.alloc.share.silence = 0 ∧ t.line.tx = .none)
    ∧ (∀ (a : Attempt) (s : State), s.line.tx = .sending a → a.stopped = false → a.mismatch = false →
        a.taken = 8 * a.bytes.length → inFlightAt s a.slot = false →
          (a.slot = .hold → ∀ h, s.alloc.holdAttempt = some h →
              exec .attemptCompleted s = .next (endUpdate none
                { s with
                  line := (endAttempt s).line
                  alloc :=
                    { s.alloc with
                      share :=
                        { s.alloc.share with
                          lastTx := h.held, holdSeq := s.alloc.share.holdSeq + 1, silence := 0 } }
                  pilot :=
                    { s.pilot with
                      former := none
                      requested := if s.mc.station = .active ∧ s.pilot.faultIn = false then
                        min s.alloc.share.held (min h.held s.alloc.share.demand) else 0 } }))
          ∧ (a.slot = .claim → a.bytes[2]?.map (fun kl => kl.toNat / 16) = some 3 →
              (s.alloc.share.silence = 0 → exec .attemptCompleted s = .next (endAttempt s))
              ∧ (s.alloc.share.silence ≠ 0 →
                  exec .attemptCompleted s = .next (endUpdate none
                    { s with
                      line := (endAttempt s).line
                      alloc := { s.alloc with share := { s.alloc.share with silence := 0 } } })))
          ∧ ((a.slot ≠ .hold ∧ (a.slot = .claim → a.bytes[2]?.map (fun kl => kl.toNat / 16) ≠ some 3)) →
              exec .attemptCompleted s = .next (endAttempt s)))

/-- O35. A completed claim frame (R33, R55, R58, R87): the roll is the MEMBER entries, the own one excluded, the
window stands at 24 and the deadline at 48; with a roll the claim waits, with none it is COMMITTING and the HOLD
slot is filled; an ANNOUNCE clears the silence counter; an INCREASE claim with a SUSPECT entry in the table fails
with SUSPECT instead. The CLAIM slot is empty. A completed answer (R76, R77, R128): its slot is empty and out of the
answer list, expired or not, and the earmark stays; nothing else changes. -/
def Obligations.ClaimFrameAndAnswerComplete : Prop :=
  (∀ (a : Attempt) (s : State), SendsFrom s .claim a → a.mismatch = false → a.taken = 8 * a.bytes.length →
    (s.table.overcommit = true ↔ capacity s < sumHeld s) → ∀ c, s.alloc.claim = some c →
      (c.kind = .floor ∨ anySuspect s = false) →
      ∃ t, exec .attemptCompleted s = .next t
        ∧ t.alloc.claim = some
            { c with
              phase := if (List.range 24).any (fun i => isPeer s i && (entryAt s i).stands .member) then .awaiting
                else .committing
              roll := (List.range 24).filter (fun i => isPeer s i && (entryAt s i).stands .member)
              assents := [], window := 24, deadline := 48, inFlight := false, deadlinePassed := false }
        ∧ ((∀ i < 24, (isPeer s i && (entryAt s i).stands .member) = false) →
            (s.mc.station = .active ∨ s.mc.station = .joining) → t.outbox.hold.occupancy = .filled)
        ∧ t.alloc.share = (if c.kind = .floor then { s.alloc.share with silence := 0 } else s.alloc.share)
        ∧ t.outbox.claim = ClaimSlot.empty ∧ t.line.tx = .none ∧ t.mc = s.mc ∧ t.table.entries = s.table.entries
        ∧ t.outbox.answers = s.outbox.answers)
    ∧ (∀ (a : Attempt) (s : State), SendsFrom s .claim a → a.mismatch = false → a.taken = 8 * a.bytes.length →
        anySuspect s = true → ∀ c, s.alloc.claim = some c → c.kind = .increase →
          exec .attemptCompleted s = .next (endUpdate none
            { s with
              alloc := claimCounted s
              outbox := { s.outbox with claim := ClaimSlot.empty }
              line := (endAttempt s).line
              events := s.events.take .claimFailed none (some c.number) (some (BitVec.ofNat 16 (256 * 1 + 3)))
                s.time.ms }))
    ∧ (∀ (a : Attempt) (k : Fin 4) (s : State), SendsFrom s (.answer k) a → a.mismatch = false →
        a.taken = 8 * a.bytes.length →
          exec .attemptCompleted s = .next
        { s with
          line := (endAttempt s).line
          outbox :=
            { s.outbox with
              answers := s.outbox.answers.set k AnswerSlot.empty
              answerList := s.outbox.answerList.filter (fun j => j != k.val) } })

/-- O36. A collision (R86, R113, R129 to R131, R133): the transmitter is in NONE and the slot has spent one attempt
more. Below sixteen the slot keeps its content, and the last transmitted held, the hold sequence, the silence counter
and the drive level keep their values; an ordinary HOLD's report is no update of the table (log 36). At sixteen a
claim frame is dropped and the claim fails with TX_FAILED, an INCREASE claim counted, a join going to WAITING; the
HOLD slot rests in ACTIVE, is dropped in FENCED and in JOINING, where the join's claim waits unless its deadline has
passed, and ends LEAVING in DETACHED, each with TX_GAVE_UP, which says whether the slot is kept resting (R133; with a
commit attempt in ACTIVE, OVERCOMMIT being set wherever Σheld exceeds C), an INCREASE claim then lapsing if its
deadline passed meanwhile, and abandoned with DEMAND_DROP if the demand target does not lie above own held (R60, R63;
log 21; where both hold, log 9); an answer that has not expired is dropped with TX_GAVE_UP and ANSWER_EXPIRED with
reason ATTEMPTS, an ASSENT with its earmark (R76, R130). An expired answer is dropped with ANSWER_EXPIRED and reason
DEADLINE alone (R77). A collision of an attempt whose slot has been emptied or refilled before the report counts
nowhere (R129). A collision of an attempt whose answer a later decision has rewritten leaves the new answer its
count, sixteen attempts of its own (R129, R130), also where the decision came out the same (log 26). TX_GAVE_UP ahead
of what follows from it, and STATE_CHANGED behind CLAIM_FAILED and ahead of COMMAND_DONE, is the model's choice of
order (log 7). Bits 3 to 1 of the value of TX_GAVE_UP, which R193 leaves open, are 0 by the model's choice (log 41).
A report that is not due changes nothing (log 1). -/
def Obligations.CollisionsCountAndExhaust : Prop :=
  (∀ (a : Attempt) (s : State), SendsFrom s .claim a → a.mismatch = true →
      s.outbox.claim.attempts < 15 →
        exec .attemptCollided s = .next
          { s with
            line := (endAttempt s).line
            outbox :=
              { s.outbox with
                claim := { s.outbox.claim with inFlight := false, attempts := s.outbox.claim.attempts + 1 } } })
    ∧ (∀ (a : Attempt) (s : State), SendsFrom s .claim a → a.mismatch = true →
        s.outbox.claim.attempts = 15 → ∀ c, s.alloc.claim = some c → c.kind = .increase →
        s.outbox.claim.key = some c.number → s.outbox.claim.content = some .increase →
          exec .attemptCollided s = .next (endUpdate none
            { s with
              alloc := claimCounted s
              outbox := { s.outbox with claim := ClaimSlot.empty }
              line := (endAttempt s).line
              events := (s.events.take .txGaveUp none (some c.number) (some (BitVec.ofNat 16 (256 * 2 + 16 * 2))) s.time.ms).take
                .claimFailed none (some c.number) (some (BitVec.ofNat 16 (256 * 1 + 9))) s.time.ms }))
    ∧ (∀ (a : Attempt) (s : State), SendsFrom s .hold a → a.mismatch = true →
        (∀ c, s.alloc.claim = some c → c.inFlight = false) → s.outbox.hold.attempts < 15 →
          exec .attemptCollided s = .next
            { s with
              line := (endAttempt s).line
              outbox :=
                { s.outbox with
                  hold := { s.outbox.hold with inFlight := false, attempts := s.outbox.hold.attempts + 1 } } })
    ∧ (∀ (a : Attempt) (s : State), SendsFrom s .hold a → a.mismatch = true → s.outbox.hold.attempts = 15 →
        s.mc.station = .active →
          ((∀ c ∈ s.alloc.claim, c.inFlight = false) →
              exec .attemptCollided s = .next
                { s with
                  line := (endAttempt s).line
                  outbox :=
                    { s.outbox with hold := { s.outbox.hold with inFlight := false, attempts := 16, resting := true } }
                  events := s.events.take .txGaveUp none (s.alloc.holdAttempt.bind (fun h => h.commit))
                    (some (BitVec.ofNat 16 (256 * 1 + 16 * 1 + 1))) s.time.ms })
          ∧ (∀ c, s.alloc.claim = some c → c.inFlight = true → c.deadlinePassed = false →
              (c.kind = .floor ∨ s.alloc.share.held < s.alloc.share.demand) →
                exec .attemptCollided s = .next (endUpdate none
                  { s with
                    line := (endAttempt s).line
                    alloc := { s.alloc with claim := some { c with inFlight := false } }
                    outbox :=
                      { s.outbox with hold := { s.outbox.hold with inFlight := false, attempts := 16, resting := true } }
                    events := s.events.take .txGaveUp none (s.alloc.holdAttempt.bind (fun h => h.commit))
                      (some (BitVec.ofNat 16 (256 * 1 + 16 * 1 + 1))) s.time.ms }))
          ∧ (∀ (c : ClaimRecord) (kind : EventKind) (value : Half), s.alloc.claim = some c → c.kind = .increase →
              c.inFlight = true →
              ((c.deadlinePassed = true ∧ s.alloc.share.held < s.alloc.share.demand ∧ kind = .claimLapsed
                  ∧ value = valueOf c.amount)
                ∨ (c.deadlinePassed = false ∧ s.alloc.share.demand ≤ s.alloc.share.held ∧ kind = .claimAbandoned
                  ∧ value = BitVec.ofNat 16 (256 * 1 + 10))) →
                exec .attemptCollided s = .next (endUpdate none
                  { s with
                    line := (endAttempt s).line
                    alloc := claimCounted s
                    outbox :=
                      { s.outbox with
                        hold := { s.outbox.hold with inFlight := false, attempts := 16, resting := true }
                        claim := ClaimSlot.empty }
                    events := (s.events.take .txGaveUp none (s.alloc.holdAttempt.bind (fun h => h.commit))
                        (some (BitVec.ofNat 16 (256 * 1 + 16 * 1 + 1))) s.time.ms).take kind none (some c.number)
                      (some value) s.time.ms }))
          ∧ (∀ c, s.alloc.claim = some c → c.kind = .increase → c.inFlight = true → c.deadlinePassed = true →
              s.alloc.share.demand ≤ s.alloc.share.held →
                ∃ t, exec .attemptCollided s = .next t ∧ t.line.tx = .none ∧ t.alloc.claim = none
                  ∧ t.alloc.share.failures = min (s.alloc.share.failures + 1) 15))
    ∧ (∀ (a : Attempt) (s : State), SendsFrom s .hold a → a.mismatch = true →
        s.outbox.hold.attempts = 15 → s.mc.station = .active → (s.table.overcommit = false → sumHeld s ≤ capacity s) →
        (∀ c, s.alloc.claim = some c → c.deadlinePassed = false) →
          ∃ t, exec .attemptCollided s = .next t ∧ t.line.tx = .none ∧ t.mc = s.mc
            ∧ t.outbox.hold = { s.outbox.hold with inFlight := false, attempts := 16, resting := true }
            ∧ t.alloc.share.lastTx = s.alloc.share.lastTx ∧ t.alloc.share.holdSeq = s.alloc.share.holdSeq
            ∧ t.alloc.share.silence = s.alloc.share.silence)
    ∧ (∀ (a : Attempt) (s : State), SendsFrom s .hold a → a.mismatch = true →
        s.outbox.hold.attempts = 15 → (s.mc.station = .leaving ∨ s.mc.station = .fenced) →
        (∀ c, s.alloc.claim = some c → c.deadlinePassed = false) →
          ∃ t, exec .attemptCollided s = .next t ∧ t.line.tx = .none ∧ t.outbox.hold = HoldSlot.empty
            ∧ t.mc.station = (if s.mc.station = .leaving then .detached else .fenced)
            ∧ (s.alloc.claim = none → s.mc.station = .fenced →
                t.events = s.events.take .txGaveUp none (s.alloc.holdAttempt.bind (fun h => h.commit))
                    (some (BitVec.ofNat 16 (256 * 1 + 16 * 1))) s.time.ms
                  ∧ { t with events := s.events, line := s.line, outbox := s.outbox } = s)
            ∧ (s.alloc.claim = none → s.mc.station = .leaving → Settled s → s.table.entries.length = 24 →
              s.table.overcommit = false →
                t.events.queue =
                  (((s.events.take .txGaveUp none (s.alloc.holdAttempt.bind (fun h => h.commit))
                      (some (BitVec.ofNat 16 (256 * 1 + 16 * 1))) s.time.ms).take .stateChanged none none
                      (some (BitVec.ofNat 16 (256 * 7 + 8))) s.time.ms).takeIf
                    (s.mc.request.taken && s.mc.request.first == some .detached) .commandDone none none (some 0x9120)
                    s.time.ms).queue))
    ∧ (∀ (a : Attempt) (k : Fin 4) (s : State), SendsFrom s (.answer k) a → a.mismatch = true →
        s.outbox.answers.length = 4 → (answerAt s k).expired = false →
          (((answerAt s k).rewritten = false → (answerAt s k).attempts < 15 →
              exec .attemptCollided s = .next
                { s with
                  line := (endAttempt s).line
                  outbox :=
                    { s.outbox with
                      answers := s.outbox.answers.set k
                        { answerAt s k with inFlight := false, attempts := (answerAt s k).attempts + 1 } } })
            ∧ ((answerAt s k).rewritten = true →
              exec .attemptCollided s = .next
                { s with
                  line := (endAttempt s).line
                  outbox :=
                    { s.outbox with
                      answers :=
                        s.outbox.answers.set k { answerAt s k with inFlight := false, rewritten := false } } })))
    ∧ (∀ (a : Attempt) (k : Fin 4) (s : State), SendsFrom s (.answer k) a → a.mismatch = true →
        s.outbox.answers.length = 4 →
        ((answerAt s k).expired = true ∨ ((answerAt s k).rewritten = false ∧ (answerAt s k).attempts = 15)) →
          ∃ t, exec .attemptCollided s = .next t ∧ t.line.tx = .none ∧ answerAt t k = AnswerSlot.empty
            ∧ k.val ∉ t.outbox.answerList ∧ (∀ j < 4, j ≠ k.val → answerAt t j = answerAt s j))
    ∧ (∀ (a : Attempt) (k : Fin 4) (s : State), SendsFrom s (.answer k) a → a.mismatch = true →
      s.outbox.answers.length = 4 → (answerAt s k).expired = false → (answerAt s k).rewritten = false →
      (answerAt s k).attempts = 15 → s.table.overcommit = false → sumHeld s ≤ capacity s →
      ∀ key, (answerAt s k).key = some key → ∀ r, (answerAt s k).content = some (.object r) →
        ∃ t, exec .attemptCollided s = .next t
          ∧ t.events.queue = ((s.events.take .txGaveUp (some key.1) (some key.2) (some (BitVec.ofNat 16 (256 * 3 + 16 * 5)))
              s.time.ms).take .answerExpired (some key.1) (some key.2) (some (BitVec.ofNat 16 (256 * 2 + 2))) s.time.ms).queue
          ∧ t.table.entries = s.table.entries)
    ∧ (∀ (a : Attempt) (k : Fin 4) (s : State), SendsFrom s (.answer k) a → a.mismatch = true →
        s.outbox.answers.length = 4 → (answerAt s k).expired = true → s.table.overcommit = false → sumHeld s ≤ capacity s →
        ∀ key, (answerAt s k).key = some key → ∀ r, (answerAt s k).content = some (.object r) →
          ∃ t, exec .attemptCollided s = .next t
            ∧ t.events.queue = (s.events.take .answerExpired (some key.1) (some key.2)
                (some (BitVec.ofNat 16 (256 * 1 + 2))) s.time.ms).queue)
    ∧ (∀ (a : Attempt) (k : Fin 4) (s : State), SendsFrom s (.answer k) a → a.mismatch = true →
        s.outbox.answers.length = 4 → s.table.entries.length = 24 → (answerAt s k).content = some .assent →
        ∀ key, (answerAt s k).key = some key → key.1 < 24 →
        ((answerAt s k).expired = true ∨ ((answerAt s k).rewritten = false ∧ (answerAt s k).attempts = 15)) →
          ∃ t, exec .attemptCollided s = .next t
            ∧ (isPeer s key.1 = true → ∀ m, (entryAt s key.1).stored.earmark = some m → m.number = key.2 →
                (entryAt t key.1).stored.earmark = none
                  ∧ ((entryAt s key.1).stored.status = .pendingJoin → (entryAt t key.1).stored.status = .absent))
            ∧ (∀ i < 24, i ≠ key.1 → entryAt t i = entryAt s i)
            ∧ (Settled s → s.table.overcommit = false →
                t.events.queue =
                  ((s.events.takeIf (!(answerAt s k).expired) .txGaveUp (some key.1) (some key.2)
                      (some (BitVec.ofNat 16 (256 * 3 + 16 * 4))) s.time.ms).take .answerExpired (some key.1) (some key.2)
                    (some (BitVec.ofNat 16 (256 * (if (answerAt s k).expired then 1 else 2) + 1))) s.time.ms).queue))
    ∧ (∀ (c : ClaimRecord) (a : Attempt) (s : State), SendsFrom s .claim a → a.mismatch = true →
        s.outbox.claim.attempts = 15 → s.alloc.claim = some c → c.kind = .floor → s.mc.station = .joining →
        s.outbox.claim.key = some c.number → s.outbox.claim.content = some .floor →
          ∃ t, exec .attemptCollided s = .next t ∧ t.line.tx = .none ∧ t.mc.station = .waiting ∧ t.mc.retry = 0
            ∧ t.alloc.claim = none ∧ t.outbox.claim = ClaimSlot.empty
            ∧ t.alloc.share.failures = s.alloc.share.failures ∧ t.alloc.share.backoff = s.alloc.share.backoff
            ∧ (Settled s → s.table.entries.length = 24 → s.table.overcommit = false → s.mc.request.taken = false →
                t.events.queue = (((s.events.take .txGaveUp none (some c.number)
                    (some (BitVec.ofNat 16 (256 * 2 + 16 * 3))) s.time.ms).take
                  .claimFailed none (some c.number) (some (BitVec.ofNat 16 (256 * 0 + 9))) s.time.ms).take
                  .stateChanged none none (some (BitVec.ofNat 16 (256 * 4 + 5))) s.time.ms).queue))
    ∧ (∀ (c : ClaimRecord) (a : Attempt) (s : State), SendsFrom s .hold a → a.mismatch = true →
        s.outbox.hold.attempts = 15 → s.mc.station = .joining → s.alloc.claim = some c → c.kind = .floor →
          (c.deadlinePassed = false → c.inFlight = true →
              exec .attemptCollided s = .next (endUpdate none
                { s with
                  line := (endAttempt s).line
                  alloc := { s.alloc with claim := some { c with inFlight := false } }
                  outbox := { s.outbox with hold := HoldSlot.empty }
                  events := s.events.take .txGaveUp none (s.alloc.holdAttempt.bind (fun h => h.commit))
                    (some (BitVec.ofNat 16 (256 * 1 + 16 * 1))) s.time.ms }))
          ∧ (c.inFlight = false →
              exec .attemptCollided s = .next
                { s with
                  line := (endAttempt s).line
                  outbox := { s.outbox with hold := HoldSlot.empty }
                  events := s.events.take .txGaveUp none (s.alloc.holdAttempt.bind (fun h => h.commit))
                    (some (BitVec.ofNat 16 (256 * 1 + 16 * 1))) s.time.ms })
          ∧ (c.deadlinePassed = true → c.inFlight = true →
              ∃ t, exec .attemptCollided s = .next t ∧ t.line.tx = .none ∧ t.mc.station = .waiting
                ∧ t.alloc.claim = none ∧ t.outbox.hold = HoldSlot.empty))
    ∧ (∀ (a : Attempt) (s : State), s.line.tx = .sending a → a.stopped = false → a.mismatch = true →
        inFlightAt s a.slot = false → exec .attemptCollided s = .next (endAttempt s))
    ∧ (∀ s : State,
        ((∀ a, s.line.tx = .sending a → a.stopped = true ∨ a.mismatch = true ∨ a.taken ≠ 8 * a.bytes.length) →
            exec .attemptCompleted s = .next s)
        ∧ ((∀ a, s.line.tx = .sending a → a.stopped = true ∨ a.mismatch = false) → exec .attemptCollided s = .next s))

/-! ## Frames taken -/

/-- O37. A HOLD without FAREWELL, its source's entry not SUSPECT after the check (R9 to R11): the entry takes the
HOLD's values and is a MEMBER of age 0; its priority stays; its earmark stays only if the HOLD names it in OPEN_CLAIM
and does not commit it; OVERDRAWN is set if the held rises beyond the allowance. PEER_JOINED, PEER_OVERDRAW,
PEER_FAULT each on its condition, and nothing else while the sum of held shares, the new held in place of the old,
fits, own held and a backoff that does not end staying; where OVERCOMMIT was set before, that is so whatever the sum,
and OVERCOMMIT_CLEAR with the sum follows if it fits (R8, R93). Where the HOLD sets OVERCOMMIT, OVERCOMMIT_SET with
its source and what follows from it, as in O18 (R92; the order among them is the model's, logs 7 and 8). A held that
falls ends a running backoff (R66). The ASSENT whose earmark goes is withdrawn (R76). No other entry changes, the
roll of an open claim loses nobody (R56), and the claim stands unless OVERCOMMIT abandons it; the station state, the
pins, the time, the port and the receiver stay as they are. -/
def Obligations.HoldRewritesItsSourcesEntry : Prop :=
  ∀ (x : Nat) (h : HoldFields) (r : Option Nat) (rest : List Delivered) (s : State),
    s.line.inbox = { frame := { source := x, body := .hold h }, reservation := r } :: rest → h.farewell = false →
    x < 24 → isPeer s x = true → s.table.entries.length = 24 → suspectOnCheck s x = false →
      ∃ t, exec .holdReceived s = .next t
        ∧ (entryAt t x).stored.status = .member ∧ (entryAt t x).stored.held = h.held
        ∧ (entryAt t x).stored.floor = h.floor ∧ (entryAt t x).stored.priority = (entryAt s x).stored.priority
        ∧ (entryAt t x).stored.holdSeq = h.seq ∧ (entryAt t x).stored.openClaim = h.openClaim
        ∧ (entryAt t x).stored.localFault = h.localFault
        ∧ (entryAt t x).parityGood = true ∧ (entryAt t x).age = 0 ∧ (entryAt t x).suspect = false
        ∧ (entryAt t x).stored.earmark =
            (entryAt s x).stored.earmark.filter (fun m => h.commit != some m.number && h.openClaim == some m.number)
        ∧ ((entryAt t x).stored.earmark.isSome = true → (entryAt t x).expiry = (entryAt s x).expiry)
        ∧ ((entryAt t x).stored.overdrawn = true ↔ (entryAt s x).stored.overdrawn = true
            ∨ ((entryAt s x).stored.status ≠ .absent
              ∧ (entryAt s x).stored.held + allowanceFor h (entryAt s x).stored.earmark < h.held))
        ∧ (∀ i < 24, i ≠ x → entryAt t i = entryAt s i) ∧ t.table.entries.length = 24
        ∧ (t.table.overcommit = true ↔ capacity s < sumHeld t)
        ∧ ((s.table.overcommit = true ∨ sumHeld { s with table := t.table } ≤ capacity s) →
            { t.events with active := s.events.active, acked := s.events.acked } =
                (s.peerEvents x h).takeIf (s.table.overcommit && decide (sumHeld t ≤ capacity s)) .overcommitClear none
                  none (some (valueOf (sumHeld t))) s.time.ms
              ∧ t.alloc.share.held = s.alloc.share.held
              ∧ (((entryAt s x).stored.status ≠ .absent ∧ h.held < (entryAt s x).stored.held) →
                  t.alloc.share.backoff = none)
              ∧ ((entryAt s x).stored.held ≤ h.held → t.alloc.share.backoff = s.alloc.share.backoff))
        ∧ (s.table.overcommit = false → capacity s < sumHeld { s with table := t.table } →
            { t.events with active := s.events.active, acked := s.events.acked } =
              (s.overcommitEvents (some x) (sumHeld { s with table := t.table }) (s.peerEvents x h)).takeIf
                (decide (sumHeld t ≤ capacity s)) .overcommitClear none none (some (valueOf (sumHeld t))) s.time.ms)
        ∧ (∀ m, (entryAt s x).stored.earmark = some m → (entryAt t x).stored.earmark = none →
            ∀ k, answerFor s x m.number = some k → (answerAt s k).content = some .assent →
              answerAt t k = AnswerSlot.empty ∧ k ∉ t.outbox.answerList)
        ∧ (∀ c, s.alloc.claim = some c → t.alloc.claim = some c ∨ (c.kind = .increase ∧ t.alloc.claim = none))
        ∧ t.line.inbox = rest ∧ t.line.rx = s.line.rx ∧ t.mc = s.mc ∧ t.pins = s.pins ∧ t.time = s.time
        ∧ t.port = s.port

/-- O38. A HOLD for a SUSPECT entry rewrites the entry whole, with priority 0, no earmark and OVERDRAWN clear, and
raises nothing but the PARITY of a check that fails at it (R13) and, where it sets OVERCOMMIT, OVERCOMMIT_SET with
its source and what follows from it, as in O18 (R92; log 8), or, where OVERCOMMIT was set before and the sum of held
shares fits, OVERCOMMIT_CLEAR with that sum (R8, R93); it ends no backoff (R66), and own held stays unless OVERCOMMIT
is set. -/
def Obligations.HoldRebuildsASuspectEntry : Prop :=
  ∀ (x : Nat) (h : HoldFields) (r : Option Nat) (rest : List Delivered) (s : State),
    s.line.inbox = { frame := { source := x, body := .hold h }, reservation := r } :: rest → h.farewell = false →
    x < 24 → isPeer s x = true → s.table.entries.length = 24 → suspectOnCheck s x = true →
      ∃ t, exec .holdReceived s = .next t
        ∧ entryAt t x =
            { stored :=
                { status := .member, held := h.held, floor := h.floor, priority := 0, holdSeq := h.seq,
                  openClaim := h.openClaim, earmark := none, localFault := h.localFault, overdrawn := false }
              parityGood := true, age := 0, expiry := 0, suspect := false }
        ∧ (entryAt t x).valid = true
        ∧ (∀ i < 24, i ≠ x → entryAt t i = entryAt s i)
        ∧ (t.table.overcommit = true ↔ capacity s < sumHeld t)
        ∧ ((s.table.overcommit = true ∨ sumHeld { s with table := t.table } ≤ capacity s) →
            { t.events with active := s.events.active, acked := s.events.acked } =
                (eventsOnCheck s x).takeIf (s.table.overcommit && decide (sumHeld t ≤ capacity s)) .overcommitClear none
                  none (some (valueOf (sumHeld t))) s.time.ms
              ∧ t.alloc.share.held = s.alloc.share.held ∧ t.alloc.share.backoff = s.alloc.share.backoff)
        ∧ (s.table.overcommit = false → capacity s < sumHeld { s with table := t.table } →
            { t.events with active := s.events.active, acked := s.events.acked } =
              (s.overcommitEvents (some x) (sumHeld { s with table := t.table }) (eventsOnCheck s x)).takeIf
                (decide (sumHeld t ≤ capacity s)) .overcommitClear none none (some (valueOf (sumHeld t))) s.time.ms)
        ∧ t.line.inbox = rest ∧ t.mc = s.mc ∧ t.pins = s.pins ∧ t.time = s.time ∧ t.port = s.port

/-- O39. A farewell (R12, R56, R66, R76, R97): the source's entry is ABSENT, SUSPECT clear, its last hold sequence
kept; PEER_LEFT gives the held that counted, after the PARITY of a check that fails; a running backoff ends if that
held was above 0; the source is off the roll, and a claim whose roll is then covered is COMMITTING; the ASSENT for
an earmark on the entry is withdrawn, by the claim number that the storage reads, for a SUSPECT entry by the model's
choice (log 39). For an entry that is ABSENT and not SUSPECT nothing is raised and no entry
changes. While OVERCOMMIT is set, it clears with OVERCOMMIT_CLEAR and the sum of held shares if that sum then fits
(R8, R93). PARITY stands ahead of PEER_LEFT (log 7). A frame command that finds no frame of its kind at the head of
those delivered changes nothing (log 1). -/
def Obligations.FarewellReleasesItsSource : Prop :=
  (∀ (x : Nat) (h : HoldFields) (r : Option Nat) (rest : List Delivered) (s : State),
    s.line.inbox = { frame := { source := x, body := .hold h }, reservation := r } :: rest → h.farewell = true →
    x < 24 → isPeer s x = true → s.table.entries.length = 24 →
    (s.table.overcommit = true ↔ capacity s < sumHeld s) → s.table.overcommit = false →
      ∃ t, exec .farewellReceived s = .next t
        ∧ (∀ i < 24, i ≠ x → entryAt t i = entryAt s i)
        ∧ ((suspectOnCheck s x = true ∨ (entryAt s x).stored.status ≠ .absent) →
            entryAt t x =
                { stored := { Stored.empty with holdSeq := (entryAt s x).stored.holdSeq }, parityGood := true, age := 0,
                  expiry := 0, suspect := false }
              ∧ t.events.queue =
                  ((eventsOnCheck s x).take .peerLeft (some x) none
                    (some (valueOf (if suspectOnCheck s x then 0 else (entryAt s x).stored.held))) s.time.ms).queue
              ∧ ((suspectOnCheck s x = false ∧ 0 < (entryAt s x).stored.held) → t.alloc.share.backoff = none)
              ∧ ((suspectOnCheck s x = true ∨ (entryAt s x).stored.held = 0) →
                  t.alloc.share.backoff = s.alloc.share.backoff)
              ∧ (∀ c, s.alloc.claim = some c → x ∈ c.roll → ∀ d, t.alloc.claim = some d → x ∉ d.roll ∧ x ∉ d.assents)
              ∧ (∀ c, s.alloc.claim = some c → ∃ d ∈ t.alloc.claim, ∀ i < 24, i ≠ x → (i ∈ d.roll ↔ i ∈ c.roll))
              ∧ (∀ c, s.alloc.claim = some c → x ∈ c.roll → c.phase = .awaiting → (∀ i ∈ c.roll, i = x ∨ i ∈ c.assents) →
                  ∃ d ∈ t.alloc.claim, d.phase = .committing)
              ∧ (∀ m, (entryAt s x).stored.earmark = some m → ∀ k, answerFor s x m.number = some k →
                  (answerAt s k).content = some .assent → answerAt t k = AnswerSlot.empty))
        ∧ ((suspectOnCheck s x = false ∧ (entryAt s x).stored.status = .absent) →
            { t.table with sums := s.table.sums } = s.table ∧ t.events.queue = s.events.queue ∧ t.alloc.share.held = s.alloc.share.held
              ∧ t.alloc.share.backoff = s.alloc.share.backoff)
        ∧ t.line.inbox = rest ∧ t.mc = s.mc ∧ t.pins = s.pins ∧ t.time = s.time ∧ t.port = s.port)
    ∧ (∀ (x : Nat) (h : HoldFields) (r : Option Nat) (rest : List Delivered) (s : State),
    s.line.inbox = { frame := { source := x, body := .hold h }, reservation := r } :: rest → h.farewell = true →
    x < 24 → isPeer s x = true → s.table.entries.length = 24 → s.table.overcommit = true →
    (suspectOnCheck s x = true ∨ (entryAt s x).stored.status ≠ .absent) →
      ∃ t, exec .farewellReceived s = .next t
        ∧ entryAt t x =
            { stored := { Stored.empty with holdSeq := (entryAt s x).stored.holdSeq }, parityGood := true, age := 0,
              expiry := 0, suspect := false }
        ∧ (t.table.overcommit = true ↔ capacity s < sumHeld t)
        ∧ t.events.queue =
            (EventUnit.takeIf (decide (sumHeld t ≤ capacity s)) .overcommitClear none none (some (valueOf (sumHeld t)))
              s.time.ms ((eventsOnCheck s x).take .peerLeft (some x) none
                (some (valueOf (if suspectOnCheck s x then 0 else (entryAt s x).stored.held))) s.time.ms)).queue)
    ∧ (∀ s : State,
        ((∀ d ∈ s.line.inbox.head?, ∀ h, d.frame.body = .hold h → h.farewell = true) →
            exec .holdReceived s = .next s)
        ∧ ((∀ d ∈ s.line.inbox.head?, ∀ h, d.frame.body = .hold h → h.farewell = false) →
            exec .farewellReceived s = .next s)
        ∧ ((∀ d ∈ s.line.inbox.head?, ∀ n f p c l, d.frame.body ≠ .announce n f p c l) →
            exec .announceReceived s = .next s)
        ∧ ((∀ d ∈ s.line.inbox.head?, ∀ n a p, d.frame.body ≠ .claim n a p) → exec .claimReceived s = .next s)
        ∧ ((∀ d ∈ s.line.inbox.head?, ∀ x n, d.frame.body ≠ .assent x n) → exec .assentReceived s = .next s)
        ∧ ((∀ d ∈ s.line.inbox.head?, ∀ x n r, d.frame.body ≠ .object x n r) → exec .objectReceived s = .next s))

/-- O40. An ANNOUNCE that brings no answer, for want of a slot (log 13) or outside ACTIVE (R14, R68): with capacity
class and lease select those of the straps, a MEMBER, SILENT or PENDING_JOIN entry that is not SUSPECT returns to
ABSENT with PEER_REJOINED, its ASSENT is withdrawn, and it is off the roll (R56); any other entry is left as its
parity check finds it. The answer to an ANNOUNCE in ACTIVE with a slot reserved (R68, R72 to R75), no check failing,
goes into the slot that holds its key, or, where none does, into the reserved one, EMPTY meanwhile (R120, log 13):
the rows of R72 in their order give the OBJECT, read on the table as R14 leaves it; where none applies it is ASSENT,
with own held cut to the ceiling of R73, SQUEEZED with the joiner, its claim number and the new held raised, and the
drive level and the HOLD slot following, the slot waiting on shed exactly if own held was cut, and the joiner's entry
PENDING_JOIN with a FLOOR earmark of 64 ms. With an OBJECT the joiner's entry is ABSENT, its hold sequence kept and
PEER_REJOINED raised, where R14 returns it, else as before, less an earmark of the claim's number (log 14). Where
OVERCOMMIT was set and the sum of held shares fits, OVERCOMMIT_CLEAR follows (R8, R93). A check that fails in this
step, at the taking of the ANNOUNCE or at the decision (R21, R68), or an entry SUSPECT before it: the failing entries
are SUSPECT from then on, PARITY raised for each (the joiner's ahead of PEER_REJOINED, the others' after it in order
of station number, log 7), SUSPECT_PRESENT is active, and the answer is OBJECT with SUSPECT, or with MISMATCH where
class or lease select differs, whose row comes first. -/
def Obligations.AnnounceIsTakenAndAnswered : Prop :=
  (∀ (j : Nat) (n : Byte) (f pr cls lease : Nat) (r : Option Nat) (rest : List Delivered) (s : State),
    s.line.inbox = { frame := { source := j, body := .announce n f pr cls lease }, reservation := r } :: rest →
    j < 24 → isPeer s j = true → s.table.entries.length = 24 → (NotDecided s j n r ∨ s.mc.station ≠ .active) →
      ((cls = s.mc.identity.capacityClass ∧ lease = s.mc.identity.leaseSelect ∧ suspectOnCheck s j = false
            ∧ (entryAt s j).stored.status ≠ .absent) →
          ∃ t, exec .announceReceived s = .next t ∧ t.table.entries = (s.rejoined j).table.entries
            ∧ ((s.table.overcommit = true ∨ sumHeld s ≤ capacity s) →
                { t.events with active := s.events.active, acked := s.events.acked } =
                  (s.events.take .peerRejoined (some j) (some n) (some (valueOf (entryAt s j).stored.held))
                      s.time.ms).takeIf (s.table.overcommit && decide (sumHeld t ≤ capacity s)) .overcommitClear none none
                    (some (valueOf (sumHeld t))) s.time.ms)
            ∧ (∀ m, (entryAt s j).stored.earmark = some m → ∀ k, answerFor s j m.number = some k →
                (answerAt s k).content = some .assent → answerAt t k = AnswerSlot.empty)
            ∧ (∀ c, s.alloc.claim = some c → j ∈ c.roll → ∀ d ∈ t.alloc.claim, j ∉ d.roll)
            ∧ t.line.inbox = rest ∧ t.mc = s.mc ∧ t.pins = s.pins ∧ t.time = s.time ∧ t.port = s.port)
      ∧ ((cls ≠ s.mc.identity.capacityClass ∨ lease ≠ s.mc.identity.leaseSelect ∨ suspectOnCheck s j = true
            ∨ (entryAt s j).stored.status = .absent) →
          ∃ t, exec .announceReceived s = .next t ∧ t.table.entries = s.table.entries.set j (entryOnCheck s j)
            ∧ ((s.table.overcommit = true ∨ sumHeld s ≤ capacity s) →
                { t.events with active := s.events.active, acked := s.events.acked } =
                  (eventsOnCheck s j).takeIf (s.table.overcommit && decide (sumHeld t ≤ capacity s)) .overcommitClear
                    none none (some (valueOf (sumHeld t))) s.time.ms)
            ∧ t.line.inbox = rest ∧ t.mc = s.mc ∧ t.pins = s.pins ∧ t.time = s.time ∧ t.port = s.port
            ∧ t.outbox.answers = s.outbox.answers))
    ∧ (∀ (j : Nat) (n : Byte) (f pr cls lease : Nat) (r : Option Nat) (rest : List Delivered) (rejoins : Bool)
      (s : State),
    s.line.inbox = { frame := { source := j, body := .announce n f pr cls lease }, reservation := r } :: rest →
    j < 24 → j ≠ s.mc.identity.number → s.table.entries.length = 24 → s.outbox.answers.length = 4 →
    s.mc.station = .active → NoCheckFails s → ∀ k, DecidedAt s j n r k → k < 4 →
    (rejoins = true ↔ cls = s.mc.identity.capacityClass ∧ lease = s.mc.identity.leaseSelect
      ∧ suspectOnCheck s j = false ∧ (entryAt s j).stored.status ≠ .absent) →
    ∀ reason, announceRow s j f cls lease = some reason →
      ∃ t, exec .announceReceived s = .next t ∧ AnswerDecided k j n (.object reason) false t
        ∧ (∀ m, (entryAt t j).stored.earmark = some m → m.number ≠ n)
        ∧ entryAt t j = (entryOnAnnounce s j rejoins).without n
        ∧ (∀ i < 24, i ≠ j → entryAt t i = entryAt s i)
        ∧ ((s.table.overcommit = true ∨ sumHeld s ≤ capacity s) →
            { t.events with active := s.events.active, acked := s.events.acked } =
              (s.events.takeIf rejoins .peerRejoined (some j) (some n) (some (valueOf (entryAt s j).stored.held))
                  s.time.ms).takeIf (s.table.overcommit && decide (sumHeld t ≤ capacity s)) .overcommitClear none none
                (some (valueOf (sumHeld t))) s.time.ms)
        ∧ t.line.inbox = rest ∧ t.mc = s.mc ∧ t.pins = s.pins ∧ t.time = s.time ∧ t.port = s.port)
    ∧ (∀ (j : Nat) (n : Byte) (f pr cls lease : Nat) (r : Option Nat) (rest : List Delivered) (agrees rejoins : Bool)
        (s : State),
      s.line.inbox = { frame := { source := j, body := .announce n f pr cls lease }, reservation := r } :: rest →
      j < 24 → j ≠ s.mc.identity.number → s.table.entries.length = 24 → s.outbox.answers.length = 4 →
      s.mc.station = .active → ∀ k, DecidedAt s j n r k → k < 4 →
      (∃ i < 24, i ≠ s.mc.identity.number ∧ suspectOnCheck s i = true) →
      (agrees = true ↔ cls = s.mc.identity.capacityClass ∧ lease = s.mc.identity.leaseSelect) →
      (rejoins = true ↔ agrees = true ∧ suspectOnCheck s j = false ∧ (entryAt s j).stored.status ≠ .absent) →
        ∃ t, exec .announceReceived s = .next t
          ∧ AnswerDecided k j n (.object (if agrees then .suspect else .mismatch)) false t
          ∧ (∀ m, (entryAt t j).stored.earmark = some m → m.number ≠ n)
          ∧ entryAt t j = (entryOnAnnounce s j rejoins).without n
          ∧ (∀ i < 24, i ≠ j → entryAt t i = if i = s.mc.identity.number then entryAt s i else entryOnCheck s i)
          ∧ t.events.active.suspectPresent = true
          ∧ ((s.table.overcommit = true ∨ sumHeld s ≤ capacity s) →
              { t.events with active := s.events.active, acked := s.events.acked } =
                (s.parityEvents j ((eventsOnCheck s j).takeIf rejoins .peerRejoined (some j) (some n)
                  (some (valueOf (entryAt s j).stored.held)) s.time.ms)).takeIf
                  (s.table.overcommit && decide (sumHeld t ≤ capacity s)) .overcommitClear none none
                  (some (valueOf (sumHeld t))) s.time.ms)
          ∧ t.line.inbox = rest ∧ t.mc = s.mc ∧ t.pins = s.pins ∧ t.time = s.time ∧ t.port = s.port)
    ∧ (∀ (j : Nat) (n : Byte) (f pr cls lease : Nat) (r : Option Nat) (rest : List Delivered) (s : State),
      s.line.inbox = { frame := { source := j, body := .announce n f pr cls lease }, reservation := r } :: rest →
      j < 24 → j ≠ s.mc.identity.number → s.table.entries.length = 24 → s.outbox.answers.length = 4 →
      s.mc.station = .active → NoCheckFails s → ∀ k, DecidedAt s j n r k → k < 4 →
      announceRow s j f cls lease = none → (s.table.overcommit = false → sumHeld s ≤ capacity s) →
        ∃ t, exec .announceReceived s = .next t
          ∧ AnswerDecided k j n .assent (decide (ceilingFor s j f < s.alloc.share.held)) t
          ∧ t.alloc.share.held = min s.alloc.share.held (ceilingFor s j f)
          ∧ (ceilingFor s j f < s.alloc.share.held →
              t.pilot.requested = (if s.pilot.faultIn then 0 else
                min (ceilingFor s j f) (min s.alloc.share.lastTx s.alloc.share.demand))
                ∧ t.outbox.hold.occupancy = .filled ∧ ∀ a ∈ t.alloc.holdAttempt, a.afterCut = false)
          ∧ (s.alloc.share.held ≤ ceilingFor s j f →
              t.pilot = s.pilot ∧ t.outbox.hold = s.outbox.hold ∧ t.alloc.holdAttempt = s.alloc.holdAttempt)
          ∧ { t.events with active := s.events.active, acked := s.events.acked } =
              ((s.events.takeIf ((entryAt s j).stored.status != .absent) .peerRejoined (some j) (some n)
                  (some (valueOf (entryAt s j).stored.held)) s.time.ms).takeIf
                (decide (ceilingFor s j f < s.alloc.share.held)) .squeezed (some j) (some n)
                (some (valueOf (ceilingFor s j f))) s.time.ms).takeIf
                (s.table.overcommit && decide (sumHeld t ≤ capacity s)) .overcommitClear none none
                (some (valueOf (sumHeld t))) s.time.ms
          ∧ entryAt t j =
              { stored :=
                  { status := .pendingJoin, held := 0, floor := f, priority := pr,
                    holdSeq := (entryAt s j).stored.holdSeq, openClaim := none,
                    earmark := some { kind := .floor, number := n, amount := f }, localFault := false,
                    overdrawn := false }
                parityGood := true, age := 0, expiry := 64, suspect := false }
          ∧ (∀ i < 24, i ≠ j → entryAt t i = entryAt s i)
          ∧ t.line.inbox = rest ∧ t.mc = s.mc ∧ t.pins = s.pins ∧ t.time = s.time ∧ t.port = s.port)

/-- O41. A CLAIM (R15, R69 to R71). Its source's entry is checked (R21); that of a MEMBER or SILENT source that is
not SUSPECT then takes the frame's priority, with or without an answer. A check that fails in this step, at the
taking of the CLAIM or at the decision (R21, R68), or an entry SUSPECT before it: the failing entries are SUSPECT
from then on, PARITY raised for each (the source's first, the others' in order of station number, log 7),
SUSPECT_PRESENT is active, and the answer is OBJECT with SUSPECT, or with NOT_MEMBER where the source's entry is
SUSPECT or no MEMBER, whose row comes first. No check failing, in ACTIVE with a slot for the decision (R120, log 13),
and the kept sums and OVERCOMMIT as the entries say: the first four rows of R69 object; then the CLAIM is assented to
while the room without the source's earmark suffices, under an INCREASE earmark of 64 ms; else an own INCREASE claim
that ranks below yields with CLAIM_ABANDONED, counted as a failure, and room without it decides; else the answer is
NO_ROOM. Whatever the answer, the source's entry is as the taking of the CLAIM left it, with the new earmark of an
ASSENT, or, after an OBJECT, without an earmark for the claim (R16, R70), and no event but those named is raised;
where OVERCOMMIT was set and a failed check makes the sum of held shares fit, OVERCOMMIT_CLEAR follows (R8, R93). -/
def Obligations.ClaimIsTakenAndAnswered : Prop :=
  (∀ (x : Nat) (n : Byte) (a pr : Nat) (r : Option Nat) (rest : List Delivered) (s : State),
    s.line.inbox = { frame := { source := x, body := .claim n a pr }, reservation := r } :: rest →
    x < 24 → isPeer s x = true → s.table.entries.length = 24 → (NotDecided s x n r ∨ s.mc.station ≠ .active) →
      ∃ t, exec .claimReceived s = .next t
        ∧ entryAt t x = entryOnClaim s x pr
        ∧ ((s.table.overcommit = true ∨ sumHeld s ≤ capacity s) →
            { t.events with active := s.events.active, acked := s.events.acked } =
              (eventsOnCheck s x).takeIf (s.table.overcommit && decide (sumHeld t ≤ capacity s)) .overcommitClear none
                none (some (valueOf (sumHeld t))) s.time.ms)
        ∧ (∀ i < 24, i ≠ x → entryAt t i = entryAt s i) ∧ t.outbox.answers = s.outbox.answers
        ∧ t.line.inbox = rest ∧ t.mc = s.mc ∧ t.pins = s.pins ∧ t.time = s.time ∧ t.port = s.port)
    ∧ (∀ (x : Nat) (n : Byte) (a pr : Nat) (r : Option Nat) (rest : List Delivered) (s : State),
      s.line.inbox = { frame := { source := x, body := .claim n a pr }, reservation := r } :: rest →
      x < 24 → x ≠ s.mc.identity.number → s.table.entries.length = 24 → s.outbox.answers.length = 4 →
      s.mc.station = .active → ∀ k, DecidedAt s x n r k → k < 4 →
      (∃ i < 24, i ≠ s.mc.identity.number ∧ suspectOnCheck s i = true) →
        ∃ t, exec .claimReceived s = .next t
          ∧ AnswerDecided k x n (.object (if suspectOnCheck s x = true ∨ (entryAt s x).stored.status ≠ .member then
              .notMember else .suspect)) false t
          ∧ (∀ m, (entryAt t x).stored.earmark = some m → m.number ≠ n)
          ∧ entryAt t x = (entryOnClaim s x pr).without n
          ∧ (∀ i < 24, i ≠ x → entryAt t i = if i = s.mc.identity.number then entryAt s i else entryOnCheck s i)
          ∧ t.events.active.suspectPresent = true
          ∧ ((s.table.overcommit = true ∨ sumHeld s ≤ capacity s) →
              { t.events with active := s.events.active, acked := s.events.acked } =
                (s.parityEvents x (eventsOnCheck s x)).takeIf
                  (s.table.overcommit && decide (sumHeld t ≤ capacity s)) .overcommitClear none none
                  (some (valueOf (sumHeld t))) s.time.ms)
          ∧ t.line.inbox = rest ∧ t.mc = s.mc ∧ t.pins = s.pins ∧ t.time = s.time ∧ t.port = s.port)
    ∧ (∀ (x : Nat) (n : Byte) (a pr : Nat) (r : Option Nat) (rest : List Delivered) (s : State),
      s.line.inbox = { frame := { source := x, body := .claim n a pr }, reservation := r } :: rest →
      x < 24 → x ≠ s.mc.identity.number → s.table.entries.length = 24 → s.outbox.answers.length = 4 → Settled s →
      s.mc.station = .active → ∀ k, DecidedAt s x n r k → k < 4 → ∀ reason, claimBar s x = some reason →
        ∃ t, exec .claimReceived s = .next t ∧ AnswerDecided k x n (.object reason) false t
          ∧ (∀ m, (entryAt t x).stored.earmark = some m → m.number ≠ n)
          ∧ entryAt t x = (entryOnClaim s x pr).without n
          ∧ (∀ i < 24, i ≠ x → entryAt t i = entryAt s i) ∧ (∀ c, s.alloc.claim = some c → t.alloc = s.alloc)
          ∧ t.alloc.share.held = s.alloc.share.held
          ∧ { t.events with active := s.events.active, acked := s.events.acked } = s.events
          ∧ t.line.inbox = rest ∧ t.mc = s.mc ∧ t.pins = s.pins ∧ t.time = s.time ∧ t.port = s.port)
    ∧ (∀ (x : Nat) (n : Byte) (a pr : Nat) (r : Option Nat) (rest : List Delivered) (s : State),
      s.line.inbox = { frame := { source := x, body := .claim n a pr }, reservation := r } :: rest →
      x < 24 → x ≠ s.mc.identity.number → s.table.entries.length = 24 → s.outbox.answers.length = 4 → Settled s →
      s.mc.station = .active → ∀ k, DecidedAt s x n r k → k < 4 → claimBar s x = none → a ≤ roomWithout s x →
        ∃ t, exec .claimReceived s = .next t ∧ AnswerDecided k x n .assent false t
          ∧ entryAt t x =
              { entryAt s x with
                stored :=
                  { (entryAt s x).stored with
                    priority := pr, earmark := some { kind := .increase, number := n, amount := a } }
                expiry := 64 }
          ∧ (∀ i < 24, i ≠ x → entryAt t i = entryAt s i) ∧ t.alloc.share.held = s.alloc.share.held
          ∧ (∀ c, s.alloc.claim = some c → t.alloc = s.alloc)
          ∧ { t.events with active := s.events.active, acked := s.events.acked } = s.events
          ∧ (∀ m, (entryAt s x).stored.earmark = some m → m.number ≠ n → ∀ j, answerFor s x m.number = some j → j ≠ k →
              (answerAt s j).content = some .assent → answerAt t j = AnswerSlot.empty)
          ∧ t.line.inbox = rest ∧ t.mc = s.mc ∧ t.pins = s.pins ∧ t.time = s.time ∧ t.port = s.port)
    ∧ (∀ (x : Nat) (n : Byte) (a pr : Nat) (r : Option Nat) (rest : List Delivered) (s : State),
      s.line.inbox = { frame := { source := x, body := .claim n a pr }, reservation := r } :: rest →
      x < 24 → x ≠ s.mc.identity.number → s.table.entries.length = 24 → s.outbox.answers.length = 4 → Settled s →
      s.mc.station = .active → ∀ k, DecidedAt s x n r k → k < 4 → claimBar s x = none → roomWithout s x < a →
      ∀ c, s.alloc.claim = some c → c.kind = .increase →
      (s.alloc.share.priority < pr ∨ (pr = s.alloc.share.priority ∧ x < s.mc.identity.number)) →
        ∃ t, exec .claimReceived s = .next t ∧ t.alloc.claim = none ∧ t.outbox.claim = ClaimSlot.empty
          ∧ t.alloc.share = (claimCounted s).share
          ∧ t.events.queue = (s.events.take .claimAbandoned none (some c.number)
              (some (BitVec.ofNat 16 (256 * 1 + 12))) s.time.ms).queue
          ∧ (a ≤ roomWithout { s with alloc := { s.alloc with claim := none } } x →
              AnswerDecided k x n .assent false t
                ∧ entryAt t x =
                    { entryAt s x with
                      stored :=
                        { (entryAt s x).stored with
                          priority := pr, earmark := some { kind := .increase, number := n, amount := a } }
                      expiry := 64 }
                ∧ (∀ m, (entryAt s x).stored.earmark = some m → m.number ≠ n → ∀ j, answerFor s x m.number = some j →
                    j ≠ k → (answerAt s j).content = some .assent → answerAt t j = AnswerSlot.empty))
          ∧ (roomWithout { s with alloc := { s.alloc with claim := none } } x < a →
              AnswerDecided k x n (.object .noRoom) false t
                ∧ (∀ m, (entryAt t x).stored.earmark = some m → m.number ≠ n)
                ∧ entryAt t x = (entryOnClaim s x pr).without n)
          ∧ (∀ i < 24, i ≠ x → entryAt t i = entryAt s i)
          ∧ t.line.inbox = rest ∧ t.mc = s.mc ∧ t.pins = s.pins ∧ t.time = s.time ∧ t.port = s.port)
    ∧ (∀ (x : Nat) (n : Byte) (a pr : Nat) (r : Option Nat) (rest : List Delivered) (s : State),
      s.line.inbox = { frame := { source := x, body := .claim n a pr }, reservation := r } :: rest →
      x < 24 → x ≠ s.mc.identity.number → s.table.entries.length = 24 → s.outbox.answers.length = 4 → Settled s →
      s.mc.station = .active → ∀ k, DecidedAt s x n r k → k < 4 → claimBar s x = none → roomWithout s x < a →
      (∀ c ∈ s.alloc.claim, c.kind = .increase →
        pr ≤ s.alloc.share.priority ∧ (pr = s.alloc.share.priority → s.mc.identity.number ≤ x)) →
        ∃ t, exec .claimReceived s = .next t ∧ AnswerDecided k x n (.object .noRoom) false t
          ∧ (∀ m, (entryAt t x).stored.earmark = some m → m.number ≠ n)
          ∧ entryAt t x = (entryOnClaim s x pr).without n
          ∧ (∀ i < 24, i ≠ x → entryAt t i = entryAt s i) ∧ (∀ c, s.alloc.claim = some c → t.alloc = s.alloc)
          ∧ t.alloc.share.held = s.alloc.share.held
          ∧ { t.events with active := s.events.active, acked := s.events.acked } = s.events
          ∧ t.line.inbox = rest ∧ t.mc = s.mc ∧ t.pins = s.pins ∧ t.time = s.time ∧ t.port = s.port)

/-- O42. An ASSENT (R57, R58): in AWAITING, addressed to this station's open claim and from a roll member that has
not assented, it joins the assents received; when it covers the roll the claim is COMMITTING and the HOLD slot
filled. Any other ASSENT changes nothing. The taking of a frame ends as an update of the table either way (R5, R7; log
36). -/
def Obligations.AssentsCoverTheRoll : Prop :=
  ∀ (x target : Nat) (n : Byte) (r : Option Nat) (rest : List Delivered) (s : State),
    s.line.inbox = { frame := { source := x, body := .assent target n }, reservation := r } :: rest →
      (∀ c, s.alloc.claim = some c → c.phase = .awaiting → target = s.mc.identity.number → n = c.number → x ∈ c.roll →
          x ∉ c.assents →
            ((∃ i ∈ c.roll, i ≠ x ∧ i ∉ c.assents) →
                exec .assentReceived s = .next (endUpdate none
                  { s with
                    line := { s.line with inbox := rest }
                    alloc := { s.alloc with claim := some { c with assents := c.assents ++ [x] } } }))
            ∧ ((∀ i ∈ c.roll, i = x ∨ i ∈ c.assents) →
                exec .assentReceived s = .next (endUpdate none
                  { s with
                    line := { s.line with inbox := rest }
                    alloc :=
                      { s.alloc with claim := some { c with assents := c.assents ++ [x], phase := .committing } }
                    outbox :=
                      { s.outbox with
                        hold :=
                          if (s.mc.station = .active ∨ s.mc.station = .joining) ∧ s.outbox.hold.occupancy ≠ .filled then
                            { occupancy := .filled, attempts := 0, inFlight := false, resting := false }
                          else s.outbox.hold } })))
      ∧ ((∀ c ∈ s.alloc.claim, c.phase ≠ .awaiting ∨ target ≠ s.mc.identity.number ∨ n ≠ c.number ∨ x ∉ c.roll
            ∨ x ∈ c.assents) →
          exec .assentReceived s = .next (endUpdate none { s with line := { s.line with inbox := rest } }))

/-- O43. An OBJECT (R16, R35, R61, R76, R78): the earmark for the claim it names goes from the claimant's entry, and
a PENDING_JOIN entry with it, ABSENT with its hold sequence and SUSPECT kept; any other entry keeps all but the
earmark, no other entry changes, nor the station state nor, while the sum of held shares fits or OVERCOMMIT is set
already, the own share (its claim number counter moves on where the update ends with a claim start, R53), and nothing
is raised but the PARITY of a check that fails, then (log 7) OVERCOMMIT_CLEAR where OVERCOMMIT was set and the sum
fits (R8, R21, R93), where the claim named is not the own one; an answer of this station for that claim, ASSENT or
OBJECT, is withdrawn and an attempt of it cut (log 30); if the claim is the own one it fails at once, an INCREASE
claim counted (R64), a join to FAULT for MISMATCH and to WAITING for every other reason. An OBJECT that names nothing
here changes nothing but what an update ends with. An entry whose earmark has another number is left unchecked,
whatever its parity, by the model's choice (log 31). -/
def Obligations.ObjectEndsTheClaimItNames : Prop :=
  ∀ (x target : Nat) (n : Byte) (reason : ObjectReason) (r : Option Nat) (rest : List Delivered) (s : State),
    s.line.inbox = { frame := { source := x, body := .object target n reason }, reservation := r } :: rest →
    s.table.entries.length = 24 → s.outbox.answers.length = 4 →
      (holdsEarmark s target n = true → target < 24 →
          ∃ t, exec .objectReceived s = .next t
            ∧ (entryAt t target).stored.earmark = none
            ∧ ((entryAt s target).stored.status = .pendingJoin → (entryAt t target).stored.status = .absent)
            ∧ (∀ k, answerFor s target n = some k → (∀ j < 4, j ≠ k → (answerAt s j).key ≠ some (target, n)) →
                answerAt t k = AnswerSlot.empty
                ∧ (∀ a, s.line.tx = .sending a → a.live = true → a.slot = .answer k →
                    t.line.tx = .marking a (max 16 (a.sent + 1)))
                ∧ ((target ≠ s.mc.identity.number ∨ ∀ c ∈ s.alloc.claim, c.number ≠ n) →
                    ∀ j < 4, j ≠ k → answerAt t j = answerAt s j))
            ∧ ((target ≠ s.mc.identity.number ∨ ∀ c ∈ s.alloc.claim, c.number ≠ n) →
                entryAt t target =
                    (if (entryAt s target).stored.status = .pendingJoin then
                      { stored := { Stored.empty with holdSeq := (entryAt s target).stored.holdSeq }, parityGood := true,
                        age := 0, expiry := 0, suspect := suspectOnCheck s target }
                    else
                      { entryOnCheck s target with
                        stored := { (entryAt s target).stored with earmark := none }
                        parityGood := true
                        expiry := 0 })
                  ∧ (∀ i < 24, i ≠ target → entryAt t i = entryAt s i) ∧ t.mc = s.mc ∧ t.line.inbox = rest
                  ∧ (answerFor s target n = none → t.outbox.answers = s.outbox.answers)
                  ∧ ((s.table.overcommit = true ∨ sumHeld s ≤ capacity s) →
                      { t.alloc.share with claimCounter := s.alloc.share.claimCounter } = s.alloc.share
                        ∧ (∀ c, s.alloc.claim = some c → t.alloc = s.alloc) ∧ t.pilot = s.pilot
                        ∧ t.outbox.hold = s.outbox.hold
                        ∧ { t.events with active := s.events.active, acked := s.events.acked } =
                            (eventsOnCheck s target).takeIf (s.table.overcommit && decide (sumHeld t ≤ capacity s))
                              .overcommitClear none none (some (valueOf (sumHeld t))) s.time.ms))
            ∧ t.line.inbox.length = rest.length ∧ t.pins = s.pins ∧ t.time = s.time ∧ t.port = s.port)
      ∧ (∀ k, holdsEarmark s target n = false → answerFor s target n = some k →
          (target ≠ s.mc.identity.number ∨ ∀ c ∈ s.alloc.claim, c.number ≠ n) →
            exec .objectReceived s = .next (endUpdate none
              { s with
                line := { s.line with inbox := rest, tx := s.line.tx.cutFrom (.answer k) }
                outbox :=
                  { s.outbox with
                    answers := s.outbox.answers.set k AnswerSlot.empty
                    answerList := s.outbox.answerList.filter (fun j => j != k) } }))
      ∧ ((holdsEarmark s target n = false ∧ answerFor s target n = none) →
          ∀ c, s.alloc.claim = some c → target = s.mc.identity.number → n = c.number →
            (c.kind = .increase →
                exec .objectReceived s = .next (endUpdate none
                  { s with
                    alloc := claimCounted s
                    outbox := { s.outbox with claim := ClaimSlot.empty }
                    line := { s.line with inbox := rest, tx := s.line.tx.cutFrom .claim }
                    events := s.events.take .claimFailed (some x) (some c.number)
                      (some (BitVec.ofNat 16 (256 * 1 + reason.code))) s.time.ms }))
            ∧ (c.kind = .floor →
                ∃ t, exec .objectReceived s = .next t ∧ t.alloc.claim = none
                  ∧ t.mc.station = (if reason = .mismatch then .fault else .waiting)
                  ∧ t.alloc.share.failures = s.alloc.share.failures ∧ t.alloc.share.backoff = s.alloc.share.backoff))
      ∧ ((holdsEarmark s target n = false ∧ answerFor s target n = none
            ∧ (target ≠ s.mc.identity.number ∨ ∀ c ∈ s.alloc.claim, c.number ≠ n)) →
          exec .objectReceived s = .next (endUpdate none { s with line := { s.line with inbox := rest } }))

/-! ## The Local Port -/

/-- O44. Transactions (R172, R176, R177, R179, R180, R187). SEL_N falling in IDLE opens one, and the bits taken from
SDI fill the request buffer, most significant bit of each byte first, up to the bit that completes a request, which
comes with the command that decodes it; in RESET and outside IDLE none is taken and the level of SEL_N alone
changes. The bits that SDI gives in each transaction stand in the state, as the queue of commands does, and pass
with it (log 16). SEL_N rising ends one: cut short in REQUEST with no effect; in RESPONSE broken before the last
response bit, when a pop in progress becomes absent; whole after it, when the effect owed is made: the recorded
entry leaves the head of the event queue, or, if it was discarded and the head carries the next number, the head's
mark is cleared; the captured amount leaves the meter; the snapshot request returns to NONE. (A decoded HARD_RESET
is O4's.) SDO is at high impedance while SEL_N is high, in RESET and in IGNORE (R177, R179); after the decode it
carries the response, most significant bit of each byte first, then zeros; before its first bit it is driven at a
level that the manual does not give (log 29). -/
def Obligations.TransactionsBeginAndEnd : Prop :=
  (∀ (sdi : List Bool) (s : State), sdi = s.pins.sdi.headD [] → s.mc.station ≠ .reset → s.pins.selN = true →
    s.port.transaction = .idle →
      ∃ t, exec .transactionStart s = .next t
        ∧ t.port.transaction = .request ∧ t.port.response = [] ∧ t.port.atEnd = .none ∧ t.port.bits.length < 8
        ∧ requestOf t.port.request = none
        ∧ (portBits t.port.request ++ t.port.bits = sdi
          ∨ ∃ b p, (portBits t.port.request ++ t.port.bits) ++ [b] = portBits p ∧ portBits p <+: sdi
            ∧ requestOf p ≠ none)
        ∧ { t with pins := s.pins, port := s.port } = s
        ∧ t.pins = { s.pins with selN := false, sdi := s.pins.sdi.tail }
        ∧ t.port.fifo = s.port.fifo ∧ t.port.snapRequest = s.port.snapRequest ∧ t.port.snapshot = s.port.snapshot)
    ∧ (∀ s : State, (s.mc.station = .reset ∨ s.port.transaction ≠ .idle) → s.pins.selN = true →
        exec .transactionStart s = .next { s with pins := { s.pins with selN := false, sdi := s.pins.sdi.tail } })
    ∧ (∀ s : State, s.mc.station = .reset →
        ∀ shifted, exec (.transactionEnd shifted) s = .next { s with pins := { s.pins with selN := true } })
    ∧ (∀ s : State, (s.pins.selN = false → exec .transactionStart s = .next s)
        ∧ (s.pins.selN = true → ∀ shifted, exec (.transactionEnd shifted) s = .next s))
    ∧ (∀ (shifted : Nat) (s : State), s.mc.station ≠ .reset → s.pins.selN = false → s.port.transaction ≠ .response →
        exec (.transactionEnd shifted) s = .next
          { s with
            pins := { s.pins with selN := true }
            port := { s.port with transaction := .idle, request := [], bits := [], response := [], atEnd := .none } })
    ∧ (∀ (shifted : Nat) (s : State), s.mc.station ≠ .reset → s.pins.selN = false → s.port.transaction = .response →
        shifted < 8 * s.port.response.length → s.port.atEnd ≠ .hardReset →
          exec (.transactionEnd shifted) s = .next
            { s with
              pins := { s.pins with selN := true }
              port := { s.port with transaction := .idle, request := [], bits := [], response := [], atEnd := .none }
              events := { s.events with popping := if s.port.atEnd = .pop then none else s.events.popping } })
    ∧ (∀ (shifted : Nat) (s : State), s.mc.station ≠ .reset → s.pins.selN = false → s.port.transaction = .response →
        8 * s.port.response.length ≤ shifted →
          (s.port.atEnd = .none →
              exec (.transactionEnd shifted) s = .next
                { s with
                  pins := { s.pins with selN := true }
                  port := { s.port with transaction := .idle, request := [], bits := [], response := [], atEnd := .none } })
          ∧ (∀ captured, s.port.atEnd = .meterClear captured →
              exec (.transactionEnd shifted) s = .next
                { s with
                  pins := { s.pins with selN := true }
                  port := { s.port with transaction := .idle, request := [], bits := [], response := [], atEnd := .none }
                  pilot := { s.pilot with meter := s.pilot.meter - captured } })
          ∧ (s.port.atEnd = .snapshotDelivered →
              exec (.transactionEnd shifted) s = .next
                { s with
                  pins := { s.pins with selN := true }
                  port :=
                    { s.port with
                      transaction := .idle, request := [], bits := [], response := [], atEnd := .none, snapRequest := .none } })
          ∧ (s.port.atEnd = .pop → ∃ t, exec (.transactionEnd shifted) s = .next t ∧ t.events.popping = none
              ∧ (∀ n, s.events.popping = some n → ∀ e, s.events.queue.head? = some e →
                  (e.seq = n → t.events.queue = s.events.queue.tail)
                    ∧ (e.seq ≠ n → e.seq = n + 1 →
                        t.events.queue = { e with lossBefore := false } :: s.events.queue.tail)
                    ∧ (e.seq ≠ n → e.seq ≠ n + 1 → t.events.queue = s.events.queue))
              ∧ ((s.events.popping = none ∨ s.events.queue = []) → t.events.queue = s.events.queue)
              ∧ t.pins = { s.pins with selN := true }
              ∧ t.port =
                  { s.port with transaction := .idle, request := [], bits := [], response := [], atEnd := .none }
              ∧ { t with pins := s.pins, port := s.port, events := s.events } = s
              ∧ { t.events with queue := s.events.queue, popping := s.events.popping } = s.events))
    ∧ (∀ (n : Nat) (s : State),
        ((s.mc.station = .reset ∨ s.pins.selN = true ∨ s.port.transaction = .idle ∨ s.port.transaction = .ignore) →
            sdo s n = .highImpedance)
        ∧ (s.mc.station ≠ .reset → s.pins.selN = false →
            (s.port.transaction = .response →
                sdo s (n + 1) = .driven ((s.port.response[n / 8]?.getD 0).getLsbD (7 - n % 8)))
              ∧ ((s.port.transaction = .request ∨ (s.port.transaction = .response ∧ n = 0)) →
                ∃ level, sdo s n = .driven level)))

/-- O45. The immediate requests (R144, R157, R169, R171, R172, R178, R181, R188, R190), decoded when their last bit
is taken: each changes what its rule says and leaves its response, a code and as many data bytes as the command
fixes. FEED restarts a running watchdog and gives the count before it; ACK_ALERT adds the active conditions to the
acknowledged set; EVENT_PEEK and EVENT_POP give the head entry, and EVENT_POP records it; STATUS, with the sums that
the last update of the table kept (R7), ENTRY_READ and METER_READ read; the bytes of an EMPTY response are 0 (log
33); HARD_RESET waits for SEL_N. The records they carry, byte by byte (R192, R193): the 96 bytes of the status
record, the entry count and the nine bytes of an event entry, the fourteen bytes of a snapshot entry, the bytes of
the active and the acknowledged set, and the codes that these use. Bits to which R192 and R193 give no value are 0 by
the model's choice (log 41). -/
def Obligations.ImmediateRequestsActAtTheDecode : Prop :=
  (∀ s : State,
    (s.outbox.answers.length = 4 → Hears s [1] → exec .status s = .next
        { s with port :=
          { s.port with transaction := .response, request := [1], bits := [], response := 1 :: statusBytes s,
                         atEnd := .none } })
      ∧ (s.outbox.answers.length = 4 → (statusBytes s).length = 96)
      ∧ (∀ a1 a2 a3 a4 : AnswerSlot, s.outbox.answers = [a1, a2, a3, a4] →
          statusBytes s =
            [BitVec.ofNat 8 s.mc.identity.number, if s.mc.identity.valid then 1 else 0,
             BitVec.ofNat 8 s.mc.identity.capacityClass,
             BitVec.ofNat 8 (capacity s / 256), BitVec.ofNat 8 (capacity s), BitVec.ofNat 8 s.mc.identity.leaseSelect,
             BitVec.ofNat 8 s.mc.station.code, if s.mc.configured then 1 else 0, if s.mc.duplicate then 1 else 0,
             BitVec.ofNat 8 ((s.mc.request.first.map Target.code).getD 0 + 4 * s.mc.request.taken.toNat
                + 8 * s.mc.request.behind.toNat),
             ((s.mc.lastResolution.map Resolution.code).getD 0xFFFF).extractLsb' 8 8,
             ((s.mc.lastResolution.map Resolution.code).getD 0xFFFF).extractLsb' 0 8,
             BitVec.ofNat 8 s.mc.census, BitVec.ofNat 8 s.mc.retry,
             BitVec.ofNat 8 (s.alloc.share.held / 256), BitVec.ofNat 8 s.alloc.share.held,
             BitVec.ofNat 8 (s.alloc.share.lastTx / 256), BitVec.ofNat 8 s.alloc.share.lastTx,
             BitVec.ofNat 8 s.alloc.share.floor, BitVec.ofNat 8 s.alloc.share.priority,
             BitVec.ofNat 8 (s.alloc.share.demand / 256), BitVec.ofNat 8 s.alloc.share.demand,
             s.alloc.share.holdSeq, s.alloc.share.claimCounter, BitVec.ofNat 8 s.alloc.share.silence,
             BitVec.ofNat 8 s.alloc.share.failures,
             BitVec.ofNat 8 ((s.alloc.share.backoff.getD 0xFFFF) / 256),
             BitVec.ofNat 8 (s.alloc.share.backoff.getD 0xFFFF),
             BitVec.ofNat 8 (s.pilot.requested / 256), BitVec.ofNat 8 s.pilot.requested,
             if s.alloc.claim.isSome then 1 else 0,
             BitVec.ofNat 8 ((s.alloc.claim.map (fun c => claimKindCode c.kind)).getD 0),
             (s.alloc.claim.map (fun c => c.number)).getD 0,
             BitVec.ofNat 8 ((s.alloc.claim.map (fun c => c.amount / 256)).getD 0),
             BitVec.ofNat 8 ((s.alloc.claim.map (fun c => c.amount)).getD 0),
             BitVec.ofNat 8 ((s.alloc.claim.map (fun c => c.phase.code)).getD 0),
             BitVec.ofNat 8 ((s.alloc.claim.map (fun c => c.roll.length)).getD 0),
             BitVec.ofNat 8 ((s.alloc.claim.map (fun c => c.assents.length)).getD 0),
             BitVec.ofNat 8 ((s.alloc.claim.map (fun c => c.inFlight.toNat)).getD 0),
             BitVec.ofNat 8 (s.table.sums.held / 16777216), BitVec.ofNat 8 (s.table.sums.held / 65536),
             BitVec.ofNat 8 (s.table.sums.held / 256), BitVec.ofNat 8 s.table.sums.held,
             BitVec.ofNat 8 (s.table.sums.earmark / 16777216), BitVec.ofNat 8 (s.table.sums.earmark / 65536),
             BitVec.ofNat 8 (s.table.sums.earmark / 256), BitVec.ofNat 8 s.table.sums.earmark,
             BitVec.ofNat 8 (s.table.sums.floor / 256), BitVec.ofNat 8 s.table.sums.floor,
             BitVec.ofNat 8 (s.table.sums.room / 256), BitVec.ofNat 8 s.table.sums.room,
             if s.table.overcommit then 1 else 0, BitVec.ofNat 8 s.table.sums.valid,
             BitVec.ofNat 8 s.table.sums.suspect,
             BitVec.ofNat 8 (64 * s.outbox.hold.occupancy.code + 32 * s.outbox.hold.resting.toNat + s.outbox.hold.attempts),
             BitVec.ofNat 8 (64 * s.outbox.claim.occupancy.code + s.outbox.claim.attempts),
             BitVec.ofNat 8 (64 * a1.occupancy.code + a1.attempts),
             BitVec.ofNat 8 (64 * a2.occupancy.code + a2.attempts),
             BitVec.ofNat 8 (64 * a3.occupancy.code + a3.attempts),
             BitVec.ofNat 8 (64 * a4.occupancy.code + a4.attempts),
             s.time.ms.extractLsb' 8 8, s.time.ms.extractLsb' 0 8, BitVec.ofNat 8 s.time.watchdog.interval,
             if s.time.watchdog.lock then 1 else 0,
             BitVec.ofNat 8 ((if s.time.watchdog.interval = 0 then 0 else s.time.watchdog.remaining) / 256),
             BitVec.ofNat 8 (if s.time.watchdog.interval = 0 then 0 else s.time.watchdog.remaining),
             BitVec.ofNat 8 s.pilot.mode.code, BitVec.ofNat 8 (s.pilot.drive / 256), BitVec.ofNat 8 s.pilot.drive,
             BitVec.ofNat 8 (s.pilot.duty / 256), BitVec.ofNat 8 s.pilot.duty,
             BitVec.ofNat 8 s.pilot.applied.code, if s.pilot.faultIn then 1 else 0, if s.pilot.loadIn then 1 else 0,
             BitVec.ofNat 8 s.events.queue.length, s.events.nextSeq, s.events.active.byte, s.events.acked.byte,
             if attnAsserted s.events then 1 else 0, if alertAsserted s.events then 1 else 0,
             BitVec.ofNat 8 s.port.fifo.length,
             if s.port.fifo.any (fun q => match q with | .demand _ => true | _ => false) then 1 else 0,
             if s.port.fifo.any (fun q => match q with | .stateRequest _ => true | _ => false) then 1 else 0,
             BitVec.ofNat 8 s.port.snapRequest.code,
             BitVec.ofNat 8 ((s.port.snapshot.map (fun n => n.number.toNat)).getD 0xFFFF / 256),
             BitVec.ofNat 8 ((s.port.snapshot.map (fun n => n.number.toNat)).getD 0xFFFF),
             0, 0, 0, 0, 0, 0, 0, 0, 0, 0])
      ∧ (Hears s [2] → exec .feed s = .next
        { s with
          time :=
            { s.time with
              watchdog :=
                if s.time.watchdog.interval = 0 then s.time.watchdog
                else { s.time.watchdog with remaining := 10 * s.time.watchdog.interval } }
          port :=
            { s.port with
              transaction := .response, request := [2], bits := [], atEnd := .none
              response :=
                if s.time.watchdog.interval = 0 then [1, 0, 0, 0]
                else [1, BitVec.ofNat 8 (s.time.watchdog.remaining / 256), BitVec.ofNat 8 s.time.watchdog.remaining,
                  BitVec.ofNat 8 s.time.watchdog.interval] } })
      ∧ (Hears s [3] → ∃ t, exec .ackAlert s = .next t
          ∧ (∀ c, t.events.acked.has c = (s.events.acked.has c || s.events.active.has c))
          ∧ t.port = { s.port with
              transaction := .response, request := [3], bits := []
              response := [1, t.events.active.byte, t.events.acked.byte]
              atEnd := .none }
          ∧ { t with events := s.events, port := s.port } = s
          ∧ { t.events with acked := s.events.acked } = s.events)
      ∧ (Hears s [4] → exec .eventPeek s = .next
        { s with port :=
          { s.port with transaction := .response, request := [4], bits := [], response := 1 :: headBytes s.events,
                        atEnd := .none } })
      ∧ (Hears s [5] → exec .eventPop s = .next
        { s with
          port :=
            { s.port with transaction := .response, request := [5], bits := [], response := 1 :: headBytes s.events,
                          atEnd := .pop }
          events := { s.events with popping := s.events.queue.head?.map (fun e => e.seq) } })
      ∧ (headBytes s.events).length = 10 ∧ (s.events.queue = [] → headBytes s.events = List.replicate 10 0)
      ∧ (∀ e rest, s.events.queue = e :: rest →
          headBytes s.events = BitVec.ofNat 8 s.events.queue.length :: e.bytes)
      ∧ (∀ n : Byte, Hears s [7, n] → n.toNat < 24 →
          (s.port.snapshot = none → exec (.entryRead n) s = .next
            { s with port :=
              { s.port with
                transaction := .response, request := [7, n], bits := [], response := 6 :: 1 :: List.replicate 14 0
                atEnd := .none } })
          ∧ (∀ copy, s.port.snapshot = some copy → exec (.entryRead n) s = .next
            { s with port :=
              { s.port with
                transaction := .response, request := [7, n], bits := [], atEnd := .none
                response := 1 :: copy.number :: (copy.entries[n.toNat]?.getD Entry.empty).bytes } }))
      ∧ (∀ flag : Byte, Hears s [8, flag] → (flag = 0 ∨ flag = 1) → exec (.meterRead flag) s = .next
        { s with port :=
          { s.port with
            transaction := .response, request := [8, flag], bits := []
            response := [1, s.pilot.meter.extractLsb' 24 8, s.pilot.meter.extractLsb' 16 8,
              s.pilot.meter.extractLsb' 8 8, s.pilot.meter.extractLsb' 0 8]
            atEnd := if flag = 1 then .meterClear s.pilot.meter else .none } })
      ∧ (Hears s [9] → exec .hardReset s = .next
        { s with port :=
          { s.port with transaction := .response, request := [9], bits := [], response := [1], atEnd := .hardReset } }))
    ∧ (∀ a : AlertSet, a.byte = BitVec.ofNat 8 (a.overcommit.toNat + 2 * a.fenced.toNat + 4 * a.fault.toNat
        + 8 * a.duplicate.toNat + 16 * a.suspectPresent.toNat + 32 * a.faultIn.toNat))
    ∧ (∀ e : Event, e.bytes =
        [e.seq, BitVec.ofNat 8 e.kind.code,
         BitVec.ofNat 8 (e.kind.cls.number + 16 * e.value.isSome.toNat + 32 * e.claim.isSome.toNat
           + 64 * e.station.isSome.toNat + 128 * e.lossBefore.toNat),
         BitVec.ofNat 8 (e.station.getD 0), e.claim.getD 0, (e.value.getD 0).extractLsb' 8 8,
         (e.value.getD 0).extractLsb' 0 8, e.time.extractLsb' 8 8, e.time.extractLsb' 0 8])
    ∧ (∀ e : Entry, e.bytes =
        [BitVec.ofNat 8 (statusCode e.stored.status), BitVec.ofNat 8 (e.stored.held / 256), BitVec.ofNat 8 e.stored.held,
         BitVec.ofNat 8 e.stored.floor, BitVec.ofNat 8 e.stored.priority, e.stored.holdSeq,
         BitVec.ofNat 8 (e.stored.localFault.toNat + 2 * e.stored.overdrawn.toNat + 4 * e.suspect.toNat
           + 8 * e.stored.openClaim.isSome.toNat),
         e.stored.openClaim.getD 0, BitVec.ofNat 8 e.age,
         (e.stored.earmark.map (fun m => if m.kind = .floor then 1 else 2)).getD 0,
         (e.stored.earmark.map (fun m => m.number)).getD 0,
         BitVec.ofNat 8 ((e.stored.earmark.map (fun m => m.amount)).getD 0 / 256),
         BitVec.ofNat 8 ((e.stored.earmark.map (fun m => m.amount)).getD 0),
         if e.stored.earmark.isSome then BitVec.ofNat 8 e.expiry else 0])
    ∧ ([StationState.reset, .monitor, .offline, .census, .joining, .waiting, .active, .leaving, .detached, .fenced,
          .fault].map StationState.code = [0, 1, 2, 3, 4, 5, 6, 7, 8, 9, 10]
        ∧ [EntryStatus.absent, .pendingJoin, .member, .silent].map statusCode = [0, 1, 2, 3]
        ∧ [EventKind.stateChanged, .peerJoined, .peerRejoined, .peerSilent, .peerAbsent, .peerLeft, .duplicate,
            .claimCommitted, .claimFailed, .claimLapsed, .claimAbandoned, .answerDropped, .answerExpired, .shareChanged,
            .squeezed, .overcommitSet, .overcommitClear, .peerOverdraw, .peerFault, .frameBad, .txGaveUp, .commandDone,
            .commandRefused, .watchdogExpired, .faultInChanged, .parity].map EventKind.code
          = [1, 2, 3, 4, 5, 6, 7, 8, 9, 10, 11, 12, 13, 14, 15, 16, 17, 18, 19, 20, 21, 22, 23, 24, 25, 26]
        ∧ [EventClass.membership, .claim, .answer, .share, .line, .loc, .table].map EventClass.number
          = [0, 1, 2, 3, 4, 5, 6]
        ∧ [EndReason.noRoom, .notMember, .suspect, .busy, .silentPeer, .floorsFull, .mismatch, .noAnswer, .txFailed,
            .demandDrop, .overcommit, .yielded, .stateChange].map EndReason.code
          = [1, 2, 3, 4, 5, 6, 7, 8, 9, 10, 11, 12, 13]
        ∧ [BadClass.format, .source, .check, .ending].map BadClass.code = [1, 2, 3, 4]
        ∧ [ClaimKind.floor, .increase].map claimKindCode = [0, 1]
        ∧ [Phase.sending, .awaiting, .committing].map Phase.code = [0, 1, 2]
        ∧ [Occupancy.empty, .reserved, .filled].map Occupancy.code = [0, 1, 2]
        ∧ [PilotMode.idle, .drive, .fence].map PilotMode.code = [0, 1, 2]
        ∧ [Polarity.normal, .inverted].map Polarity.code = [0, 1]
        ∧ [SnapshotRequest.none, .started, .ready].map SnapshotRequest.code = [0, 1, 2]
        ∧ [Target.active, .detached].map Target.code = [1, 2]
        ∧ [QueuedCommand.configure, .stateRequest, .demand].map QueuedCommand.code = [0x10, 0x11, 0x12]
        ∧ [CommandResult.done, .failed, .cancelled, .locked, .notConfigured, .badValue, .watchdogLocked].map
            CommandResult.code = [0, 1, 2, 3, 4, 5, 6]
        ∧ (∀ target, (Resolution.demandTaken target).code = BitVec.ofNat 16 target)
        ∧ (∀ c target r, (Resolution.command c target r).code =
            BitVec.ofNat 16 (0x8000 + 256 * c.code + 16 * (target.map Target.code).getD 0 + r.code)))

/-- O46. Requests that are malformed or not taken (R178, R179): an unknown command code, an ENTRY_READ of 24 or
above, a METER_READ with another clear flag and a STATE_REQUEST with another target are answered BAD, with as many
zero bytes as the code fixes, and change nothing else. In RESET, outside a transaction whose request is being taken,
and where the bits taken so far begin another request, a request is not decoded (log 1); nor is a known code as an
unknown one. -/
def Obligations.MalformedAndUnheardRequestsChangeNothing : Prop :=
  ∀ s : State,
    (∀ code : Byte, code ∉ requestCodes → Hears s [code] →
          exec (.unknownCommand code) s = .next
            { s with port :=
              { s.port with transaction := .response, request := [code], bits := [], response := [7], atEnd := .none } })
      ∧ (∀ n : Byte, 24 ≤ n.toNat → Hears s [7, n] →
          exec (.entryRead n) s = .next
            { s with port :=
              { s.port with
                transaction := .response, request := [7, n], bits := [], response := 7 :: List.replicate 15 0
                atEnd := .none } })
      ∧ (∀ flag : Byte, flag ≠ 0 → flag ≠ 1 → Hears s [8, flag] →
          exec (.meterRead flag) s = .next
            { s with port :=
              { s.port with
                transaction := .response, request := [8, flag], bits := [], response := [7, 0, 0, 0, 0]
                atEnd := .none } })
      ∧ (∀ target : Byte, target ≠ 1 → target ≠ 2 → Hears s [0x11, target] →
          exec (.stateRequest target) s = .next
            { s with port :=
              { s.port with
                transaction := .response, request := [0x11, target], bits := [], response := [7], atEnd := .none } })
      ∧ (¬ Hears s [1] → exec .status s = .next s) ∧ (¬ Hears s [2] → exec .feed s = .next s)
      ∧ (¬ Hears s [3] → exec .ackAlert s = .next s) ∧ (¬ Hears s [4] → exec .eventPeek s = .next s)
      ∧ (¬ Hears s [5] → exec .eventPop s = .next s) ∧ (¬ Hears s [6] → exec .snapshot s = .next s)
      ∧ (¬ Hears s [9] → exec .hardReset s = .next s)
      ∧ (∀ n, ¬ Hears s [7, n] → exec (.entryRead n) s = .next s)
      ∧ (∀ flag, ¬ Hears s [8, flag] → exec (.meterRead flag) s = .next s)
      ∧ (∀ record, ¬ Hears s (0x10 :: recordBytes record) → exec (.configure record) s = .next s)
      ∧ (∀ target, ¬ Hears s [0x11, target] → exec (.stateRequest target) s = .next s)
      ∧ (∀ target : Half, ¬ Hears s [0x12, target.extractLsb' 8 8, target.extractLsb' 0 8] →
          exec (.demand target) s = .next s)
      ∧ (∀ code, (¬ Hears s [code] ∨ code ∈ requestCodes) → exec (.unknownCommand code) s = .next s)

/-- O47. The snapshot (R21, R23, R24, R187, R189): SNAPSHOT in NONE starts a request if the FIFO is empty and
answers RETRY, in STARTED answers RETRY, in READY delivers number and summary, owing the return to NONE. Taking it
checks every peer entry, then copies the 24 entries, the own one made from the own records (R4), the own share and
claim records, the station state and the sums at one point under the next snapshot number, which advances. The
update that the taking is (R7) may raise OVERCOMMIT before the copy, and may start a claim after it. A request that
is not STARTED, or RESET, leaves the command without effect (log 1). The data of the delivery, byte by byte (R192,
R193): the number, the sixteen bytes of the summary, the station state, the fourteen bytes of the own share record
and the eighteen of the own claim record, all 0 where none is open, with the roll and the assents as sets of
stations, station n at bit n of three bytes. -/
def Obligations.SnapshotIsTakenWholeAndDelivered : Prop :=
  (∀ s : State, Hears s [6] → s.port.snapRequest = .none →
      exec .snapshot s = .next
        { s with port :=
          { s.port with
            transaction := .response, request := [6], bits := [], response := 3 :: List.replicate 50 0, atEnd := .none
            snapRequest := if s.port.fifo = [] then .started else .none } })
    ∧ (∀ s : State, Hears s [6] → s.port.snapRequest = .started →
        exec .snapshot s = .next
          { s with port :=
            { s.port with
              transaction := .response, request := [6], bits := [], response := 3 :: List.replicate 50 0, atEnd := .none } })
    ∧ (∀ s : State, Hears s [6] → s.port.snapRequest = .ready →
        ∀ copy, s.port.snapshot = some copy →
          exec .snapshot s = .next
            { s with port :=
              { s.port with
                transaction := .response, request := [6], bits := [], response := 1 :: copy.bytes
                atEnd := .snapshotDelivered } }
            ∧ copy.bytes.length = 50)
    ∧ (∀ copy : Snapshot, copy.bytes =
        copy.number :: (copy.summaryBytes ++ [BitVec.ofNat 8 copy.station.code] ++ copy.share.bytes ++ claimBytes copy.claim))
    ∧ (∀ copy : Snapshot, copy.summaryBytes =
        [BitVec.ofNat 8 (copy.capacity / 256), BitVec.ofNat 8 copy.capacity,
         BitVec.ofNat 8 (copy.sumHeld / 16777216), BitVec.ofNat 8 (copy.sumHeld / 65536),
         BitVec.ofNat 8 (copy.sumHeld / 256), BitVec.ofNat 8 copy.sumHeld,
         BitVec.ofNat 8 (copy.sumEarmark / 16777216), BitVec.ofNat 8 (copy.sumEarmark / 65536),
         BitVec.ofNat 8 (copy.sumEarmark / 256), BitVec.ofNat 8 copy.sumEarmark,
         BitVec.ofNat 8 (copy.sumFloor / 256), BitVec.ofNat 8 copy.sumFloor,
         BitVec.ofNat 8 (copy.room / 256), BitVec.ofNat 8 copy.room,
         BitVec.ofNat 8 (128 * copy.overcommit.toNat + copy.validCount), BitVec.ofNat 8 copy.suspectCount])
    ∧ (∀ r : ShareRecord, r.bytes =
        [BitVec.ofNat 8 (r.held / 256), BitVec.ofNat 8 r.held, BitVec.ofNat 8 (r.lastTx / 256),
         BitVec.ofNat 8 r.lastTx,
         BitVec.ofNat 8 r.floor, BitVec.ofNat 8 r.priority, BitVec.ofNat 8 (r.demand / 256), BitVec.ofNat 8 r.demand,
         r.holdSeq, r.claimCounter, BitVec.ofNat 8 r.silence, BitVec.ofNat 8 r.failures,
         BitVec.ofNat 8 ((r.backoff.getD 0xFFFF) / 256), BitVec.ofNat 8 (r.backoff.getD 0xFFFF)])
    ∧ claimBytes none = List.replicate 18 0
    ∧ (∀ c : ClaimRecord, claimBytes (some c) =
        [1, BitVec.ofNat 8 (claimKindCode c.kind), c.number, BitVec.ofNat 8 (c.amount / 256), BitVec.ofNat 8 c.amount,
         BitVec.ofNat 8 c.phase.code]
          ++ stationSetBytes c.roll ++ stationSetBytes c.assents
          ++ [if c.inFlight then 1 else 0, BitVec.ofNat 8 c.window, BitVec.ofNat 8 c.deadline,
              BitVec.ofNat 8 c.roll.length, BitVec.ofNat 8 c.assents.length, 0])
    ∧ (∀ set : List Nat, ∃ high middle low : Byte, stationSetBytes set = [high, middle, low]
        ∧ ∀ i < 8, low.getLsbD i = set.contains i ∧ middle.getLsbD i = set.contains (8 + i)
          ∧ high.getLsbD i = set.contains (16 + i))
    ∧ (∀ s : State, s.mc.station ≠ .reset → s.port.snapRequest = .started → s.table.entries.length = 24 →
        ∃ t, exec .snapshotTaken s = .next t ∧ t.port.snapRequest = .ready
          ∧ t.table.nextSnapshot = s.table.nextSnapshot + 1
          ∧ (∀ i < 24, entryAt t i = (if isPeer s i then entryOnCheck s i else entryAt s i))
          ∧ (∀ copy, t.port.snapshot = some copy →
              copy.number = s.table.nextSnapshot ∧ copy.capacity = capacity s ∧ copy.station = s.mc.station
                ∧ copy.entries.length = 24
                ∧ (∀ i < 24, isPeer s i = true → copy.entries[i]? = some (entryAt t i))
                ∧ copy.sumHeld = (copy.entries.map (fun e => if e.valid then e.stored.held else 0)).sum
                ∧ copy.sumEarmark = (copy.entries.map Entry.earmarked).sum
                ∧ copy.sumFloor = (copy.entries.map (fun e => if e.valid then e.stored.floor else 0)).sum
                ∧ copy.room = capacity s - copy.sumHeld - copy.sumEarmark
                ∧ copy.overcommit = decide (capacity s < copy.sumHeld)
                ∧ copy.validCount = copy.entries.countP Entry.valid
                ∧ copy.suspectCount = copy.entries.countP (fun e => e.suspect)
                ∧ copy.share = { t.alloc.share with claimCounter := copy.share.claimCounter }
                ∧ ((s.table.overcommit = true ∨ sumHeld s ≤ capacity s) →
                    copy.share = s.alloc.share ∧ copy.claim = s.alloc.claim)
                ∧ (∀ i < 24, isPeer s i = false → copy.entries[i]? = some
                    { stored :=
                        { status := if s.mc.station = .active ∨ s.mc.station = .leaving then .member else .absent
                          held := copy.share.held, floor := copy.share.floor, priority := copy.share.priority
                          holdSeq := copy.share.holdSeq
                          openClaim := copy.claim.bind (fun c => if c.kind = .increase then some c.number else none)
                          earmark := copy.claim.bind (fun c =>
                            if c.kind = .increase then
                              some { kind := .increase, number := c.number, amount := c.amount } else none)
                          localFault := s.pilot.faultIn, overdrawn := false }
                      parityGood := true, age := 0, suspect := false
                      expiry := (copy.claim.map (fun c => if c.kind = .floor then 0
                        else if c.phase = .sending then 48 else c.deadline)).getD 0 }))
          ∧ t.port.snapshot.isSome = true
          ∧ t.mc = s.mc ∧ t.pins = s.pins ∧ t.time = s.time ∧ t.port.fifo = s.port.fifo)
    ∧ (∀ s : State, (s.mc.station = .reset ∨ s.port.snapRequest ≠ .started) → exec .snapshotTaken s = .next s)

/-- O48. Queued requests at their arrival (R45, R178, R182). CONFIGURE goes to the tail of the FIFO while it holds
fewer than eight, and is FULL at eight; DEMAND takes the place of one that waits, else goes to the tail or is FULL;
STATE_REQUEST is decided against the pending-request record: placed and pending, FULL and not pending, BUSY, or, a
DETACHED over an ACTIVE still waiting, in its place with the ACTIVE resolved CANCELLED. -/
def Obligations.QueuedRequestsAreAcceptedByTheFifo : Prop :=
  ∀ s : State,
    (∀ record : ConfigRecord, Hears s (0x10 :: recordBytes record) →
        (s.port.fifo.length < 8 → exec (.configure record) s = .next
          { s with port :=
            { s.port with
              transaction := .response, request := 0x10 :: recordBytes record, bits := [], response := [2], atEnd := .none
              fifo := s.port.fifo ++ [.configure record] } })
        ∧ (8 ≤ s.port.fifo.length → exec (.configure record) s = .next
          { s with port :=
            { s.port with
              transaction := .response, request := 0x10 :: recordBytes record, bits := [], response := [5], atEnd := .none } }))
      ∧ (∀ target : Half, Hears s [0x12, target.extractLsb' 8 8, target.extractLsb' 0 8] →
          ((∃ q ∈ s.port.fifo, q.isDemand = true) → exec (.demand target) s = .next
            { s with port :=
              { s.port with
                transaction := .response, response := [2], atEnd := .none
                request := [0x12, target.extractLsb' 8 8, target.extractLsb' 0 8], bits := []
                fifo := s.port.fifo.map (fun q => if q.isDemand then .demand target else q) } })
          ∧ ((∀ q ∈ s.port.fifo, q.isDemand = false) → s.port.fifo.length < 8 → exec (.demand target) s = .next
            { s with port :=
              { s.port with
                transaction := .response, response := [2], atEnd := .none
                request := [0x12, target.extractLsb' 8 8, target.extractLsb' 0 8], bits := []
                fifo := s.port.fifo ++ [.demand target] } })
          ∧ ((∀ q ∈ s.port.fifo, q.isDemand = false) → 8 ≤ s.port.fifo.length → exec (.demand target) s = .next
            { s with port :=
              { s.port with
                transaction := .response, response := [5], atEnd := .none
                request := [0x12, target.extractLsb' 8 8, target.extractLsb' 0 8], bits := [] } }))
      ∧ (∀ (target : Byte) (want : Target), Hears s [0x11, target] → (target = 1 ∧ want = .active) ∨ (target = 2 ∧ want = .detached) →
          (s.mc.request.first = none → s.port.fifo.length < 8 → exec (.stateRequest target) s = .next
            { s with
              mc := { s.mc with request := { first := some want, taken := false, behind := false } }
              port :=
                { s.port with
                  transaction := .response, request := [0x11, target], bits := [], response := [2], atEnd := .none
                  fifo := s.port.fifo ++ [.stateRequest want] } })
          ∧ (s.mc.request.first = none → 8 ≤ s.port.fifo.length → exec (.stateRequest target) s = .next
            { s with port :=
              { s.port with
                transaction := .response, request := [0x11, target], bits := [], response := [5], atEnd := .none } })
          ∧ ((s.mc.request.first = some .detached
                ∨ (s.mc.request.first = some .active ∧ (want = .active ∨ s.mc.request.behind = true))) →
            exec (.stateRequest target) s = .next
              { s with port :=
                { s.port with
                  transaction := .response, request := [0x11, target], bits := [], response := [4], atEnd := .none } })
          ∧ (s.mc.request.first = some .active → s.mc.request.behind = false → want = .detached →
              (s.mc.request.taken = true → s.port.fifo.length < 8 → exec (.stateRequest target) s = .next
                { s with
                  mc := { s.mc with request := { s.mc.request with behind := true } }
                  port :=
                    { s.port with
                      transaction := .response, request := [0x11, target], bits := [], response := [2], atEnd := .none
                      fifo := s.port.fifo ++ [.stateRequest .detached] } })
              ∧ (s.mc.request.taken = true → 8 ≤ s.port.fifo.length → exec (.stateRequest target) s = .next
                { s with port :=
                  { s.port with
                    transaction := .response, request := [0x11, target], bits := [], response := [5], atEnd := .none } })
              ∧ (s.mc.request.taken = false → exec (.stateRequest target) s = .next
                { s with
                  mc :=
                    { s.mc with
                      request := { first := some .detached, taken := false, behind := false }
                      lastResolution := some (.command .stateRequest (some .active) .cancelled) }
                  events := s.events.take .commandRefused none none (some 0x9112) s.time.ms
                  port :=
                    { s.port with
                      transaction := .response, request := [0x11, target], bits := [], response := [2], atEnd := .none
                      fifo := s.port.fifo.map (fun q => if q.isStateRequest then .stateRequest .detached else q) } })))

/-- O49. The port's decoder and the bytes of the requests (R177, R178, R192): each request's bytes give it back,
with every argument at every value; a first byte that names no request is decoded at once; what the decoder gives
has the bytes it was given; and no proper beginning of a request's bytes is a request. -/
def Obligations.RequestBytesSpellTheirRequest : Prop :=
  (∀ n : Byte, requestOf [7, n] = some (.entryRead n) ∧ requestOf [8, n] = some (.meterRead n)
      ∧ requestOf [0x11, n] = some (.stateRequest n) ∧ (n ∉ requestCodes → requestOf [n] = some (.unknownCommand n)))
    ∧ (∀ record : ConfigRecord, requestOf (0x10 :: recordBytes record) = some (.configure record)
        ∧ (recordBytes record).length = 9)
    ∧ (∀ target : Half, requestOf [0x12, target.extractLsb' 8 8, target.extractLsb' 0 8] = some (.demand target))
    ∧ (requestOf [1] = some .status ∧ requestOf [2] = some .feed ∧ requestOf [3] = some .ackAlert
        ∧ requestOf [4] = some .eventPeek ∧ requestOf [5] = some .eventPop ∧ requestOf [6] = some .snapshot
        ∧ requestOf [9] = some .hardReset)
    ∧ (∀ (bytes : List Byte) (c : Instr), requestOf bytes = some c → requestBytes c = bytes)
    ∧ (∀ (begun bytes : List Byte) (c d : Instr), begun <+: bytes → requestOf begun = some d →
        requestOf bytes = some c → begun = bytes)

/-! ## Queued requests taken -/

/-- O50. A CONFIGURE taken from the head of the FIFO (R49, R143, R183, R185, R186): refused with LOCKED outside
OFFLINE, DETACHED and MONITOR, with BAD_VALUE for a field out of range, with WATCHDOG_LOCKED for an interval of 0
while the lock is set, in this order, and then nothing but the last resolution and the event changes; else every
field is replaced, the configured flag set, a non-zero interval locks and restarts the watchdog, and COMMAND_DONE is
judged by the new filter; the change of the own share record ends as an update of the table (R7). -/
def Obligations.ConfigureIsCheckedAndApplied : Prop :=
  ∀ (r : ConfigRecord) (rest : List QueuedRequest) (s : State), s.port.fifo = .configure r :: rest →
    s.mc.station ≠ .reset →
      ((s.mc.station ≠ .offline ∧ s.mc.station ≠ .detached ∧ s.mc.station ≠ .monitor) →
          exec .configureTaken s = .next
            { s with
              port := { s.port with fifo := rest }
              mc := { s.mc with lastResolution := some (.command .configure none .locked) }
              events := s.events.take .commandRefused none none (some 0x9003) s.time.ms })
      ∧ ((s.mc.station = .offline ∨ s.mc.station = .detached ∨ s.mc.station = .monitor) →
          ((250 < r.floor.toNat ∨ 3 < r.priority.toNat ∨ r.fullScale.toNat < 100 ∨ 6400 < r.fullScale.toNat
                ∨ 1 < r.polarity.toNat ∨ ∃ i < 7, r.steering.toNat / 4 ^ i % 4 = 3) →
              exec .configureTaken s = .next
                { s with
                  port := { s.port with fifo := rest }
                  mc := { s.mc with lastResolution := some (.command .configure none .badValue) }
                  events := s.events.take .commandRefused none none (some 0x9005) s.time.ms })
          ∧ ((r.floor.toNat ≤ 250 ∧ r.priority.toNat ≤ 3 ∧ 100 ≤ r.fullScale.toNat ∧ r.fullScale.toNat ≤ 6400
                ∧ r.polarity.toNat ≤ 1 ∧ (∀ i < 7, r.steering.toNat / 4 ^ i % 4 ≠ 3)) →
              ((r.watchdog = 0 ∧ s.time.watchdog.lock = true) →
                  exec .configureTaken s = .next
                    { s with
                      port := { s.port with fifo := rest }
                      mc := { s.mc with lastResolution := some (.command .configure none .watchdogLocked) }
                      events := s.events.take .commandRefused none none (some 0x9006) s.time.ms })
              ∧ ((r.watchdog ≠ 0 ∨ s.time.watchdog.lock = false) →
                  ∃ u, exec .configureTaken s = .next (endUpdate none u)
                    ∧ u.mc = { s.mc with
                        configured := true, lastResolution := some (.command .configure none .done) }
                    ∧ u.alloc =
                        { s.alloc with
                          share := { s.alloc.share with floor := r.floor.toNat, priority := r.priority.toNat } }
                    ∧ u.pilot = { s.pilot with
                        fullScale := r.fullScale.toNat, polarity := if r.polarity = 0 then .normal else .inverted }
                    ∧ u.time.watchdog = (if r.watchdog = 0 then s.time.watchdog
                        else { interval := r.watchdog.toNat, lock := true, remaining := 10 * r.watchdog.toNat })
                    ∧ { u.time with watchdog := s.time.watchdog } = s.time
                    ∧ (∀ c, u.events.filter.get c = r.filter.getLsbD c.number)
                    ∧ (∀ c, u.events.steering.get c = (if r.steering.toNat / 4 ^ c.number % 4 = 0 then .none
                        else if r.steering.toNat / 4 ^ c.number % 4 = 1 then .attn else .alert))
                    ∧ u.events = EventUnit.take { s.events with filter := u.events.filter, steering := u.events.steering }
                        .commandDone none none (some 0x9000) s.time.ms
                    ∧ u.port = { s.port with fifo := rest }
                    ∧ { u with mc := s.mc, alloc := s.alloc, pilot := s.pilot, time := s.time, events := s.events,
                               port := s.port } = s)))

/-- O51. A STATE_REQUEST ACTIVE taken from the head of the FIFO (R46, R48, R183): DONE at once in ACTIVE; LOCKED in
MONITOR, FAULT, CENSUS, JOINING, WAITING and LEAVING; NOT_CONFIGURED elsewhere without a configuration; else it
stays pending, and CENSUS is entered, or JOINING at a census count of 2 (R31, R32). A STATE_REQUEST DETACHED taken
from the head of the FIFO (R47, R48, R183): ACTIVE leaves through LEAVING with the request pending and the farewell
in the HOLD slot (R37); OFFLINE, CENSUS, JOINING, WAITING and FENCED go to DETACHED, the request DONE; DETACHED
answers DONE at once; MONITOR, FAULT and LEAVING refuse it with LOCKED. A taken ACTIVE still pending is resolved
CANCELLED first. STATE_CHANGED ahead of COMMAND_DONE is the model's choice of order (log 7). -/
def Obligations.StateRequestsAreTaken : Prop :=
  (∀ (rest : List QueuedRequest) (s : State), s.port.fifo = .stateRequest .active :: rest → s.mc.station ≠ .reset →
    (∀ (result : CommandResult) (kind : EventKind) (code : Half),
        (s.mc.station = .active ∧ result = .done ∧ kind = .commandDone ∧ code = 0x9110)
          ∨ ((s.mc.station = .monitor ∨ s.mc.station = .fault ∨ s.mc.station = .census ∨ s.mc.station = .joining
              ∨ s.mc.station = .waiting ∨ s.mc.station = .leaving) ∧ result = .locked ∧ kind = .commandRefused
              ∧ code = 0x9113)
          ∨ ((s.mc.station = .offline ∨ s.mc.station = .detached ∨ s.mc.station = .fenced) ∧ s.mc.configured = false
              ∧ result = .notConfigured ∧ kind = .commandRefused ∧ code = 0x9114) →
          exec .stateRequestActiveTaken s = .next
            { s with
              port := { s.port with fifo := rest }
              mc :=
                { s.mc with
                  request := { first := if s.mc.request.behind then some .detached else none, taken := false,
                               behind := false }
                  lastResolution := some (.command .stateRequest (some .active) result) }
              events := s.events.take kind none none (some code) s.time.ms })
      ∧ (((s.mc.station = .offline ∨ s.mc.station = .detached ∨ s.mc.station = .fenced) ∧ s.mc.configured = true) →
          ∃ t, exec .stateRequestActiveTaken s = .next t
            ∧ t.mc.station = (if s.mc.census = 2 then .joining else .census)
            ∧ t.mc.request = { s.mc.request with first := some .active, taken := true }
            ∧ t.mc.lastResolution = s.mc.lastResolution ∧ t.alloc.share.held = 0
            ∧ (s.mc.census = 2 →
                t.alloc.share.silence = 0 ∧ t.alloc.share.claimCounter = s.alloc.share.claimCounter + 1
                  ∧ t.alloc.claim = some
                      { kind := .floor, number := s.alloc.share.claimCounter + 1, amount := s.alloc.share.floor,
                        phase := .sending, roll := [], assents := [], window := 24, deadline := 48, inFlight := false,
                        deadlinePassed := false }
                  ∧ t.outbox.claim =
                      { occupancy := .filled, key := some (s.alloc.share.claimCounter + 1), content := some .floor,
                        attempts := 0, inFlight := false })
            ∧ (s.mc.census ≠ 2 → t.alloc.claim = none ∧ t.alloc.share.claimCounter = s.alloc.share.claimCounter)
            ∧ t.port = { s.port with fifo := rest } ∧ t.pins = s.pins ∧ t.time = s.time))
    ∧ (∀ (rest : List QueuedRequest) (s : State), s.port.fifo = .stateRequest .detached :: rest → s.mc.station ≠ .reset →
    (s.mc.station = .active →
        ∃ t, exec .stateRequestDetachedTaken s = .next t ∧ t.mc.station = .leaving
          ∧ t.mc.request = { first := some .detached, taken := true, behind := false }
          ∧ t.alloc.share.held = 0 ∧ t.pilot.requested = 0 ∧ t.alloc.claim = none
          ∧ t.outbox.hold = { occupancy := .filled, attempts := 0, inFlight := false, resting := false }
          ∧ t.port = { s.port with fifo := rest })
      ∧ ((s.mc.station = .offline ∨ s.mc.station = .census ∨ s.mc.station = .joining ∨ s.mc.station = .waiting
            ∨ s.mc.station = .fenced ∨ s.mc.station = .detached) →
          ∃ t, exec .stateRequestDetachedTaken s = .next t ∧ t.mc.station = .detached
            ∧ t.mc.request = { first := none, taken := false, behind := false }
            ∧ t.mc.lastResolution = some (.command .stateRequest (some .detached) .done)
            ∧ (s.mc.station ≠ .detached →
                t.alloc.share.held = 0 ∧ t.alloc.claim = none ∧ t.outbox.hold = HoldSlot.empty
                  ∧ t.outbox.claim = ClaimSlot.empty)
            ∧ t.port = { s.port with fifo := rest })
      ∧ ((s.mc.station = .monitor ∨ s.mc.station = .fault ∨ s.mc.station = .leaving) →
          (s.mc.request.taken = false ∨ s.mc.request.first ≠ some .active) →
          exec .stateRequestDetachedTaken s = .next
            { s with
              port := { s.port with fifo := rest }
              mc :=
                { s.mc with
                  request := { first := none, taken := false, behind := false }
                  lastResolution := some (.command .stateRequest (some .detached) .locked) }
              events := s.events.take .commandRefused none none (some 0x9123) s.time.ms })
      ∧ ((s.mc.station = .census ∨ s.mc.station = .waiting) → s.mc.request.taken = true →
          s.mc.request.first = some .active → s.alloc.claim = none → s.table.entries.length = 24 → Settled s →
          s.table.overcommit = false →
          ∃ t, exec .stateRequestDetachedTaken s = .next t
            ∧ t.events.queue =
                (((s.events.take .commandRefused none none (some 0x9112) s.time.ms).take .stateChanged none none
                    (some (BitVec.ofNat 16 (256 * s.mc.station.code + 8))) s.time.ms).take
                  .commandDone none none (some 0x9120) s.time.ms).queue))

/-- O52. A DEMAND taken from the head of the FIFO (R63, R80, R88, R90, R183): refused with BAD_VALUE above 6400; else
the demand target takes the value and COMMAND_DONE reports it, an update of the table in every state (R7, R79). In
ACTIVE a target at or below own held abandons an INCREASE claim whose commit attempt is NONE, and no other; a target
below own held lowers own held to the greater of target and floor, with the HOLD slot requested; the drive level
follows; COMMAND_DONE is followed by CLAIM_ABANDONED with DEMAND_DROP for a claim so abandoned, by SHARE_CHANGED with
the new held where it was lowered, and by OVERCOMMIT_CLEAR where the sum of held shares then fits (R62, R88, R93;
their order is log 7's); and nothing is claimed but by the start conditions. A command that does not match the head of
the FIFO, or comes in RESET, changes nothing (log 1). -/
def Obligations.DemandActsOnClaimHeldAndDrive : Prop :=
  (∀ (target : Half) (rest : List QueuedRequest) (s : State), s.port.fifo = .demand target :: rest →
    s.mc.station ≠ .reset →
      (6400 < target.toNat →
          exec .demandTaken s = .next
            { s with
              port := { s.port with fifo := rest }
              mc := { s.mc with lastResolution := some (.command .demand none .badValue) }
              events := s.events.take .commandRefused none none (some 0x9205) s.time.ms })
      ∧ (target.toNat ≤ 6400 → s.mc.station ≠ .active →
          exec .demandTaken s = .next (endUpdate none
            { s with
              port := { s.port with fifo := rest }
              mc := { s.mc with lastResolution := some (.demandTaken target.toNat) }
              alloc := { s.alloc with share := { s.alloc.share with demand := target.toNat } }
              events := s.events.take .commandDone none none (some target) s.time.ms }))
      ∧ (target.toNat ≤ 6400 → s.mc.station = .active → (s.table.overcommit = true ↔ capacity s < sumHeld s) →
          ∃ t, exec .demandTaken s = .next t
            ∧ t.port = { s.port with fifo := rest } ∧ t.alloc.share.demand = target.toNat
            ∧ t.mc = { s.mc with lastResolution := some (.demandTaken target.toNat) }
            ∧ t.alloc.share.held =
                (if target.toNat < s.alloc.share.held ∧ s.alloc.share.floor < s.alloc.share.held then
                  max target.toNat s.alloc.share.floor else s.alloc.share.held)
            ∧ (t.alloc.share.held ≠ s.alloc.share.held → t.outbox.hold.occupancy = .filled)
            ∧ t.pilot.requested = (if s.pilot.faultIn then 0
                else min t.alloc.share.held (min s.alloc.share.lastTx target.toNat))
            ∧ (∀ c, s.alloc.claim = some c →
                ((c.kind = .increase ∧ c.inFlight = false ∧ target.toNat ≤ s.alloc.share.held) →
                    t.alloc.claim = none ∧ t.outbox.claim = ClaimSlot.empty
                      ∧ t.alloc.share.failures = min (s.alloc.share.failures + 1) 15)
                  ∧ ((c.kind = .floor ∨ c.inFlight = true ∨ s.alloc.share.held < target.toNat) →
                      t.alloc.claim = some c ∧ t.alloc.share.failures = s.alloc.share.failures))
            ∧ (s.alloc.claim = none → ∀ d, t.alloc.claim = some d →
                d.kind = .increase ∧ d.phase = .sending ∧ s.alloc.share.held < target.toNat
                  ∧ d.amount ≤ target.toNat - s.alloc.share.held)
            ∧ { t.events with active := s.events.active, acked := s.events.acked } =
                (((s.events.take .commandDone none none (some target) s.time.ms).takeAbandoned
                    (s.alloc.claim.filter (fun c =>
                      c.kind == .increase && !c.inFlight && decide (target.toNat ≤ s.alloc.share.held)))
                    10 s.time.ms).takeIf
                  (decide (target.toNat < s.alloc.share.held ∧ s.alloc.share.floor < s.alloc.share.held))
                  .shareChanged none none (some (valueOf (max target.toNat s.alloc.share.floor))) s.time.ms).takeIf
                  (s.table.overcommit && decide (sumHeld t ≤ capacity s)) .overcommitClear none none
                  (some (valueOf (sumHeld t))) s.time.ms
            ∧ t.table.entries = s.table.entries ∧ t.pins = s.pins ∧ t.time = s.time))
    ∧ (∀ s : State,
        ((s.mc.station = .reset ∨ ∀ record, s.port.fifo.head? ≠ some (.configure record)) →
            exec .configureTaken s = .next s)
        ∧ ((s.mc.station = .reset ∨ s.port.fifo.head? ≠ some (.stateRequest .active)) →
            exec .stateRequestActiveTaken s = .next s)
        ∧ ((s.mc.station = .reset ∨ s.port.fifo.head? ≠ some (.stateRequest .detached)) →
            exec .stateRequestDetachedTaken s = .next s)
        ∧ ((s.mc.station = .reset ∨ ∀ target, s.port.fifo.head? ≠ some (.demand target)) →
            exec .demandTaken s = .next s))

/-! ## What every step keeps -/

/-- O53. The laws hold right after reset. -/
def Obligations.EveryLawHoldsAtReset : Prop :=
  EventLaw State.reset ∧ ConditionLaw State.reset ∧ DriveLaw State.reset ∧ HoldingLaw State.reset
    ∧ SumsLaw State.reset ∧ OutboxLaw State.reset ∧ RequestLaw State.reset ∧ CountLaw State.reset ∧ ResetLaw State.reset
    ∧ ShapeLaw State.reset

/-- O54. Every step keeps the law of the event queue (R160, R165, R166): at most 64 entries, consecutive sequence
numbers that end below the next sequence, LOSS_BEFORE on the head alone. Every step keeps the alert conditions equal
to what their owners hold, and the acknowledged set within the active set (R168, R169). An event that the Event Unit
takes (R161, R162, R165): a class that the filter refuses leaves all as it was; an enabled one makes an entry with
the next sequence number, the fields and the time handed over and LOSS_BEFORE clear, at the tail, and advances the
next sequence, from 255 to 0; at 64 entries the head is discarded and the new head carries LOSS_BEFORE. Each kind
has its class (R163, R164). ATTN_N is asserted exactly while an entry's class is steered to ATTN or the queue holds
32 entries or more (R167), ALERT_N exactly while an active condition is not acknowledged or an entry's class is
steered to ALERT (R170); both are released in RESET (R174). -/
def Obligations.EveryStepKeepsTheEventUnit : Prop :=
  (∀ s t : State, EventLaw s → step s = .next t → EventLaw t)
    ∧ (∀ s t : State, ConditionLaw s → step s = .next t → ConditionLaw t)
    ∧ (∀ (kind : EventKind) (station : Option Nat) (claim : Option Byte) (value : Option Half) (time : Half)
        (u : EventUnit) (e : Event),
        e = { seq := u.nextSeq, kind := kind, station := station, claim := claim, value := value, time := time,
              lossBefore := false } →
          (u.filter.get kind.cls = false → u.take kind station claim value time = u)
          ∧ (u.filter.get kind.cls = true → u.queue.length < 64 →
              u.take kind station claim value time = { u with queue := u.queue ++ [e], nextSeq := u.nextSeq + 1 })
          ∧ (u.filter.get kind.cls = true → u.queue.length = 64 → ∀ head second rest, u.queue = head :: second :: rest →
              u.take kind station claim value time =
                { u with
                  queue := { second with lossBefore := true } :: (rest ++ [e]), nextSeq := u.nextSeq + 1 }))
    ∧ (∀ kind : EventKind, kind.cls =
        if kind ∈ [.stateChanged, .peerJoined, .peerRejoined, .peerSilent, .peerAbsent, .peerLeft, .duplicate] then
          .membership
        else if kind ∈ [.claimCommitted, .claimFailed, .claimLapsed, .claimAbandoned] then .claim
        else if kind ∈ [.answerDropped, .answerExpired] then .answer
        else if kind ∈ [.shareChanged, .squeezed, .overcommitSet, .overcommitClear, .peerOverdraw, .peerFault] then
          .share
        else if kind ∈ [.frameBad, .txGaveUp] then .line
        else if kind ∈ [.commandDone, .commandRefused, .watchdogExpired, .faultInChanged] then .loc
        else .table)
    ∧ (∀ s : State,
        (attnAsserted s.events = true ↔
            (∃ e ∈ s.events.queue, s.events.steering.get e.kind.cls = .attn) ∨ 32 ≤ s.events.queue.length)
        ∧ (alertAsserted s.events = true ↔
            (∃ c, s.events.active.has c = true ∧ s.events.acked.has c = false)
              ∨ ∃ e ∈ s.events.queue, s.events.steering.get e.kind.cls = .alert)
        ∧ (s.mc.station = .reset → ResetLaw s →
            attnAsserted s.events = false ∧ alertAsserted s.events = false))

/-- O55. Every step keeps the drive level at the Pilot Unit to R90: never above own held, the last transmitted held
or the demand target, 0 outside ACTIVE and under FAULT_IN as handed over; and the Pilot Unit's copy of the station
state true (R151). -/
def Obligations.EveryStepKeepsTheDriveLevel : Prop :=
  ∀ s t : State, DriveLaw s → step s = .next t → DriveLaw t

/-- O56. Every step keeps the law of the own holding (R52, R62, R79, R87, R92): the ranges of the share record, held
at or above the floor in ACTIVE and 0 elsewhere, the open claim matched to the station state, and no held above the
floor nor INCREASE claim while OVERCOMMIT is set. Every step keeps what the table keeps over its entries to itself
(R6, R7, R8): OVERCOMMIT set exactly while the kept sum of held shares exceeds the capacity, and the kept room what
the kept sums leave. -/
def Obligations.EveryStepKeepsTheHolding : Prop :=
  (∀ s t : State, HoldingLaw s → step s = .next t → HoldingLaw t)
    ∧ (∀ s t : State, SumsLaw s → step s = .next t → SumsLaw t)

/-- O57. Every step keeps the law of the slots (R28, R52, R112, R119, R120, R122, R127), on a station whose share
record is in its ranges (O56): which states let a slot hold a frame, the CLAIM slot filled while a claim is in
SENDING, the answer list naming each FILLED ANSWER slot once, no two ANSWER slots with one key, and a slot in flight
only while the transmitter sends from it or has still to report, and for the HOLD slot only with its description
kept. -/
def Obligations.EveryStepKeepsTheSlots : Prop :=
  ∀ s t : State, ShareLaw s → OutboxLaw s → step s = .next t → OutboxLaw t

/-- O58. Every step keeps the FIFO and the pending-request record to each other (R45, R182): at most eight requests,
one DEMAND, and exactly the STATE_REQUESTs that the record says are waiting. -/
def Obligations.EveryStepKeepsThePendingRequests : Prop :=
  ∀ s t : State, RequestLaw s → step s = .next t → RequestLaw t

/-- O59. Every step keeps the counts in their ranges (R31, R36, R100, R107, R110, R136, R140, R142, R148) and RESET
at the reset values (R25, R117), the table at 24 entries (R1), and no tick due twice at one block of the three that
State lists (R137; the list is the model's choice, log 4). -/
def Obligations.EveryStepKeepsCountsAndReset : Prop :=
  (∀ s t : State, CountLaw s → step s = .next t → CountLaw t)
    ∧ (∀ s t : State, ResetLaw s → step s = .next t → ResetLaw t)
    ∧ (∀ s t : State, ShapeLaw s → step s = .next t → ShapeLaw t)

/-- O60. Own held rises at one command alone: the completion of the HOLD that commits an own claim (R34, R59, R79,
R88). In ACTIVE it rises by no more than the claim's amount, in JOINING to no more than the floor; every other
command leaves it or lowers it. -/
def Obligations.OwnHeldRisesOnlyAtACommit : Prop :=
  ∀ (c : Instr) (s t : State), exec c s = .next t → s.alloc.share.held < t.alloc.share.held →
    c = .attemptCompleted ∧ s.line.tx.slot? = some .hold
      ∧ ∃ d ∈ s.alloc.claim, d.inFlight = true
        ∧ ((s.mc.station = .active ∧ t.alloc.share.held ≤ s.alloc.share.held + d.amount)
          ∨ (s.mc.station = .joining ∧ t.alloc.share.held ≤ s.alloc.share.floor))
end

