-- ==== Sys2Proof/Laws/State.lean ====
section
/-! SUPPORT. The elementary updates of the state: what each writes, true by rfl. What each leaves as it was stands with the
operation's file (Laws/Ops.lean, Laws/Line.lean, Laws/Port.lean). -/

namespace Sys2Proof.Machine

/-- A projection that one round keeps is kept by the whole fold. -/
theorem foldl_keeps {α β : Type} (p : State → β) (f : State → α → State) (h : ∀ s a, p (f s a) = p s) (l : List α)
    (s : State) : p (l.foldl f s) = p s := by
  induction l generalizing s with
  | nil => rfl
  | cons a l ih => rw [List.foldl_cons, ih, h]

/-- Taking an event writes the queue and the next sequence number only. -/
@[simp] theorem EventUnit.take_keeps (u : EventUnit) (kind : EventKind) (station : Option Nat) (claim : Option Byte)
    (value : Option Half) (time : Half) :
    (u.take kind station claim value time).filter = u.filter
      ∧ (u.take kind station claim value time).steering = u.steering
      ∧ (u.take kind station claim value time).active = u.active
      ∧ (u.take kind station claim value time).acked = u.acked
      ∧ (u.take kind station claim value time).popping = u.popping := by
  unfold EventUnit.take; split <;> simp

@[simp] theorem setShare_share (r : ShareRecord) (s : State) : (setShare r s).alloc.share = r := rfl
@[simp] theorem setClaim_claim (c : Option ClaimRecord) (s : State) : (setClaim c s).alloc.claim = c := rfl
@[simp] theorem setOutbox_outbox (o : Outbox) (s : State) : (setOutbox o s).outbox = o := rfl
@[simp] theorem setRequest_request (r : PendingRequest) (s : State) : (setRequest r s).mc.request = r := rfl
@[simp] theorem setLine_line (l : LineInterface) (s : State) : (setLine l s).line = l := rfl
@[simp] theorem setPort_port (p : Port) (s : State) : (setPort p s).port = p := rfl
@[simp] theorem setInhibit_pins (b : Bool) (s : State) : (setInhibit b s).pins = { s.pins with txInhibit := b } := rfl
@[simp] theorem setSelect_pins (b : Bool) (s : State) : (setSelect b s).pins = { s.pins with selN := b } := rfl
@[simp] theorem passSdi_pins (s : State) : (passSdi s).pins = { s.pins with sdi := s.pins.sdi.tail } := rfl
@[simp] theorem withPending_pending (s : State) (queue : List Instr) : (s.withPending queue).pending = queue := rfl
@[simp] theorem modEntry_entries (i : Nat) (f : Entry → Entry) (s : State) :
    (modEntry i f s).table.entries = s.table.entries.modify i f := rfl
@[simp] theorem setStation_station (new : StationState) (s : State) : (setStation new s).mc.station = new := rfl
@[simp] theorem setStation_stateCopy (new : StationState) (s : State) : (setStation new s).pilot.stateCopy = new := rfl
@[simp] theorem markOvercommit_overcommit (b : Bool) (s : State) : (markOvercommit b s).table.overcommit = b := rfl
@[simp] theorem setCondition_active (c : AlertCondition) (b : Bool) (s : State) :
    (setCondition c b s).events.active = s.events.active.put c b := rfl
@[simp] theorem refreshSums_sums (s : State) : (refreshSums s).table.sums = sumsNow s := rfl
@[simp] theorem recomputeDrive_requested (s : State) : (recomputeDrive s).pilot.requested = driveLevel s := rfl
@[simp] theorem setHeld_share (n : Nat) (s : State) : (setHeld n s).alloc.share = { s.alloc.share with held := n } := rfl
@[simp] theorem clearSilence_share (s : State) :
    (clearSilence s).alloc.share = { s.alloc.share with silence := 0 } := rfl
@[simp] theorem stopAttempt_tx (s : State) : (stopAttempt s).line.tx = s.line.tx.stop := rfl
@[simp] theorem endAttempt_tx (s : State) : (endAttempt s).line.tx = .none := rfl
@[simp] theorem noteHold_share (a : HoldAttempt) (s : State) :
    (noteHold a s).alloc.share =
      { s.alloc.share with lastTx := a.held, holdSeq := s.alloc.share.holdSeq + 1, silence := 0 } := rfl

/-- A bit boundary moves the bit timing and the transmitter only. -/
@[simp] theorem LineInterface.nextBit_keeps (l : LineInterface) :
    l.nextBit.rx = l.rx ∧ l.nextBit.idle = l.idle ∧ l.nextBit.inbox = l.inbox := ⟨rfl, rfl, rfl⟩
@[simp] theorem LineInterface.untaken_keeps (l : LineInterface) :
    l.untaken.rx = l.rx ∧ l.untaken.idle = l.idle ∧ l.untaken.inbox = l.inbox := by
  unfold LineInterface.untaken; split <;> simp
@[simp] theorem LineInterface.edge_keeps (l : LineInterface) :
    l.edge.rx = l.rx ∧ l.edge.idle = l.idle ∧ l.edge.inbox = l.inbox := by
  unfold LineInterface.edge; split <;> simp
@[simp] theorem LineInterface.period_keeps (l : LineInterface) :
    l.period.rx = l.rx ∧ l.period.idle = l.idle ∧ l.period.inbox = l.inbox := by
  unfold LineInterface.period; split <;> simp
@[simp] theorem LineInterface.release_keeps (l : LineInterface) :
    l.release.rx = l.rx ∧ l.release.idle = l.idle ∧ l.release.bits = l.bits ∧ l.release.inbox = l.inbox := by
  unfold LineInterface.release; split <;> simp

/-- The bits of a request fill the request buffer only. -/
@[simp] theorem Port.takeBit_keeps (p : Port) (b : Bool) :
    (p.takeBit b).transaction = p.transaction ∧ (p.takeBit b).response = p.response ∧ (p.takeBit b).fifo = p.fifo
      ∧ (p.takeBit b).snapRequest = p.snapRequest ∧ (p.takeBit b).snapshot = p.snapshot
      ∧ (p.takeBit b).atEnd = p.atEnd := by
  unfold Port.takeBit; split <;> simp
@[simp] theorem Port.shiftIn_keeps (p : Port) (sdi : List Bool) :
    (p.shiftIn sdi).transaction = p.transaction ∧ (p.shiftIn sdi).response = p.response
      ∧ (p.shiftIn sdi).fifo = p.fifo ∧ (p.shiftIn sdi).snapRequest = p.snapRequest
      ∧ (p.shiftIn sdi).snapshot = p.snapshot ∧ (p.shiftIn sdi).atEnd = p.atEnd := by
  induction sdi generalizing p with
  | nil => simp [Port.shiftIn]
  | cons b rest ih =>
    unfold Port.shiftIn
    split
    · simp
    · simp [ih]

@[simp] theorem raise_events (kind : EventKind) (station : Option Nat) (claim : Option Byte) (value : Option Half) (s : State) :
    (raise kind station claim value s).events = s.events.take kind station claim value s.time.ms := rfl

end Sys2Proof.Machine
end

