-- ==== Sys2Proof/Laws/Ops.lean ====
section
/-! SUPPORT. What the shared operations leave as it was (Machine/Flags.lean, Machine/Ops.lean): one lemma an operation. -/

namespace Sys2Proof.Machine

@[simp] theorem raise_keeps (kind : EventKind) (station : Option Nat) (claim : Option Byte) (value : Option Half) (s : State) :
    (raise kind station claim value s).pins = s.pins ∧ (raise kind station claim value s).mc = s.mc
      ∧ (raise kind station claim value s).table = s.table ∧ (raise kind station claim value s).alloc = s.alloc
      ∧ (raise kind station claim value s).outbox = s.outbox ∧ (raise kind station claim value s).line = s.line
      ∧ (raise kind station claim value s).time = s.time ∧ (raise kind station claim value s).pilot = s.pilot
      ∧ (raise kind station claim value s).events.filter = s.events.filter
      ∧ (raise kind station claim value s).events.steering = s.events.steering
      ∧ (raise kind station claim value s).events.active = s.events.active
      ∧ (raise kind station claim value s).events.acked = s.events.acked
      ∧ (raise kind station claim value s).events.popping = s.events.popping
      ∧ (raise kind station claim value s).port = s.port ∧ (raise kind station claim value s).pending = s.pending := by unfold raise EventUnit.take; split <;> simp

@[simp] theorem setCondition_keeps (c : AlertCondition) (b : Bool) (s : State) :
    (setCondition c b s).pins = s.pins ∧ (setCondition c b s).mc = s.mc ∧ (setCondition c b s).table = s.table
      ∧ (setCondition c b s).alloc = s.alloc ∧ (setCondition c b s).outbox = s.outbox
      ∧ (setCondition c b s).line = s.line ∧ (setCondition c b s).time = s.time ∧ (setCondition c b s).pilot = s.pilot
      ∧ (setCondition c b s).events.filter = s.events.filter
      ∧ (setCondition c b s).events.steering = s.events.steering
      ∧ (setCondition c b s).events.popping = s.events.popping ∧ (setCondition c b s).port = s.port
      ∧ (setCondition c b s).pending = s.pending := ⟨rfl, rfl, rfl, rfl, rfl, rfl, rfl, rfl, rfl, rfl, rfl, rfl, rfl⟩

@[simp] theorem modEntry_keeps (i : Nat) (f : Entry → Entry) (s : State) :
    (modEntry i f s).pins = s.pins ∧ (modEntry i f s).mc = s.mc ∧ (modEntry i f s).table.sums = s.table.sums
      ∧ (modEntry i f s).table.overcommit = s.table.overcommit
      ∧ (modEntry i f s).table.nextSnapshot = s.table.nextSnapshot ∧ (modEntry i f s).alloc = s.alloc
      ∧ (modEntry i f s).outbox = s.outbox ∧ (modEntry i f s).line = s.line ∧ (modEntry i f s).time = s.time
      ∧ (modEntry i f s).pilot = s.pilot ∧ (modEntry i f s).events = s.events ∧ (modEntry i f s).port = s.port
      ∧ (modEntry i f s).pending = s.pending := ⟨rfl, rfl, rfl, rfl, rfl, rfl, rfl, rfl, rfl, rfl, rfl, rfl, rfl⟩

@[simp] theorem checkParity_keeps (i : Nat) (s : State) :
    (checkParity i s).pins = s.pins ∧ (checkParity i s).mc = s.mc ∧ (checkParity i s).table.sums = s.table.sums
      ∧ (checkParity i s).table.overcommit = s.table.overcommit
      ∧ (checkParity i s).table.nextSnapshot = s.table.nextSnapshot ∧ (checkParity i s).alloc = s.alloc
      ∧ (checkParity i s).outbox = s.outbox ∧ (checkParity i s).line = s.line ∧ (checkParity i s).time = s.time
      ∧ (checkParity i s).pilot = s.pilot ∧ (checkParity i s).events.filter = s.events.filter
      ∧ (checkParity i s).events.steering = s.events.steering ∧ (checkParity i s).events.active = s.events.active
      ∧ (checkParity i s).events.acked = s.events.acked ∧ (checkParity i s).events.popping = s.events.popping
      ∧ (checkParity i s).port = s.port ∧ (checkParity i s).pending = s.pending := by
  unfold checkParity
  (repeat' split) <;> simp

@[simp] theorem checkAllParity_keeps (s : State) :
    (checkAllParity s).pins = s.pins ∧ (checkAllParity s).mc = s.mc ∧ (checkAllParity s).table.sums = s.table.sums
      ∧ (checkAllParity s).table.overcommit = s.table.overcommit
      ∧ (checkAllParity s).table.nextSnapshot = s.table.nextSnapshot ∧ (checkAllParity s).alloc = s.alloc
      ∧ (checkAllParity s).outbox = s.outbox ∧ (checkAllParity s).line = s.line ∧ (checkAllParity s).time = s.time
      ∧ (checkAllParity s).pilot = s.pilot ∧ (checkAllParity s).events.filter = s.events.filter
      ∧ (checkAllParity s).events.steering = s.events.steering ∧ (checkAllParity s).events.active = s.events.active
      ∧ (checkAllParity s).events.acked = s.events.acked ∧ (checkAllParity s).events.popping = s.events.popping
      ∧ (checkAllParity s).port = s.port ∧ (checkAllParity s).pending = s.pending := by
  unfold checkAllParity
  refine ⟨foldl_keeps (fun s => s.pins) _ (by intro s a; simp) _ _,
    foldl_keeps (fun s => s.mc) _ (by intro s a; simp) _ _,
    foldl_keeps (fun s => s.table.sums) _ (by intro s a; simp) _ _,
    foldl_keeps (fun s => s.table.overcommit) _ (by intro s a; simp) _ _,
    foldl_keeps (fun s => s.table.nextSnapshot) _ (by intro s a; simp) _ _,
    foldl_keeps (fun s => s.alloc) _ (by intro s a; simp) _ _,
    foldl_keeps (fun s => s.outbox) _ (by intro s a; simp) _ _,
    foldl_keeps (fun s => s.line) _ (by intro s a; simp) _ _,
    foldl_keeps (fun s => s.time) _ (by intro s a; simp) _ _,
    foldl_keeps (fun s => s.pilot) _ (by intro s a; simp) _ _,
    foldl_keeps (fun s => s.events.filter) _ (by intro s a; simp) _ _,
    foldl_keeps (fun s => s.events.steering) _ (by intro s a; simp) _ _,
    foldl_keeps (fun s => s.events.active) _ (by intro s a; simp) _ _,
    foldl_keeps (fun s => s.events.acked) _ (by intro s a; simp) _ _,
    foldl_keeps (fun s => s.events.popping) _ (by intro s a; simp) _ _,
    foldl_keeps (fun s => s.port) _ (by intro s a; simp) _ _,
    foldl_keeps (fun s => s.pending) _ (by intro s a; simp) _ _⟩

@[simp] theorem removeEarmark_keeps (i : Nat) (s : State) :
    (removeEarmark i s).pins = s.pins ∧ (removeEarmark i s).mc = s.mc
      ∧ (removeEarmark i s).table.sums = s.table.sums ∧ (removeEarmark i s).table.overcommit = s.table.overcommit
      ∧ (removeEarmark i s).table.nextSnapshot = s.table.nextSnapshot ∧ (removeEarmark i s).alloc = s.alloc
      ∧ (removeEarmark i s).outbox = s.outbox ∧ (removeEarmark i s).line = s.line ∧ (removeEarmark i s).time = s.time
      ∧ (removeEarmark i s).pilot = s.pilot ∧ (removeEarmark i s).events.filter = s.events.filter
      ∧ (removeEarmark i s).events.steering = s.events.steering ∧ (removeEarmark i s).events.active = s.events.active
      ∧ (removeEarmark i s).events.acked = s.events.acked ∧ (removeEarmark i s).events.popping = s.events.popping
      ∧ (removeEarmark i s).port = s.port ∧ (removeEarmark i s).pending = s.pending := by
  unfold removeEarmark
  (repeat' split) <;> simp

@[simp] theorem removeAllEarmarks_keeps (s : State) :
    (removeAllEarmarks s).pins = s.pins ∧ (removeAllEarmarks s).mc = s.mc
      ∧ (removeAllEarmarks s).table.sums = s.table.sums ∧ (removeAllEarmarks s).table.overcommit = s.table.overcommit
      ∧ (removeAllEarmarks s).table.nextSnapshot = s.table.nextSnapshot ∧ (removeAllEarmarks s).alloc = s.alloc
      ∧ (removeAllEarmarks s).outbox = s.outbox ∧ (removeAllEarmarks s).line = s.line
      ∧ (removeAllEarmarks s).time = s.time ∧ (removeAllEarmarks s).pilot = s.pilot
      ∧ (removeAllEarmarks s).events.filter = s.events.filter
      ∧ (removeAllEarmarks s).events.steering = s.events.steering
      ∧ (removeAllEarmarks s).events.active = s.events.active ∧ (removeAllEarmarks s).events.acked = s.events.acked
      ∧ (removeAllEarmarks s).events.popping = s.events.popping ∧ (removeAllEarmarks s).port = s.port
      ∧ (removeAllEarmarks s).pending = s.pending := by
  unfold removeAllEarmarks
  refine ⟨foldl_keeps (fun s => s.pins) _ (by intro s a; simp) _ _,
    foldl_keeps (fun s => s.mc) _ (by intro s a; simp) _ _,
    foldl_keeps (fun s => s.table.sums) _ (by intro s a; simp) _ _,
    foldl_keeps (fun s => s.table.overcommit) _ (by intro s a; simp) _ _,
    foldl_keeps (fun s => s.table.nextSnapshot) _ (by intro s a; simp) _ _,
    foldl_keeps (fun s => s.alloc) _ (by intro s a; simp) _ _,
    foldl_keeps (fun s => s.outbox) _ (by intro s a; simp) _ _,
    foldl_keeps (fun s => s.line) _ (by intro s a; simp) _ _,
    foldl_keeps (fun s => s.time) _ (by intro s a; simp) _ _,
    foldl_keeps (fun s => s.pilot) _ (by intro s a; simp) _ _,
    foldl_keeps (fun s => s.events.filter) _ (by intro s a; simp) _ _,
    foldl_keeps (fun s => s.events.steering) _ (by intro s a; simp) _ _,
    foldl_keeps (fun s => s.events.active) _ (by intro s a; simp) _ _,
    foldl_keeps (fun s => s.events.acked) _ (by intro s a; simp) _ _,
    foldl_keeps (fun s => s.events.popping) _ (by intro s a; simp) _ _,
    foldl_keeps (fun s => s.port) _ (by intro s a; simp) _ _,
    foldl_keeps (fun s => s.pending) _ (by intro s a; simp) _ _⟩

@[simp] theorem cutAttempt_keeps (slot : SlotId) (s : State) :
    (cutAttempt slot s).pins = s.pins ∧ (cutAttempt slot s).mc = s.mc ∧ (cutAttempt slot s).table = s.table
      ∧ (cutAttempt slot s).alloc = s.alloc ∧ (cutAttempt slot s).outbox = s.outbox
      ∧ (cutAttempt slot s).line.rx = s.line.rx ∧ (cutAttempt slot s).line.idle = s.line.idle
      ∧ (cutAttempt slot s).line.bits = s.line.bits ∧ (cutAttempt slot s).line.inbox = s.line.inbox
      ∧ (cutAttempt slot s).time = s.time ∧ (cutAttempt slot s).pilot = s.pilot
      ∧ (cutAttempt slot s).events = s.events ∧ (cutAttempt slot s).port = s.port
      ∧ (cutAttempt slot s).pending = s.pending := by
  unfold cutAttempt
  simp

@[simp] theorem setOutbox_keeps (o : Outbox) (s : State) :
    (setOutbox o s).pins = s.pins ∧ (setOutbox o s).mc = s.mc ∧ (setOutbox o s).table = s.table
      ∧ (setOutbox o s).alloc = s.alloc ∧ (setOutbox o s).line = s.line ∧ (setOutbox o s).time = s.time
      ∧ (setOutbox o s).pilot = s.pilot ∧ (setOutbox o s).events = s.events ∧ (setOutbox o s).port = s.port
      ∧ (setOutbox o s).pending = s.pending := ⟨rfl, rfl, rfl, rfl, rfl, rfl, rfl, rfl, rfl, rfl⟩

@[simp] theorem emptyHold_keeps (s : State) :
    (emptyHold s).pins = s.pins ∧ (emptyHold s).mc = s.mc ∧ (emptyHold s).table = s.table
      ∧ (emptyHold s).alloc = s.alloc ∧ (emptyHold s).outbox.claim = s.outbox.claim
      ∧ (emptyHold s).outbox.answers = s.outbox.answers ∧ (emptyHold s).outbox.answerList = s.outbox.answerList
      ∧ (emptyHold s).line.rx = s.line.rx ∧ (emptyHold s).line.idle = s.line.idle
      ∧ (emptyHold s).line.bits = s.line.bits ∧ (emptyHold s).line.inbox = s.line.inbox ∧ (emptyHold s).time = s.time
      ∧ (emptyHold s).pilot = s.pilot ∧ (emptyHold s).events = s.events ∧ (emptyHold s).port = s.port
      ∧ (emptyHold s).pending = s.pending := by
  unfold emptyHold
  simp

@[simp] theorem emptyClaim_keeps (s : State) :
    (emptyClaim s).pins = s.pins ∧ (emptyClaim s).mc = s.mc ∧ (emptyClaim s).table = s.table
      ∧ (emptyClaim s).alloc = s.alloc ∧ (emptyClaim s).outbox.hold = s.outbox.hold
      ∧ (emptyClaim s).outbox.answers = s.outbox.answers ∧ (emptyClaim s).outbox.answerList = s.outbox.answerList
      ∧ (emptyClaim s).line.rx = s.line.rx ∧ (emptyClaim s).line.idle = s.line.idle
      ∧ (emptyClaim s).line.bits = s.line.bits ∧ (emptyClaim s).line.inbox = s.line.inbox
      ∧ (emptyClaim s).time = s.time ∧ (emptyClaim s).pilot = s.pilot ∧ (emptyClaim s).events = s.events
      ∧ (emptyClaim s).port = s.port ∧ (emptyClaim s).pending = s.pending := by
  unfold emptyClaim
  simp

@[simp] theorem emptyAnswer_keeps (k : Nat) (s : State) :
    (emptyAnswer k s).pins = s.pins ∧ (emptyAnswer k s).mc = s.mc ∧ (emptyAnswer k s).table = s.table
      ∧ (emptyAnswer k s).alloc = s.alloc ∧ (emptyAnswer k s).outbox.hold = s.outbox.hold
      ∧ (emptyAnswer k s).outbox.claim = s.outbox.claim ∧ (emptyAnswer k s).line.rx = s.line.rx
      ∧ (emptyAnswer k s).line.idle = s.line.idle ∧ (emptyAnswer k s).line.bits = s.line.bits
      ∧ (emptyAnswer k s).line.inbox = s.line.inbox ∧ (emptyAnswer k s).time = s.time
      ∧ (emptyAnswer k s).pilot = s.pilot ∧ (emptyAnswer k s).events = s.events ∧ (emptyAnswer k s).port = s.port
      ∧ (emptyAnswer k s).pending = s.pending := by
  unfold emptyAnswer
  simp

@[simp] theorem withdrawAssent_keeps (x : Nat) (n : Byte) (s : State) :
    (withdrawAssent x n s).pins = s.pins ∧ (withdrawAssent x n s).mc = s.mc ∧ (withdrawAssent x n s).table = s.table
      ∧ (withdrawAssent x n s).alloc = s.alloc ∧ (withdrawAssent x n s).outbox.hold = s.outbox.hold
      ∧ (withdrawAssent x n s).outbox.claim = s.outbox.claim ∧ (withdrawAssent x n s).line.rx = s.line.rx
      ∧ (withdrawAssent x n s).line.idle = s.line.idle ∧ (withdrawAssent x n s).line.bits = s.line.bits
      ∧ (withdrawAssent x n s).line.inbox = s.line.inbox ∧ (withdrawAssent x n s).time = s.time
      ∧ (withdrawAssent x n s).pilot = s.pilot ∧ (withdrawAssent x n s).events = s.events
      ∧ (withdrawAssent x n s).port = s.port ∧ (withdrawAssent x n s).pending = s.pending := by
  unfold withdrawAssent
  (repeat' split) <;> simp

@[simp] theorem dropEarmark_keeps (x : Nat) (s : State) :
    (dropEarmark x s).pins = s.pins ∧ (dropEarmark x s).mc = s.mc ∧ (dropEarmark x s).table.sums = s.table.sums
      ∧ (dropEarmark x s).table.overcommit = s.table.overcommit
      ∧ (dropEarmark x s).table.nextSnapshot = s.table.nextSnapshot ∧ (dropEarmark x s).alloc = s.alloc
      ∧ (dropEarmark x s).outbox.hold = s.outbox.hold ∧ (dropEarmark x s).outbox.claim = s.outbox.claim
      ∧ (dropEarmark x s).line.rx = s.line.rx ∧ (dropEarmark x s).line.idle = s.line.idle
      ∧ (dropEarmark x s).line.bits = s.line.bits ∧ (dropEarmark x s).line.inbox = s.line.inbox
      ∧ (dropEarmark x s).time = s.time ∧ (dropEarmark x s).pilot = s.pilot
      ∧ (dropEarmark x s).events.filter = s.events.filter ∧ (dropEarmark x s).events.steering = s.events.steering
      ∧ (dropEarmark x s).events.active = s.events.active ∧ (dropEarmark x s).events.acked = s.events.acked
      ∧ (dropEarmark x s).events.popping = s.events.popping ∧ (dropEarmark x s).port = s.port
      ∧ (dropEarmark x s).pending = s.pending := by
  unfold dropEarmark
  (repeat' split) <;> simp

@[simp] theorem dropSlotEarmark_keeps (k : Nat) (s : State) :
    (dropSlotEarmark k s).pins = s.pins ∧ (dropSlotEarmark k s).mc = s.mc
      ∧ (dropSlotEarmark k s).table.sums = s.table.sums ∧ (dropSlotEarmark k s).table.overcommit = s.table.overcommit
      ∧ (dropSlotEarmark k s).table.nextSnapshot = s.table.nextSnapshot ∧ (dropSlotEarmark k s).alloc = s.alloc
      ∧ (dropSlotEarmark k s).outbox = s.outbox ∧ (dropSlotEarmark k s).line = s.line
      ∧ (dropSlotEarmark k s).time = s.time ∧ (dropSlotEarmark k s).pilot = s.pilot
      ∧ (dropSlotEarmark k s).events.filter = s.events.filter
      ∧ (dropSlotEarmark k s).events.steering = s.events.steering
      ∧ (dropSlotEarmark k s).events.active = s.events.active ∧ (dropSlotEarmark k s).events.acked = s.events.acked
      ∧ (dropSlotEarmark k s).events.popping = s.events.popping ∧ (dropSlotEarmark k s).port = s.port
      ∧ (dropSlotEarmark k s).pending = s.pending := by
  unfold dropSlotEarmark
  (repeat' split) <;> simp

@[simp] theorem dropReservations_keeps (s : State) :
    (dropReservations s).pins = s.pins ∧ (dropReservations s).mc = s.mc ∧ (dropReservations s).table = s.table
      ∧ (dropReservations s).alloc = s.alloc ∧ (dropReservations s).outbox = s.outbox
      ∧ (dropReservations s).line.idle = s.line.idle ∧ (dropReservations s).line.tx = s.line.tx
      ∧ (dropReservations s).line.bits = s.line.bits ∧ (dropReservations s).time = s.time
      ∧ (dropReservations s).pilot = s.pilot ∧ (dropReservations s).events = s.events
      ∧ (dropReservations s).port = s.port ∧ (dropReservations s).pending = s.pending := ⟨rfl, rfl, rfl, rfl, rfl, rfl, rfl, rfl, rfl, rfl, rfl, rfl, rfl⟩

@[simp] theorem discardAnswers_keeps (s : State) :
    (discardAnswers s).pins = s.pins ∧ (discardAnswers s).mc = s.mc ∧ (discardAnswers s).table.sums = s.table.sums
      ∧ (discardAnswers s).table.overcommit = s.table.overcommit
      ∧ (discardAnswers s).table.nextSnapshot = s.table.nextSnapshot ∧ (discardAnswers s).alloc = s.alloc
      ∧ (discardAnswers s).outbox.hold = s.outbox.hold ∧ (discardAnswers s).outbox.claim = s.outbox.claim
      ∧ (discardAnswers s).line.idle = s.line.idle ∧ (discardAnswers s).line.bits = s.line.bits
      ∧ (discardAnswers s).time = s.time ∧ (discardAnswers s).pilot = s.pilot
      ∧ (discardAnswers s).events.filter = s.events.filter ∧ (discardAnswers s).events.steering = s.events.steering
      ∧ (discardAnswers s).events.active = s.events.active ∧ (discardAnswers s).events.acked = s.events.acked
      ∧ (discardAnswers s).events.popping = s.events.popping ∧ (discardAnswers s).port = s.port
      ∧ (discardAnswers s).pending = s.pending := by
  unfold discardAnswers
  refine ⟨by simp [foldl_keeps (fun s => s.pins)],
    by simp [foldl_keeps (fun s => s.mc)],
    by simp [foldl_keeps (fun s => s.table.sums)],
    by simp [foldl_keeps (fun s => s.table.overcommit)],
    by simp [foldl_keeps (fun s => s.table.nextSnapshot)],
    by simp [foldl_keeps (fun s => s.alloc)],
    by simp [foldl_keeps (fun s => s.outbox.hold)],
    by simp [foldl_keeps (fun s => s.outbox.claim)],
    by simp [foldl_keeps (fun s => s.line.idle)],
    by simp [foldl_keeps (fun s => s.line.bits)],
    by simp [foldl_keeps (fun s => s.time)],
    by simp [foldl_keeps (fun s => s.pilot)],
    by simp [foldl_keeps (fun s => s.events.filter)],
    by simp [foldl_keeps (fun s => s.events.steering)],
    by simp [foldl_keeps (fun s => s.events.active)],
    by simp [foldl_keeps (fun s => s.events.acked)],
    by simp [foldl_keeps (fun s => s.events.popping)],
    by simp [foldl_keeps (fun s => s.port)],
    by simp [foldl_keeps (fun s => s.pending)]⟩

@[simp] theorem requestHold_keeps (s : State) :
    (requestHold s).pins = s.pins ∧ (requestHold s).mc = s.mc ∧ (requestHold s).table = s.table
      ∧ (requestHold s).alloc = s.alloc ∧ (requestHold s).outbox.claim = s.outbox.claim
      ∧ (requestHold s).outbox.answers = s.outbox.answers ∧ (requestHold s).outbox.answerList = s.outbox.answerList
      ∧ (requestHold s).line = s.line ∧ (requestHold s).time = s.time ∧ (requestHold s).pilot = s.pilot
      ∧ (requestHold s).events = s.events ∧ (requestHold s).port = s.port ∧ (requestHold s).pending = s.pending := by
  unfold requestHold
  (repeat' split) <;> simp

@[simp] theorem refillHold_keeps (s : State) :
    (refillHold s).pins = s.pins ∧ (refillHold s).mc = s.mc ∧ (refillHold s).table = s.table
      ∧ (refillHold s).alloc = s.alloc ∧ (refillHold s).outbox.claim = s.outbox.claim
      ∧ (refillHold s).outbox.answers = s.outbox.answers ∧ (refillHold s).outbox.answerList = s.outbox.answerList
      ∧ (refillHold s).line.rx = s.line.rx ∧ (refillHold s).line.idle = s.line.idle
      ∧ (refillHold s).line.bits = s.line.bits ∧ (refillHold s).line.inbox = s.line.inbox
      ∧ (refillHold s).time = s.time ∧ (refillHold s).pilot = s.pilot ∧ (refillHold s).events = s.events
      ∧ (refillHold s).port = s.port ∧ (refillHold s).pending = s.pending := by
  unfold refillHold
  simp

@[simp] theorem setShare_keeps (r : ShareRecord) (s : State) :
    (setShare r s).pins = s.pins ∧ (setShare r s).mc = s.mc ∧ (setShare r s).table = s.table
      ∧ (setShare r s).alloc.claim = s.alloc.claim ∧ (setShare r s).alloc.holdAttempt = s.alloc.holdAttempt
      ∧ (setShare r s).outbox = s.outbox ∧ (setShare r s).line = s.line ∧ (setShare r s).time = s.time
      ∧ (setShare r s).pilot = s.pilot ∧ (setShare r s).events = s.events ∧ (setShare r s).port = s.port
      ∧ (setShare r s).pending = s.pending := ⟨rfl, rfl, rfl, rfl, rfl, rfl, rfl, rfl, rfl, rfl, rfl, rfl⟩

@[simp] theorem setClaim_keeps (c : Option ClaimRecord) (s : State) :
    (setClaim c s).pins = s.pins ∧ (setClaim c s).mc = s.mc ∧ (setClaim c s).table = s.table
      ∧ (setClaim c s).alloc.share = s.alloc.share ∧ (setClaim c s).alloc.holdAttempt = s.alloc.holdAttempt
      ∧ (setClaim c s).outbox = s.outbox ∧ (setClaim c s).line = s.line ∧ (setClaim c s).time = s.time
      ∧ (setClaim c s).pilot = s.pilot ∧ (setClaim c s).events = s.events ∧ (setClaim c s).port = s.port
      ∧ (setClaim c s).pending = s.pending := ⟨rfl, rfl, rfl, rfl, rfl, rfl, rfl, rfl, rfl, rfl, rfl, rfl⟩

@[simp] theorem recomputeDrive_keeps (s : State) :
    (recomputeDrive s).pins = s.pins ∧ (recomputeDrive s).mc = s.mc ∧ (recomputeDrive s).table = s.table
      ∧ (recomputeDrive s).alloc = s.alloc ∧ (recomputeDrive s).outbox = s.outbox ∧ (recomputeDrive s).line = s.line
      ∧ (recomputeDrive s).time = s.time ∧ (recomputeDrive s).pilot.stateCopy = s.pilot.stateCopy
      ∧ (recomputeDrive s).pilot.faultIn = s.pilot.faultIn ∧ (recomputeDrive s).pilot.loadIn = s.pilot.loadIn
      ∧ (recomputeDrive s).pilot.mode = s.pilot.mode ∧ (recomputeDrive s).pilot.drive = s.pilot.drive
      ∧ (recomputeDrive s).pilot.duty = s.pilot.duty ∧ (recomputeDrive s).pilot.applied = s.pilot.applied
      ∧ (recomputeDrive s).pilot.phase = s.pilot.phase ∧ (recomputeDrive s).pilot.meter = s.pilot.meter
      ∧ (recomputeDrive s).pilot.fullScale = s.pilot.fullScale ∧ (recomputeDrive s).pilot.polarity = s.pilot.polarity
      ∧ (recomputeDrive s).pilot.periodDue = s.pilot.periodDue ∧ (recomputeDrive s).pilot.faultDue = s.pilot.faultDue
      ∧ (recomputeDrive s).events = s.events ∧ (recomputeDrive s).port = s.port
      ∧ (recomputeDrive s).pending = s.pending := 
    ⟨rfl, rfl, rfl, rfl, rfl, rfl, rfl, rfl, rfl, rfl, rfl, rfl, rfl, rfl, rfl, rfl, rfl, rfl, rfl, rfl,
    rfl, rfl, rfl⟩

@[simp] theorem setHeld_keeps (n : Nat) (s : State) :
    (setHeld n s).pins = s.pins ∧ (setHeld n s).mc = s.mc ∧ (setHeld n s).table = s.table
      ∧ (setHeld n s).alloc.share.lastTx = s.alloc.share.lastTx
      ∧ (setHeld n s).alloc.share.floor = s.alloc.share.floor
      ∧ (setHeld n s).alloc.share.priority = s.alloc.share.priority
      ∧ (setHeld n s).alloc.share.demand = s.alloc.share.demand
      ∧ (setHeld n s).alloc.share.holdSeq = s.alloc.share.holdSeq
      ∧ (setHeld n s).alloc.share.claimCounter = s.alloc.share.claimCounter
      ∧ (setHeld n s).alloc.share.silence = s.alloc.share.silence
      ∧ (setHeld n s).alloc.share.failures = s.alloc.share.failures
      ∧ (setHeld n s).alloc.share.backoff = s.alloc.share.backoff ∧ (setHeld n s).alloc.claim = s.alloc.claim
      ∧ (setHeld n s).alloc.holdAttempt = s.alloc.holdAttempt ∧ (setHeld n s).outbox = s.outbox
      ∧ (setHeld n s).line = s.line ∧ (setHeld n s).time = s.time ∧ (setHeld n s).pilot.stateCopy = s.pilot.stateCopy
      ∧ (setHeld n s).pilot.faultIn = s.pilot.faultIn ∧ (setHeld n s).pilot.loadIn = s.pilot.loadIn
      ∧ (setHeld n s).pilot.mode = s.pilot.mode ∧ (setHeld n s).pilot.drive = s.pilot.drive
      ∧ (setHeld n s).pilot.duty = s.pilot.duty ∧ (setHeld n s).pilot.applied = s.pilot.applied
      ∧ (setHeld n s).pilot.phase = s.pilot.phase ∧ (setHeld n s).pilot.meter = s.pilot.meter
      ∧ (setHeld n s).pilot.fullScale = s.pilot.fullScale ∧ (setHeld n s).pilot.polarity = s.pilot.polarity
      ∧ (setHeld n s).pilot.periodDue = s.pilot.periodDue ∧ (setHeld n s).pilot.faultDue = s.pilot.faultDue
      ∧ (setHeld n s).events = s.events ∧ (setHeld n s).port = s.port ∧ (setHeld n s).pending = s.pending := 
    ⟨rfl, rfl, rfl, rfl, rfl, rfl, rfl, rfl, rfl, rfl, rfl, rfl, rfl, rfl, rfl, rfl, rfl, rfl, rfl, rfl,
    rfl, rfl, rfl, rfl, rfl, rfl, rfl, rfl, rfl, rfl, rfl, rfl, rfl⟩

@[simp] theorem countFailure_keeps (s : State) :
    (countFailure s).pins = s.pins ∧ (countFailure s).mc = s.mc ∧ (countFailure s).table = s.table
      ∧ (countFailure s).alloc.share.held = s.alloc.share.held
      ∧ (countFailure s).alloc.share.lastTx = s.alloc.share.lastTx
      ∧ (countFailure s).alloc.share.floor = s.alloc.share.floor
      ∧ (countFailure s).alloc.share.priority = s.alloc.share.priority
      ∧ (countFailure s).alloc.share.demand = s.alloc.share.demand
      ∧ (countFailure s).alloc.share.holdSeq = s.alloc.share.holdSeq
      ∧ (countFailure s).alloc.share.claimCounter = s.alloc.share.claimCounter
      ∧ (countFailure s).alloc.share.silence = s.alloc.share.silence ∧ (countFailure s).alloc.claim = s.alloc.claim
      ∧ (countFailure s).alloc.holdAttempt = s.alloc.holdAttempt ∧ (countFailure s).outbox = s.outbox
      ∧ (countFailure s).line = s.line ∧ (countFailure s).time = s.time ∧ (countFailure s).pilot = s.pilot
      ∧ (countFailure s).events = s.events ∧ (countFailure s).port = s.port ∧ (countFailure s).pending = s.pending := ⟨rfl, rfl, rfl, rfl, rfl, rfl, rfl, rfl, rfl, rfl, rfl, rfl, rfl, rfl, rfl, rfl, rfl, rfl, rfl, rfl⟩

@[simp] theorem lowerHeld_keeps (held : Nat) (s : State) :
    (lowerHeld held s).pins = s.pins ∧ (lowerHeld held s).mc = s.mc ∧ (lowerHeld held s).table = s.table
      ∧ (lowerHeld held s).alloc.share.lastTx = s.alloc.share.lastTx
      ∧ (lowerHeld held s).alloc.share.floor = s.alloc.share.floor
      ∧ (lowerHeld held s).alloc.share.priority = s.alloc.share.priority
      ∧ (lowerHeld held s).alloc.share.demand = s.alloc.share.demand
      ∧ (lowerHeld held s).alloc.share.holdSeq = s.alloc.share.holdSeq
      ∧ (lowerHeld held s).alloc.share.claimCounter = s.alloc.share.claimCounter
      ∧ (lowerHeld held s).alloc.share.silence = s.alloc.share.silence
      ∧ (lowerHeld held s).alloc.share.failures = s.alloc.share.failures
      ∧ (lowerHeld held s).alloc.share.backoff = s.alloc.share.backoff
      ∧ (lowerHeld held s).alloc.claim = s.alloc.claim ∧ (lowerHeld held s).alloc.holdAttempt = s.alloc.holdAttempt
      ∧ (lowerHeld held s).outbox.claim = s.outbox.claim ∧ (lowerHeld held s).outbox.answers = s.outbox.answers
      ∧ (lowerHeld held s).outbox.answerList = s.outbox.answerList ∧ (lowerHeld held s).line = s.line
      ∧ (lowerHeld held s).time = s.time ∧ (lowerHeld held s).pilot.stateCopy = s.pilot.stateCopy
      ∧ (lowerHeld held s).pilot.faultIn = s.pilot.faultIn ∧ (lowerHeld held s).pilot.loadIn = s.pilot.loadIn
      ∧ (lowerHeld held s).pilot.mode = s.pilot.mode ∧ (lowerHeld held s).pilot.drive = s.pilot.drive
      ∧ (lowerHeld held s).pilot.duty = s.pilot.duty ∧ (lowerHeld held s).pilot.applied = s.pilot.applied
      ∧ (lowerHeld held s).pilot.phase = s.pilot.phase ∧ (lowerHeld held s).pilot.meter = s.pilot.meter
      ∧ (lowerHeld held s).pilot.fullScale = s.pilot.fullScale ∧ (lowerHeld held s).pilot.polarity = s.pilot.polarity
      ∧ (lowerHeld held s).pilot.periodDue = s.pilot.periodDue ∧ (lowerHeld held s).pilot.faultDue = s.pilot.faultDue
      ∧ (lowerHeld held s).events.filter = s.events.filter ∧ (lowerHeld held s).events.steering = s.events.steering
      ∧ (lowerHeld held s).events.active = s.events.active ∧ (lowerHeld held s).events.acked = s.events.acked
      ∧ (lowerHeld held s).events.popping = s.events.popping ∧ (lowerHeld held s).port = s.port
      ∧ (lowerHeld held s).pending = s.pending := by
  unfold lowerHeld
  simp

@[simp] theorem decrease_keeps (s : State) :
    (decrease s).pins = s.pins ∧ (decrease s).mc = s.mc ∧ (decrease s).table = s.table
      ∧ (decrease s).alloc.share.lastTx = s.alloc.share.lastTx ∧ (decrease s).alloc.share.floor = s.alloc.share.floor
      ∧ (decrease s).alloc.share.priority = s.alloc.share.priority
      ∧ (decrease s).alloc.share.demand = s.alloc.share.demand
      ∧ (decrease s).alloc.share.holdSeq = s.alloc.share.holdSeq
      ∧ (decrease s).alloc.share.claimCounter = s.alloc.share.claimCounter
      ∧ (decrease s).alloc.share.silence = s.alloc.share.silence
      ∧ (decrease s).alloc.share.failures = s.alloc.share.failures
      ∧ (decrease s).alloc.share.backoff = s.alloc.share.backoff ∧ (decrease s).alloc.claim = s.alloc.claim
      ∧ (decrease s).alloc.holdAttempt = s.alloc.holdAttempt ∧ (decrease s).outbox.claim = s.outbox.claim
      ∧ (decrease s).outbox.answers = s.outbox.answers ∧ (decrease s).outbox.answerList = s.outbox.answerList
      ∧ (decrease s).line = s.line ∧ (decrease s).time = s.time ∧ (decrease s).pilot.stateCopy = s.pilot.stateCopy
      ∧ (decrease s).pilot.faultIn = s.pilot.faultIn ∧ (decrease s).pilot.loadIn = s.pilot.loadIn
      ∧ (decrease s).pilot.mode = s.pilot.mode ∧ (decrease s).pilot.drive = s.pilot.drive
      ∧ (decrease s).pilot.duty = s.pilot.duty ∧ (decrease s).pilot.applied = s.pilot.applied
      ∧ (decrease s).pilot.phase = s.pilot.phase ∧ (decrease s).pilot.meter = s.pilot.meter
      ∧ (decrease s).pilot.fullScale = s.pilot.fullScale ∧ (decrease s).pilot.polarity = s.pilot.polarity
      ∧ (decrease s).pilot.periodDue = s.pilot.periodDue ∧ (decrease s).pilot.faultDue = s.pilot.faultDue
      ∧ (decrease s).events.filter = s.events.filter ∧ (decrease s).events.steering = s.events.steering
      ∧ (decrease s).events.active = s.events.active ∧ (decrease s).events.acked = s.events.acked
      ∧ (decrease s).events.popping = s.events.popping ∧ (decrease s).port = s.port ∧ (decrease s).pending = s.pending := by
  unfold decrease
  (repeat' split) <;> simp

@[simp] theorem removeClaim_keeps (s : State) :
    (removeClaim s).pins = s.pins ∧ (removeClaim s).mc = s.mc ∧ (removeClaim s).table = s.table
      ∧ (removeClaim s).alloc.share = s.alloc.share ∧ (removeClaim s).alloc.holdAttempt = s.alloc.holdAttempt
      ∧ (removeClaim s).outbox.hold = s.outbox.hold ∧ (removeClaim s).outbox.answers = s.outbox.answers
      ∧ (removeClaim s).outbox.answerList = s.outbox.answerList ∧ (removeClaim s).line.rx = s.line.rx
      ∧ (removeClaim s).line.idle = s.line.idle ∧ (removeClaim s).line.bits = s.line.bits
      ∧ (removeClaim s).line.inbox = s.line.inbox ∧ (removeClaim s).time = s.time ∧ (removeClaim s).pilot = s.pilot
      ∧ (removeClaim s).events = s.events ∧ (removeClaim s).port = s.port ∧ (removeClaim s).pending = s.pending := by
  unfold removeClaim
  simp

@[simp] theorem countIf_keeps (counted : Bool) (s : State) :
    (countIf counted s).pins = s.pins ∧ (countIf counted s).mc = s.mc ∧ (countIf counted s).table = s.table
      ∧ (countIf counted s).alloc.share.held = s.alloc.share.held
      ∧ (countIf counted s).alloc.share.lastTx = s.alloc.share.lastTx
      ∧ (countIf counted s).alloc.share.floor = s.alloc.share.floor
      ∧ (countIf counted s).alloc.share.priority = s.alloc.share.priority
      ∧ (countIf counted s).alloc.share.demand = s.alloc.share.demand
      ∧ (countIf counted s).alloc.share.holdSeq = s.alloc.share.holdSeq
      ∧ (countIf counted s).alloc.share.claimCounter = s.alloc.share.claimCounter
      ∧ (countIf counted s).alloc.share.silence = s.alloc.share.silence
      ∧ (countIf counted s).alloc.claim = s.alloc.claim ∧ (countIf counted s).alloc.holdAttempt = s.alloc.holdAttempt
      ∧ (countIf counted s).outbox = s.outbox ∧ (countIf counted s).line = s.line ∧ (countIf counted s).time = s.time
      ∧ (countIf counted s).pilot = s.pilot ∧ (countIf counted s).events = s.events
      ∧ (countIf counted s).port = s.port ∧ (countIf counted s).pending = s.pending := by
  unfold countIf
  (repeat' split) <;> simp

@[simp] theorem abandonClaim_keeps (reason : EndReason) (s : State) :
    (abandonClaim reason s).pins = s.pins ∧ (abandonClaim reason s).mc = s.mc
      ∧ (abandonClaim reason s).table = s.table ∧ (abandonClaim reason s).alloc.share.held = s.alloc.share.held
      ∧ (abandonClaim reason s).alloc.share.lastTx = s.alloc.share.lastTx
      ∧ (abandonClaim reason s).alloc.share.floor = s.alloc.share.floor
      ∧ (abandonClaim reason s).alloc.share.priority = s.alloc.share.priority
      ∧ (abandonClaim reason s).alloc.share.demand = s.alloc.share.demand
      ∧ (abandonClaim reason s).alloc.share.holdSeq = s.alloc.share.holdSeq
      ∧ (abandonClaim reason s).alloc.share.claimCounter = s.alloc.share.claimCounter
      ∧ (abandonClaim reason s).alloc.share.silence = s.alloc.share.silence
      ∧ (abandonClaim reason s).alloc.holdAttempt = s.alloc.holdAttempt
      ∧ (abandonClaim reason s).outbox.hold = s.outbox.hold
      ∧ (abandonClaim reason s).outbox.answers = s.outbox.answers
      ∧ (abandonClaim reason s).outbox.answerList = s.outbox.answerList ∧ (abandonClaim reason s).line.rx = s.line.rx
      ∧ (abandonClaim reason s).line.idle = s.line.idle ∧ (abandonClaim reason s).line.bits = s.line.bits
      ∧ (abandonClaim reason s).line.inbox = s.line.inbox ∧ (abandonClaim reason s).time = s.time
      ∧ (abandonClaim reason s).pilot = s.pilot ∧ (abandonClaim reason s).events.filter = s.events.filter
      ∧ (abandonClaim reason s).events.steering = s.events.steering
      ∧ (abandonClaim reason s).events.active = s.events.active
      ∧ (abandonClaim reason s).events.acked = s.events.acked
      ∧ (abandonClaim reason s).events.popping = s.events.popping ∧ (abandonClaim reason s).port = s.port
      ∧ (abandonClaim reason s).pending = s.pending := by
  unfold abandonClaim
  (repeat' split) <;> simp

@[simp] theorem abandonIncrease_keeps (reason : EndReason) (s : State) :
    (abandonIncrease reason s).pins = s.pins ∧ (abandonIncrease reason s).mc = s.mc
      ∧ (abandonIncrease reason s).table = s.table ∧ (abandonIncrease reason s).alloc.share.held = s.alloc.share.held
      ∧ (abandonIncrease reason s).alloc.share.lastTx = s.alloc.share.lastTx
      ∧ (abandonIncrease reason s).alloc.share.floor = s.alloc.share.floor
      ∧ (abandonIncrease reason s).alloc.share.priority = s.alloc.share.priority
      ∧ (abandonIncrease reason s).alloc.share.demand = s.alloc.share.demand
      ∧ (abandonIncrease reason s).alloc.share.holdSeq = s.alloc.share.holdSeq
      ∧ (abandonIncrease reason s).alloc.share.claimCounter = s.alloc.share.claimCounter
      ∧ (abandonIncrease reason s).alloc.share.silence = s.alloc.share.silence
      ∧ (abandonIncrease reason s).alloc.holdAttempt = s.alloc.holdAttempt
      ∧ (abandonIncrease reason s).outbox.hold = s.outbox.hold
      ∧ (abandonIncrease reason s).outbox.answers = s.outbox.answers
      ∧ (abandonIncrease reason s).outbox.answerList = s.outbox.answerList
      ∧ (abandonIncrease reason s).line.rx = s.line.rx ∧ (abandonIncrease reason s).line.idle = s.line.idle
      ∧ (abandonIncrease reason s).line.bits = s.line.bits ∧ (abandonIncrease reason s).line.inbox = s.line.inbox
      ∧ (abandonIncrease reason s).time = s.time ∧ (abandonIncrease reason s).pilot = s.pilot
      ∧ (abandonIncrease reason s).events.filter = s.events.filter
      ∧ (abandonIncrease reason s).events.steering = s.events.steering
      ∧ (abandonIncrease reason s).events.active = s.events.active
      ∧ (abandonIncrease reason s).events.acked = s.events.acked
      ∧ (abandonIncrease reason s).events.popping = s.events.popping ∧ (abandonIncrease reason s).port = s.port
      ∧ (abandonIncrease reason s).pending = s.pending := by
  unfold abandonIncrease
  (repeat' split) <;> simp

@[simp] theorem enterCommitting_keeps (s : State) :
    (enterCommitting s).pins = s.pins ∧ (enterCommitting s).mc = s.mc ∧ (enterCommitting s).table = s.table
      ∧ (enterCommitting s).alloc.share = s.alloc.share ∧ (enterCommitting s).alloc.holdAttempt = s.alloc.holdAttempt
      ∧ (enterCommitting s).outbox.claim = s.outbox.claim ∧ (enterCommitting s).outbox.answers = s.outbox.answers
      ∧ (enterCommitting s).outbox.answerList = s.outbox.answerList ∧ (enterCommitting s).line = s.line
      ∧ (enterCommitting s).time = s.time ∧ (enterCommitting s).pilot = s.pilot
      ∧ (enterCommitting s).events = s.events ∧ (enterCommitting s).port = s.port
      ∧ (enterCommitting s).pending = s.pending := by
  unfold enterCommitting
  simp

@[simp] theorem commitIfCovered_keeps (s : State) :
    (commitIfCovered s).pins = s.pins ∧ (commitIfCovered s).mc = s.mc ∧ (commitIfCovered s).table = s.table
      ∧ (commitIfCovered s).alloc.share = s.alloc.share ∧ (commitIfCovered s).alloc.holdAttempt = s.alloc.holdAttempt
      ∧ (commitIfCovered s).outbox.claim = s.outbox.claim ∧ (commitIfCovered s).outbox.answers = s.outbox.answers
      ∧ (commitIfCovered s).outbox.answerList = s.outbox.answerList ∧ (commitIfCovered s).line = s.line
      ∧ (commitIfCovered s).time = s.time ∧ (commitIfCovered s).pilot = s.pilot
      ∧ (commitIfCovered s).events = s.events ∧ (commitIfCovered s).port = s.port
      ∧ (commitIfCovered s).pending = s.pending := by
  unfold commitIfCovered
  (repeat' split) <;> simp

@[simp] theorem strikeOff_keeps (i : Nat) (s : State) :
    (strikeOff i s).pins = s.pins ∧ (strikeOff i s).mc = s.mc ∧ (strikeOff i s).table = s.table
      ∧ (strikeOff i s).alloc.share = s.alloc.share ∧ (strikeOff i s).alloc.holdAttempt = s.alloc.holdAttempt
      ∧ (strikeOff i s).outbox.claim = s.outbox.claim ∧ (strikeOff i s).outbox.answers = s.outbox.answers
      ∧ (strikeOff i s).outbox.answerList = s.outbox.answerList ∧ (strikeOff i s).line = s.line
      ∧ (strikeOff i s).time = s.time ∧ (strikeOff i s).pilot = s.pilot ∧ (strikeOff i s).events = s.events
      ∧ (strikeOff i s).port = s.port ∧ (strikeOff i s).pending = s.pending := by
  unfold strikeOff
  (repeat' split) <;> simp

@[simp] theorem report_keeps (r : Resolution) (s : State) :
    (report r s).pins = s.pins ∧ (report r s).mc.station = s.mc.station ∧ (report r s).mc.identity = s.mc.identity
      ∧ (report r s).mc.census = s.mc.census ∧ (report r s).mc.retry = s.mc.retry
      ∧ (report r s).mc.configured = s.mc.configured ∧ (report r s).mc.request = s.mc.request
      ∧ (report r s).mc.duplicate = s.mc.duplicate ∧ (report r s).table = s.table ∧ (report r s).alloc = s.alloc
      ∧ (report r s).outbox = s.outbox ∧ (report r s).line = s.line ∧ (report r s).time = s.time
      ∧ (report r s).pilot = s.pilot ∧ (report r s).events.filter = s.events.filter
      ∧ (report r s).events.steering = s.events.steering ∧ (report r s).events.active = s.events.active
      ∧ (report r s).events.acked = s.events.acked ∧ (report r s).events.popping = s.events.popping
      ∧ (report r s).port = s.port ∧ (report r s).pending = s.pending := by
  unfold report
  simp

@[simp] theorem setRequest_keeps (r : PendingRequest) (s : State) :
    (setRequest r s).pins = s.pins ∧ (setRequest r s).mc.station = s.mc.station
      ∧ (setRequest r s).mc.identity = s.mc.identity ∧ (setRequest r s).mc.census = s.mc.census
      ∧ (setRequest r s).mc.retry = s.mc.retry ∧ (setRequest r s).mc.configured = s.mc.configured
      ∧ (setRequest r s).mc.lastResolution = s.mc.lastResolution ∧ (setRequest r s).mc.duplicate = s.mc.duplicate
      ∧ (setRequest r s).table = s.table ∧ (setRequest r s).alloc = s.alloc ∧ (setRequest r s).outbox = s.outbox
      ∧ (setRequest r s).line = s.line ∧ (setRequest r s).time = s.time ∧ (setRequest r s).pilot = s.pilot
      ∧ (setRequest r s).events = s.events ∧ (setRequest r s).port = s.port ∧ (setRequest r s).pending = s.pending := ⟨rfl, rfl, rfl, rfl, rfl, rfl, rfl, rfl, rfl, rfl, rfl, rfl, rfl, rfl, rfl, rfl, rfl⟩

@[simp] theorem resolveFirst_keeps (result : CommandResult) (s : State) :
    (resolveFirst result s).pins = s.pins ∧ (resolveFirst result s).mc.station = s.mc.station
      ∧ (resolveFirst result s).mc.identity = s.mc.identity ∧ (resolveFirst result s).mc.census = s.mc.census
      ∧ (resolveFirst result s).mc.retry = s.mc.retry ∧ (resolveFirst result s).mc.configured = s.mc.configured
      ∧ (resolveFirst result s).mc.duplicate = s.mc.duplicate ∧ (resolveFirst result s).table = s.table
      ∧ (resolveFirst result s).alloc = s.alloc ∧ (resolveFirst result s).outbox = s.outbox
      ∧ (resolveFirst result s).line = s.line ∧ (resolveFirst result s).time = s.time
      ∧ (resolveFirst result s).pilot = s.pilot ∧ (resolveFirst result s).events.filter = s.events.filter
      ∧ (resolveFirst result s).events.steering = s.events.steering
      ∧ (resolveFirst result s).events.active = s.events.active
      ∧ (resolveFirst result s).events.acked = s.events.acked
      ∧ (resolveFirst result s).events.popping = s.events.popping ∧ (resolveFirst result s).port = s.port
      ∧ (resolveFirst result s).pending = s.pending := by
  unfold resolveFirst
  simp

@[simp] theorem resolveReached_keeps (s : State) :
    (resolveReached s).pins = s.pins ∧ (resolveReached s).mc.station = s.mc.station
      ∧ (resolveReached s).mc.identity = s.mc.identity ∧ (resolveReached s).mc.census = s.mc.census
      ∧ (resolveReached s).mc.retry = s.mc.retry ∧ (resolveReached s).mc.configured = s.mc.configured
      ∧ (resolveReached s).mc.duplicate = s.mc.duplicate ∧ (resolveReached s).table = s.table
      ∧ (resolveReached s).alloc = s.alloc ∧ (resolveReached s).outbox = s.outbox ∧ (resolveReached s).line = s.line
      ∧ (resolveReached s).time = s.time ∧ (resolveReached s).pilot = s.pilot
      ∧ (resolveReached s).events.filter = s.events.filter ∧ (resolveReached s).events.steering = s.events.steering
      ∧ (resolveReached s).events.active = s.events.active ∧ (resolveReached s).events.acked = s.events.acked
      ∧ (resolveReached s).events.popping = s.events.popping ∧ (resolveReached s).port = s.port
      ∧ (resolveReached s).pending = s.pending := by
  unfold resolveReached
  (repeat' split) <;> simp

@[simp] theorem markOvercommit_keeps (b : Bool) (s : State) :
    (markOvercommit b s).pins = s.pins ∧ (markOvercommit b s).mc = s.mc
      ∧ (markOvercommit b s).table.entries = s.table.entries ∧ (markOvercommit b s).table.sums = s.table.sums
      ∧ (markOvercommit b s).table.nextSnapshot = s.table.nextSnapshot ∧ (markOvercommit b s).alloc = s.alloc
      ∧ (markOvercommit b s).outbox = s.outbox ∧ (markOvercommit b s).line = s.line
      ∧ (markOvercommit b s).time = s.time ∧ (markOvercommit b s).pilot = s.pilot
      ∧ (markOvercommit b s).events.filter = s.events.filter
      ∧ (markOvercommit b s).events.steering = s.events.steering
      ∧ (markOvercommit b s).events.popping = s.events.popping ∧ (markOvercommit b s).port = s.port
      ∧ (markOvercommit b s).pending = s.pending := ⟨rfl, rfl, rfl, rfl, rfl, rfl, rfl, rfl, rfl, rfl, rfl, rfl, rfl, rfl, rfl⟩

@[simp] theorem refreshSums_keeps (s : State) :
    (refreshSums s).pins = s.pins ∧ (refreshSums s).mc = s.mc ∧ (refreshSums s).table.entries = s.table.entries
      ∧ (refreshSums s).table.overcommit = s.table.overcommit
      ∧ (refreshSums s).table.nextSnapshot = s.table.nextSnapshot ∧ (refreshSums s).alloc = s.alloc
      ∧ (refreshSums s).outbox = s.outbox ∧ (refreshSums s).line = s.line ∧ (refreshSums s).time = s.time
      ∧ (refreshSums s).pilot = s.pilot ∧ (refreshSums s).events = s.events ∧ (refreshSums s).port = s.port
      ∧ (refreshSums s).pending = s.pending := by
  unfold refreshSums
  simp

@[simp] theorem clearOvercommit_keeps (s : State) :
    (clearOvercommit s).pins = s.pins ∧ (clearOvercommit s).mc = s.mc
      ∧ (clearOvercommit s).table.entries = s.table.entries ∧ (clearOvercommit s).table.sums = s.table.sums
      ∧ (clearOvercommit s).table.nextSnapshot = s.table.nextSnapshot ∧ (clearOvercommit s).alloc = s.alloc
      ∧ (clearOvercommit s).outbox = s.outbox ∧ (clearOvercommit s).line = s.line ∧ (clearOvercommit s).time = s.time
      ∧ (clearOvercommit s).pilot = s.pilot ∧ (clearOvercommit s).events.filter = s.events.filter
      ∧ (clearOvercommit s).events.steering = s.events.steering
      ∧ (clearOvercommit s).events.popping = s.events.popping ∧ (clearOvercommit s).port = s.port
      ∧ (clearOvercommit s).pending = s.pending := by
  unfold clearOvercommit
  simp

@[simp] theorem clearIfFits_keeps (s : State) :
    (clearIfFits s).pins = s.pins ∧ (clearIfFits s).mc = s.mc ∧ (clearIfFits s).table.entries = s.table.entries
      ∧ (clearIfFits s).table.sums = s.table.sums ∧ (clearIfFits s).table.nextSnapshot = s.table.nextSnapshot
      ∧ (clearIfFits s).alloc = s.alloc ∧ (clearIfFits s).outbox = s.outbox ∧ (clearIfFits s).line = s.line
      ∧ (clearIfFits s).time = s.time ∧ (clearIfFits s).pilot = s.pilot
      ∧ (clearIfFits s).events.filter = s.events.filter ∧ (clearIfFits s).events.steering = s.events.steering
      ∧ (clearIfFits s).events.popping = s.events.popping ∧ (clearIfFits s).port = s.port
      ∧ (clearIfFits s).pending = s.pending := by
  unfold clearIfFits
  (repeat' split) <;> simp

@[simp] theorem cutToFloor_keeps (s : State) :
    (cutToFloor s).pins = s.pins ∧ (cutToFloor s).mc = s.mc ∧ (cutToFloor s).table = s.table
      ∧ (cutToFloor s).alloc.share.lastTx = s.alloc.share.lastTx
      ∧ (cutToFloor s).alloc.share.floor = s.alloc.share.floor
      ∧ (cutToFloor s).alloc.share.priority = s.alloc.share.priority
      ∧ (cutToFloor s).alloc.share.demand = s.alloc.share.demand
      ∧ (cutToFloor s).alloc.share.holdSeq = s.alloc.share.holdSeq
      ∧ (cutToFloor s).alloc.share.claimCounter = s.alloc.share.claimCounter
      ∧ (cutToFloor s).alloc.share.silence = s.alloc.share.silence
      ∧ (cutToFloor s).alloc.share.failures = s.alloc.share.failures
      ∧ (cutToFloor s).alloc.share.backoff = s.alloc.share.backoff ∧ (cutToFloor s).alloc.claim = s.alloc.claim
      ∧ (cutToFloor s).alloc.holdAttempt = s.alloc.holdAttempt ∧ (cutToFloor s).outbox.claim = s.outbox.claim
      ∧ (cutToFloor s).outbox.answers = s.outbox.answers ∧ (cutToFloor s).outbox.answerList = s.outbox.answerList
      ∧ (cutToFloor s).line = s.line ∧ (cutToFloor s).time = s.time
      ∧ (cutToFloor s).pilot.stateCopy = s.pilot.stateCopy ∧ (cutToFloor s).pilot.faultIn = s.pilot.faultIn
      ∧ (cutToFloor s).pilot.loadIn = s.pilot.loadIn ∧ (cutToFloor s).pilot.mode = s.pilot.mode
      ∧ (cutToFloor s).pilot.drive = s.pilot.drive ∧ (cutToFloor s).pilot.duty = s.pilot.duty
      ∧ (cutToFloor s).pilot.applied = s.pilot.applied ∧ (cutToFloor s).pilot.phase = s.pilot.phase
      ∧ (cutToFloor s).pilot.meter = s.pilot.meter ∧ (cutToFloor s).pilot.fullScale = s.pilot.fullScale
      ∧ (cutToFloor s).pilot.polarity = s.pilot.polarity ∧ (cutToFloor s).pilot.periodDue = s.pilot.periodDue
      ∧ (cutToFloor s).pilot.faultDue = s.pilot.faultDue ∧ (cutToFloor s).events.filter = s.events.filter
      ∧ (cutToFloor s).events.steering = s.events.steering ∧ (cutToFloor s).events.active = s.events.active
      ∧ (cutToFloor s).events.acked = s.events.acked ∧ (cutToFloor s).events.popping = s.events.popping
      ∧ (cutToFloor s).port = s.port ∧ (cutToFloor s).pending = s.pending := by
  unfold cutToFloor
  (repeat' split) <;> simp

@[simp] theorem setOvercommit_keeps (source : Option Nat) (s : State) :
    (setOvercommit source s).pins = s.pins ∧ (setOvercommit source s).mc = s.mc
      ∧ (setOvercommit source s).table.entries = s.table.entries
      ∧ (setOvercommit source s).table.nextSnapshot = s.table.nextSnapshot
      ∧ (setOvercommit source s).alloc.share.lastTx = s.alloc.share.lastTx
      ∧ (setOvercommit source s).alloc.share.floor = s.alloc.share.floor
      ∧ (setOvercommit source s).alloc.share.priority = s.alloc.share.priority
      ∧ (setOvercommit source s).alloc.share.demand = s.alloc.share.demand
      ∧ (setOvercommit source s).alloc.share.holdSeq = s.alloc.share.holdSeq
      ∧ (setOvercommit source s).alloc.share.claimCounter = s.alloc.share.claimCounter
      ∧ (setOvercommit source s).alloc.share.silence = s.alloc.share.silence
      ∧ (setOvercommit source s).alloc.holdAttempt = s.alloc.holdAttempt
      ∧ (setOvercommit source s).outbox.answers = s.outbox.answers
      ∧ (setOvercommit source s).outbox.answerList = s.outbox.answerList
      ∧ (setOvercommit source s).line.rx = s.line.rx ∧ (setOvercommit source s).line.idle = s.line.idle
      ∧ (setOvercommit source s).line.bits = s.line.bits ∧ (setOvercommit source s).line.inbox = s.line.inbox
      ∧ (setOvercommit source s).time = s.time ∧ (setOvercommit source s).pilot.stateCopy = s.pilot.stateCopy
      ∧ (setOvercommit source s).pilot.faultIn = s.pilot.faultIn
      ∧ (setOvercommit source s).pilot.loadIn = s.pilot.loadIn ∧ (setOvercommit source s).pilot.mode = s.pilot.mode
      ∧ (setOvercommit source s).pilot.drive = s.pilot.drive ∧ (setOvercommit source s).pilot.duty = s.pilot.duty
      ∧ (setOvercommit source s).pilot.applied = s.pilot.applied
      ∧ (setOvercommit source s).pilot.phase = s.pilot.phase ∧ (setOvercommit source s).pilot.meter = s.pilot.meter
      ∧ (setOvercommit source s).pilot.fullScale = s.pilot.fullScale
      ∧ (setOvercommit source s).pilot.polarity = s.pilot.polarity
      ∧ (setOvercommit source s).pilot.periodDue = s.pilot.periodDue
      ∧ (setOvercommit source s).pilot.faultDue = s.pilot.faultDue
      ∧ (setOvercommit source s).events.filter = s.events.filter
      ∧ (setOvercommit source s).events.steering = s.events.steering
      ∧ (setOvercommit source s).events.popping = s.events.popping ∧ (setOvercommit source s).port = s.port
      ∧ (setOvercommit source s).pending = s.pending := by
  unfold setOvercommit
  simp

@[simp] theorem settleOvercommit_keeps (source : Option Nat) (s : State) :
    (settleOvercommit source s).pins = s.pins ∧ (settleOvercommit source s).mc = s.mc
      ∧ (settleOvercommit source s).table.entries = s.table.entries
      ∧ (settleOvercommit source s).table.nextSnapshot = s.table.nextSnapshot
      ∧ (settleOvercommit source s).alloc.share.lastTx = s.alloc.share.lastTx
      ∧ (settleOvercommit source s).alloc.share.floor = s.alloc.share.floor
      ∧ (settleOvercommit source s).alloc.share.priority = s.alloc.share.priority
      ∧ (settleOvercommit source s).alloc.share.demand = s.alloc.share.demand
      ∧ (settleOvercommit source s).alloc.share.holdSeq = s.alloc.share.holdSeq
      ∧ (settleOvercommit source s).alloc.share.claimCounter = s.alloc.share.claimCounter
      ∧ (settleOvercommit source s).alloc.share.silence = s.alloc.share.silence
      ∧ (settleOvercommit source s).alloc.holdAttempt = s.alloc.holdAttempt
      ∧ (settleOvercommit source s).outbox.answers = s.outbox.answers
      ∧ (settleOvercommit source s).outbox.answerList = s.outbox.answerList
      ∧ (settleOvercommit source s).line.rx = s.line.rx ∧ (settleOvercommit source s).line.idle = s.line.idle
      ∧ (settleOvercommit source s).line.bits = s.line.bits ∧ (settleOvercommit source s).line.inbox = s.line.inbox
      ∧ (settleOvercommit source s).time = s.time ∧ (settleOvercommit source s).pilot.stateCopy = s.pilot.stateCopy
      ∧ (settleOvercommit source s).pilot.faultIn = s.pilot.faultIn
      ∧ (settleOvercommit source s).pilot.loadIn = s.pilot.loadIn
      ∧ (settleOvercommit source s).pilot.mode = s.pilot.mode
      ∧ (settleOvercommit source s).pilot.drive = s.pilot.drive
      ∧ (settleOvercommit source s).pilot.duty = s.pilot.duty
      ∧ (settleOvercommit source s).pilot.applied = s.pilot.applied
      ∧ (settleOvercommit source s).pilot.phase = s.pilot.phase
      ∧ (settleOvercommit source s).pilot.meter = s.pilot.meter
      ∧ (settleOvercommit source s).pilot.fullScale = s.pilot.fullScale
      ∧ (settleOvercommit source s).pilot.polarity = s.pilot.polarity
      ∧ (settleOvercommit source s).pilot.periodDue = s.pilot.periodDue
      ∧ (settleOvercommit source s).pilot.faultDue = s.pilot.faultDue
      ∧ (settleOvercommit source s).events.filter = s.events.filter
      ∧ (settleOvercommit source s).events.steering = s.events.steering
      ∧ (settleOvercommit source s).events.popping = s.events.popping ∧ (settleOvercommit source s).port = s.port
      ∧ (settleOvercommit source s).pending = s.pending := by
  unfold settleOvercommit
  (repeat' split) <;> simp

@[simp] theorem settle_keeps (source : Option Nat) (s : State) :
    (settle source s).pins = s.pins ∧ (settle source s).mc = s.mc
      ∧ (settle source s).table.entries = s.table.entries
      ∧ (settle source s).table.nextSnapshot = s.table.nextSnapshot
      ∧ (settle source s).alloc.share.lastTx = s.alloc.share.lastTx
      ∧ (settle source s).alloc.share.floor = s.alloc.share.floor
      ∧ (settle source s).alloc.share.priority = s.alloc.share.priority
      ∧ (settle source s).alloc.share.demand = s.alloc.share.demand
      ∧ (settle source s).alloc.share.holdSeq = s.alloc.share.holdSeq
      ∧ (settle source s).alloc.share.claimCounter = s.alloc.share.claimCounter
      ∧ (settle source s).alloc.share.silence = s.alloc.share.silence
      ∧ (settle source s).alloc.holdAttempt = s.alloc.holdAttempt
      ∧ (settle source s).outbox.answers = s.outbox.answers
      ∧ (settle source s).outbox.answerList = s.outbox.answerList ∧ (settle source s).line.rx = s.line.rx
      ∧ (settle source s).line.idle = s.line.idle ∧ (settle source s).line.bits = s.line.bits
      ∧ (settle source s).line.inbox = s.line.inbox ∧ (settle source s).time = s.time
      ∧ (settle source s).pilot.stateCopy = s.pilot.stateCopy ∧ (settle source s).pilot.faultIn = s.pilot.faultIn
      ∧ (settle source s).pilot.loadIn = s.pilot.loadIn ∧ (settle source s).pilot.mode = s.pilot.mode
      ∧ (settle source s).pilot.drive = s.pilot.drive ∧ (settle source s).pilot.duty = s.pilot.duty
      ∧ (settle source s).pilot.applied = s.pilot.applied ∧ (settle source s).pilot.phase = s.pilot.phase
      ∧ (settle source s).pilot.meter = s.pilot.meter ∧ (settle source s).pilot.fullScale = s.pilot.fullScale
      ∧ (settle source s).pilot.polarity = s.pilot.polarity ∧ (settle source s).pilot.periodDue = s.pilot.periodDue
      ∧ (settle source s).pilot.faultDue = s.pilot.faultDue ∧ (settle source s).events.filter = s.events.filter
      ∧ (settle source s).events.steering = s.events.steering ∧ (settle source s).events.popping = s.events.popping
      ∧ (settle source s).port = s.port ∧ (settle source s).pending = s.pending := by
  unfold settle
  simp

@[simp] theorem openClaim_keeps (kind : ClaimKind) (amount : Nat) (s : State) :
    (openClaim kind amount s).pins = s.pins ∧ (openClaim kind amount s).mc = s.mc
      ∧ (openClaim kind amount s).table = s.table ∧ (openClaim kind amount s).alloc.share.held = s.alloc.share.held
      ∧ (openClaim kind amount s).alloc.share.lastTx = s.alloc.share.lastTx
      ∧ (openClaim kind amount s).alloc.share.floor = s.alloc.share.floor
      ∧ (openClaim kind amount s).alloc.share.priority = s.alloc.share.priority
      ∧ (openClaim kind amount s).alloc.share.demand = s.alloc.share.demand
      ∧ (openClaim kind amount s).alloc.share.holdSeq = s.alloc.share.holdSeq
      ∧ (openClaim kind amount s).alloc.share.silence = s.alloc.share.silence
      ∧ (openClaim kind amount s).alloc.share.failures = s.alloc.share.failures
      ∧ (openClaim kind amount s).alloc.share.backoff = s.alloc.share.backoff
      ∧ (openClaim kind amount s).alloc.holdAttempt = s.alloc.holdAttempt
      ∧ (openClaim kind amount s).outbox.hold = s.outbox.hold
      ∧ (openClaim kind amount s).outbox.answers = s.outbox.answers
      ∧ (openClaim kind amount s).outbox.answerList = s.outbox.answerList ∧ (openClaim kind amount s).line = s.line
      ∧ (openClaim kind amount s).time = s.time ∧ (openClaim kind amount s).pilot = s.pilot
      ∧ (openClaim kind amount s).events = s.events ∧ (openClaim kind amount s).port = s.port
      ∧ (openClaim kind amount s).pending = s.pending := 
    ⟨rfl, rfl, rfl, rfl, rfl, rfl, rfl, rfl, rfl, rfl, rfl, rfl, rfl, rfl, rfl, rfl, rfl, rfl, rfl, rfl,
    rfl, rfl⟩

@[simp] theorem tryStart_keeps (s : State) :
    (tryStart s).pins = s.pins ∧ (tryStart s).mc = s.mc ∧ (tryStart s).table.entries = s.table.entries
      ∧ (tryStart s).table.overcommit = s.table.overcommit ∧ (tryStart s).table.nextSnapshot = s.table.nextSnapshot
      ∧ (tryStart s).alloc.share.held = s.alloc.share.held ∧ (tryStart s).alloc.share.lastTx = s.alloc.share.lastTx
      ∧ (tryStart s).alloc.share.floor = s.alloc.share.floor
      ∧ (tryStart s).alloc.share.priority = s.alloc.share.priority
      ∧ (tryStart s).alloc.share.demand = s.alloc.share.demand
      ∧ (tryStart s).alloc.share.holdSeq = s.alloc.share.holdSeq
      ∧ (tryStart s).alloc.share.silence = s.alloc.share.silence
      ∧ (tryStart s).alloc.share.failures = s.alloc.share.failures
      ∧ (tryStart s).alloc.share.backoff = s.alloc.share.backoff
      ∧ (tryStart s).alloc.holdAttempt = s.alloc.holdAttempt ∧ (tryStart s).outbox.hold = s.outbox.hold
      ∧ (tryStart s).outbox.answers = s.outbox.answers ∧ (tryStart s).outbox.answerList = s.outbox.answerList
      ∧ (tryStart s).line = s.line ∧ (tryStart s).time = s.time ∧ (tryStart s).pilot = s.pilot
      ∧ (tryStart s).events = s.events ∧ (tryStart s).port = s.port ∧ (tryStart s).pending = s.pending := by
  unfold tryStart
  (repeat' split) <;> simp

@[simp] theorem endUpdate_keeps (source : Option Nat) (s : State) :
    (endUpdate source s).pins = s.pins ∧ (endUpdate source s).mc = s.mc
      ∧ (endUpdate source s).table.entries = s.table.entries
      ∧ (endUpdate source s).table.nextSnapshot = s.table.nextSnapshot
      ∧ (endUpdate source s).alloc.share.lastTx = s.alloc.share.lastTx
      ∧ (endUpdate source s).alloc.share.floor = s.alloc.share.floor
      ∧ (endUpdate source s).alloc.share.priority = s.alloc.share.priority
      ∧ (endUpdate source s).alloc.share.demand = s.alloc.share.demand
      ∧ (endUpdate source s).alloc.share.holdSeq = s.alloc.share.holdSeq
      ∧ (endUpdate source s).alloc.share.silence = s.alloc.share.silence
      ∧ (endUpdate source s).alloc.holdAttempt = s.alloc.holdAttempt
      ∧ (endUpdate source s).outbox.answers = s.outbox.answers
      ∧ (endUpdate source s).outbox.answerList = s.outbox.answerList ∧ (endUpdate source s).line.rx = s.line.rx
      ∧ (endUpdate source s).line.idle = s.line.idle ∧ (endUpdate source s).line.bits = s.line.bits
      ∧ (endUpdate source s).line.inbox = s.line.inbox ∧ (endUpdate source s).time = s.time
      ∧ (endUpdate source s).pilot.stateCopy = s.pilot.stateCopy
      ∧ (endUpdate source s).pilot.faultIn = s.pilot.faultIn ∧ (endUpdate source s).pilot.loadIn = s.pilot.loadIn
      ∧ (endUpdate source s).pilot.mode = s.pilot.mode ∧ (endUpdate source s).pilot.drive = s.pilot.drive
      ∧ (endUpdate source s).pilot.duty = s.pilot.duty ∧ (endUpdate source s).pilot.applied = s.pilot.applied
      ∧ (endUpdate source s).pilot.phase = s.pilot.phase ∧ (endUpdate source s).pilot.meter = s.pilot.meter
      ∧ (endUpdate source s).pilot.fullScale = s.pilot.fullScale
      ∧ (endUpdate source s).pilot.polarity = s.pilot.polarity
      ∧ (endUpdate source s).pilot.periodDue = s.pilot.periodDue
      ∧ (endUpdate source s).pilot.faultDue = s.pilot.faultDue ∧ (endUpdate source s).events.filter = s.events.filter
      ∧ (endUpdate source s).events.steering = s.events.steering
      ∧ (endUpdate source s).events.popping = s.events.popping ∧ (endUpdate source s).port = s.port
      ∧ (endUpdate source s).pending = s.pending := by
  unfold endUpdate
  simp

/-- The end of a step is that of an update, or the step ends as it is (R7; log 36). -/
theorem endIfChanged_cases (before after : State) :
    (endIfChanged before after = endUpdate none after ∧ recordsChanged before after = true)
      ∨ (endIfChanged before after = after ∧ recordsChanged before after = false) := by
  unfold endIfChanged
  by_cases h : recordsChanged before after = true <;> simp [h]

/-- Nothing of the table's entries and of the own records has changed. -/
theorem recordsChanged_eq_false (before after : State) :
    recordsChanged before after = false ↔
      after.table.entries = before.table.entries ∧ after.alloc.share = before.alloc.share
        ∧ after.alloc.claim = before.alloc.claim := by
  simp [recordsChanged, and_assoc]

/-- A step that changed no entry and no own record is no update (R7). -/
theorem endIfChanged_same (before after : State) (he : after.table.entries = before.table.entries)
    (hs : after.alloc.share = before.alloc.share) (hc : after.alloc.claim = before.alloc.claim) :
    endIfChanged before after = after := by
  simp [endIfChanged, (recordsChanged_eq_false before after).2 ⟨he, hs, hc⟩]

/-- A step that changed the own claim record is an update (R7, R79). -/
theorem endIfChanged_claim (before after : State) (hc : after.alloc.claim ≠ before.alloc.claim) :
    endIfChanged before after = endUpdate none after := by
  simp [endIfChanged, recordsChanged, hc]

/-- A step that changed an entry is an update (R7). -/
theorem endIfChanged_entries (before after : State) (he : after.table.entries ≠ before.table.entries) :
    endIfChanged before after = endUpdate none after := by
  simp [endIfChanged, recordsChanged, he]

@[simp] theorem endIfChanged_keeps (before after : State) :
    (endIfChanged before after).pins = after.pins ∧ (endIfChanged before after).mc = after.mc
      ∧ (endIfChanged before after).table.entries = after.table.entries
      ∧ (endIfChanged before after).table.nextSnapshot = after.table.nextSnapshot
      ∧ (endIfChanged before after).alloc.share.lastTx = after.alloc.share.lastTx
      ∧ (endIfChanged before after).alloc.share.floor = after.alloc.share.floor
      ∧ (endIfChanged before after).alloc.share.priority = after.alloc.share.priority
      ∧ (endIfChanged before after).alloc.share.demand = after.alloc.share.demand
      ∧ (endIfChanged before after).alloc.share.holdSeq = after.alloc.share.holdSeq
      ∧ (endIfChanged before after).alloc.share.silence = after.alloc.share.silence
      ∧ (endIfChanged before after).alloc.holdAttempt = after.alloc.holdAttempt
      ∧ (endIfChanged before after).outbox.answers = after.outbox.answers
      ∧ (endIfChanged before after).outbox.answerList = after.outbox.answerList
      ∧ (endIfChanged before after).line.rx = after.line.rx ∧ (endIfChanged before after).line.idle = after.line.idle
      ∧ (endIfChanged before after).line.bits = after.line.bits
      ∧ (endIfChanged before after).line.inbox = after.line.inbox ∧ (endIfChanged before after).time = after.time
      ∧ (endIfChanged before after).pilot.stateCopy = after.pilot.stateCopy
      ∧ (endIfChanged before after).pilot.faultIn = after.pilot.faultIn
      ∧ (endIfChanged before after).pilot.loadIn = after.pilot.loadIn
      ∧ (endIfChanged before after).pilot.mode = after.pilot.mode
      ∧ (endIfChanged before after).pilot.drive = after.pilot.drive
      ∧ (endIfChanged before after).pilot.duty = after.pilot.duty
      ∧ (endIfChanged before after).pilot.applied = after.pilot.applied
      ∧ (endIfChanged before after).pilot.phase = after.pilot.phase
      ∧ (endIfChanged before after).pilot.meter = after.pilot.meter
      ∧ (endIfChanged before after).pilot.fullScale = after.pilot.fullScale
      ∧ (endIfChanged before after).pilot.polarity = after.pilot.polarity
      ∧ (endIfChanged before after).pilot.periodDue = after.pilot.periodDue
      ∧ (endIfChanged before after).pilot.faultDue = after.pilot.faultDue
      ∧ (endIfChanged before after).events.filter = after.events.filter
      ∧ (endIfChanged before after).events.steering = after.events.steering
      ∧ (endIfChanged before after).events.popping = after.events.popping
      ∧ (endIfChanged before after).port = after.port ∧ (endIfChanged before after).pending = after.pending := by
  unfold endIfChanged
  (repeat' split) <;> simp

@[simp] theorem discardSlots_keeps (new : StationState) (s : State) :
    (discardSlots new s).pins = s.pins ∧ (discardSlots new s).mc = s.mc
      ∧ (discardSlots new s).table.sums = s.table.sums ∧ (discardSlots new s).table.overcommit = s.table.overcommit
      ∧ (discardSlots new s).table.nextSnapshot = s.table.nextSnapshot ∧ (discardSlots new s).alloc = s.alloc
      ∧ (discardSlots new s).line.idle = s.line.idle ∧ (discardSlots new s).line.bits = s.line.bits
      ∧ (discardSlots new s).time = s.time ∧ (discardSlots new s).pilot = s.pilot
      ∧ (discardSlots new s).events.filter = s.events.filter
      ∧ (discardSlots new s).events.steering = s.events.steering
      ∧ (discardSlots new s).events.active = s.events.active ∧ (discardSlots new s).events.acked = s.events.acked
      ∧ (discardSlots new s).events.popping = s.events.popping ∧ (discardSlots new s).port = s.port
      ∧ (discardSlots new s).pending = s.pending := by
  unfold discardSlots
  (repeat' split) <;> simp

@[simp] theorem setStation_keeps (new : StationState) (s : State) :
    (setStation new s).pins = s.pins ∧ (setStation new s).mc.identity = s.mc.identity
      ∧ (setStation new s).mc.census = s.mc.census ∧ (setStation new s).mc.retry = s.mc.retry
      ∧ (setStation new s).mc.configured = s.mc.configured ∧ (setStation new s).mc.request = s.mc.request
      ∧ (setStation new s).mc.lastResolution = s.mc.lastResolution ∧ (setStation new s).mc.duplicate = s.mc.duplicate
      ∧ (setStation new s).table = s.table ∧ (setStation new s).alloc = s.alloc ∧ (setStation new s).outbox = s.outbox
      ∧ (setStation new s).line = s.line ∧ (setStation new s).time = s.time
      ∧ (setStation new s).pilot.requested = s.pilot.requested ∧ (setStation new s).pilot.former = s.pilot.former
      ∧ (setStation new s).pilot.faultIn = s.pilot.faultIn ∧ (setStation new s).pilot.loadIn = s.pilot.loadIn
      ∧ (setStation new s).pilot.mode = s.pilot.mode ∧ (setStation new s).pilot.drive = s.pilot.drive
      ∧ (setStation new s).pilot.duty = s.pilot.duty ∧ (setStation new s).pilot.applied = s.pilot.applied
      ∧ (setStation new s).pilot.phase = s.pilot.phase ∧ (setStation new s).pilot.meter = s.pilot.meter
      ∧ (setStation new s).pilot.fullScale = s.pilot.fullScale ∧ (setStation new s).pilot.polarity = s.pilot.polarity
      ∧ (setStation new s).pilot.periodDue = s.pilot.periodDue ∧ (setStation new s).pilot.faultDue = s.pilot.faultDue
      ∧ (setStation new s).events.filter = s.events.filter ∧ (setStation new s).events.steering = s.events.steering
      ∧ (setStation new s).events.popping = s.events.popping ∧ (setStation new s).port = s.port
      ∧ (setStation new s).pending = s.pending := 
    ⟨rfl, rfl, rfl, rfl, rfl, rfl, rfl, rfl, rfl, rfl, rfl, rfl, rfl, rfl, rfl, rfl, rfl, rfl, rfl, rfl,
    rfl, rfl, rfl, rfl, rfl, rfl, rfl, rfl, rfl, rfl, rfl, rfl⟩

@[simp] theorem abandonOutside_keeps (new : StationState) (s : State) :
    (abandonOutside new s).pins = s.pins ∧ (abandonOutside new s).mc = s.mc ∧ (abandonOutside new s).table = s.table
      ∧ (abandonOutside new s).alloc.share.held = s.alloc.share.held
      ∧ (abandonOutside new s).alloc.share.lastTx = s.alloc.share.lastTx
      ∧ (abandonOutside new s).alloc.share.floor = s.alloc.share.floor
      ∧ (abandonOutside new s).alloc.share.priority = s.alloc.share.priority
      ∧ (abandonOutside new s).alloc.share.demand = s.alloc.share.demand
      ∧ (abandonOutside new s).alloc.share.holdSeq = s.alloc.share.holdSeq
      ∧ (abandonOutside new s).alloc.share.claimCounter = s.alloc.share.claimCounter
      ∧ (abandonOutside new s).alloc.share.silence = s.alloc.share.silence
      ∧ (abandonOutside new s).alloc.holdAttempt = s.alloc.holdAttempt
      ∧ (abandonOutside new s).outbox.hold = s.outbox.hold ∧ (abandonOutside new s).outbox.answers = s.outbox.answers
      ∧ (abandonOutside new s).outbox.answerList = s.outbox.answerList ∧ (abandonOutside new s).line.rx = s.line.rx
      ∧ (abandonOutside new s).line.idle = s.line.idle ∧ (abandonOutside new s).line.bits = s.line.bits
      ∧ (abandonOutside new s).line.inbox = s.line.inbox ∧ (abandonOutside new s).time = s.time
      ∧ (abandonOutside new s).pilot = s.pilot ∧ (abandonOutside new s).events.filter = s.events.filter
      ∧ (abandonOutside new s).events.steering = s.events.steering
      ∧ (abandonOutside new s).events.active = s.events.active ∧ (abandonOutside new s).events.acked = s.events.acked
      ∧ (abandonOutside new s).events.popping = s.events.popping ∧ (abandonOutside new s).port = s.port
      ∧ (abandonOutside new s).pending = s.pending := by
  unfold abandonOutside
  (repeat' split) <;> simp

@[simp] theorem dropEarmarksLeaving_keeps (old new : StationState) (s : State) :
    (dropEarmarksLeaving old new s).pins = s.pins ∧ (dropEarmarksLeaving old new s).mc = s.mc
      ∧ (dropEarmarksLeaving old new s).table.sums = s.table.sums
      ∧ (dropEarmarksLeaving old new s).table.overcommit = s.table.overcommit
      ∧ (dropEarmarksLeaving old new s).table.nextSnapshot = s.table.nextSnapshot
      ∧ (dropEarmarksLeaving old new s).alloc = s.alloc ∧ (dropEarmarksLeaving old new s).outbox = s.outbox
      ∧ (dropEarmarksLeaving old new s).line = s.line ∧ (dropEarmarksLeaving old new s).time = s.time
      ∧ (dropEarmarksLeaving old new s).pilot = s.pilot
      ∧ (dropEarmarksLeaving old new s).events.filter = s.events.filter
      ∧ (dropEarmarksLeaving old new s).events.steering = s.events.steering
      ∧ (dropEarmarksLeaving old new s).events.active = s.events.active
      ∧ (dropEarmarksLeaving old new s).events.acked = s.events.acked
      ∧ (dropEarmarksLeaving old new s).events.popping = s.events.popping
      ∧ (dropEarmarksLeaving old new s).port = s.port ∧ (dropEarmarksLeaving old new s).pending = s.pending := by
  unfold dropEarmarksLeaving
  (repeat' split) <;> simp

@[simp] theorem heldForState_keeps (new : StationState) (s : State) :
    (heldForState new s).pins = s.pins ∧ (heldForState new s).mc = s.mc ∧ (heldForState new s).table = s.table
      ∧ (heldForState new s).alloc.share.lastTx = s.alloc.share.lastTx
      ∧ (heldForState new s).alloc.share.floor = s.alloc.share.floor
      ∧ (heldForState new s).alloc.share.priority = s.alloc.share.priority
      ∧ (heldForState new s).alloc.share.demand = s.alloc.share.demand
      ∧ (heldForState new s).alloc.share.holdSeq = s.alloc.share.holdSeq
      ∧ (heldForState new s).alloc.share.claimCounter = s.alloc.share.claimCounter
      ∧ (heldForState new s).alloc.share.silence = s.alloc.share.silence
      ∧ (heldForState new s).alloc.share.failures = s.alloc.share.failures
      ∧ (heldForState new s).alloc.share.backoff = s.alloc.share.backoff
      ∧ (heldForState new s).alloc.claim = s.alloc.claim
      ∧ (heldForState new s).alloc.holdAttempt = s.alloc.holdAttempt ∧ (heldForState new s).outbox = s.outbox
      ∧ (heldForState new s).line = s.line ∧ (heldForState new s).time = s.time
      ∧ (heldForState new s).pilot.stateCopy = s.pilot.stateCopy
      ∧ (heldForState new s).pilot.faultIn = s.pilot.faultIn ∧ (heldForState new s).pilot.loadIn = s.pilot.loadIn
      ∧ (heldForState new s).pilot.mode = s.pilot.mode ∧ (heldForState new s).pilot.drive = s.pilot.drive
      ∧ (heldForState new s).pilot.duty = s.pilot.duty ∧ (heldForState new s).pilot.applied = s.pilot.applied
      ∧ (heldForState new s).pilot.phase = s.pilot.phase ∧ (heldForState new s).pilot.meter = s.pilot.meter
      ∧ (heldForState new s).pilot.fullScale = s.pilot.fullScale
      ∧ (heldForState new s).pilot.polarity = s.pilot.polarity
      ∧ (heldForState new s).pilot.periodDue = s.pilot.periodDue
      ∧ (heldForState new s).pilot.faultDue = s.pilot.faultDue ∧ (heldForState new s).events = s.events
      ∧ (heldForState new s).port = s.port ∧ (heldForState new s).pending = s.pending := by
  unfold heldForState
  (repeat' split) <;> simp

@[simp] theorem clearRetry_keeps (new : StationState) (s : State) :
    (clearRetry new s).pins = s.pins ∧ (clearRetry new s).mc.station = s.mc.station
      ∧ (clearRetry new s).mc.identity = s.mc.identity ∧ (clearRetry new s).mc.census = s.mc.census
      ∧ (clearRetry new s).mc.configured = s.mc.configured ∧ (clearRetry new s).mc.request = s.mc.request
      ∧ (clearRetry new s).mc.lastResolution = s.mc.lastResolution ∧ (clearRetry new s).mc.duplicate = s.mc.duplicate
      ∧ (clearRetry new s).table = s.table ∧ (clearRetry new s).alloc = s.alloc ∧ (clearRetry new s).outbox = s.outbox
      ∧ (clearRetry new s).line = s.line ∧ (clearRetry new s).time = s.time ∧ (clearRetry new s).pilot = s.pilot
      ∧ (clearRetry new s).events = s.events ∧ (clearRetry new s).port = s.port
      ∧ (clearRetry new s).pending = s.pending := by
  unfold clearRetry
  (repeat' split) <;> simp

@[simp] theorem keepFormer_keeps (before s : State) :
    (keepFormer before s).pins = s.pins ∧ (keepFormer before s).mc = s.mc ∧ (keepFormer before s).table = s.table
      ∧ (keepFormer before s).alloc = s.alloc ∧ (keepFormer before s).outbox = s.outbox
      ∧ (keepFormer before s).line = s.line ∧ (keepFormer before s).time = s.time
      ∧ (keepFormer before s).pilot.requested = s.pilot.requested
      ∧ (keepFormer before s).pilot.stateCopy = s.pilot.stateCopy
      ∧ (keepFormer before s).pilot.faultIn = s.pilot.faultIn ∧ (keepFormer before s).pilot.loadIn = s.pilot.loadIn
      ∧ (keepFormer before s).pilot.mode = s.pilot.mode ∧ (keepFormer before s).pilot.drive = s.pilot.drive
      ∧ (keepFormer before s).pilot.duty = s.pilot.duty ∧ (keepFormer before s).pilot.applied = s.pilot.applied
      ∧ (keepFormer before s).pilot.phase = s.pilot.phase ∧ (keepFormer before s).pilot.meter = s.pilot.meter
      ∧ (keepFormer before s).pilot.fullScale = s.pilot.fullScale
      ∧ (keepFormer before s).pilot.polarity = s.pilot.polarity
      ∧ (keepFormer before s).pilot.periodDue = s.pilot.periodDue
      ∧ (keepFormer before s).pilot.faultDue = s.pilot.faultDue ∧ (keepFormer before s).events = s.events
      ∧ (keepFormer before s).port = s.port ∧ (keepFormer before s).pending = s.pending := 
    ⟨rfl, rfl, rfl, rfl, rfl, rfl, rfl, rfl, rfl, rfl, rfl, rfl, rfl, rfl, rfl, rfl, rfl, rfl, rfl, rfl,
    rfl, rfl, rfl, rfl⟩

@[simp] theorem changeState_keeps (new : StationState) (s : State) :
    (changeState new s).pins = s.pins ∧ (changeState new s).mc.identity = s.mc.identity
      ∧ (changeState new s).mc.census = s.mc.census ∧ (changeState new s).mc.configured = s.mc.configured
      ∧ (changeState new s).mc.duplicate = s.mc.duplicate
      ∧ (changeState new s).table.nextSnapshot = s.table.nextSnapshot
      ∧ (changeState new s).alloc.share.lastTx = s.alloc.share.lastTx
      ∧ (changeState new s).alloc.share.floor = s.alloc.share.floor
      ∧ (changeState new s).alloc.share.priority = s.alloc.share.priority
      ∧ (changeState new s).alloc.share.demand = s.alloc.share.demand
      ∧ (changeState new s).alloc.share.holdSeq = s.alloc.share.holdSeq
      ∧ (changeState new s).alloc.share.claimCounter = s.alloc.share.claimCounter
      ∧ (changeState new s).alloc.share.silence = s.alloc.share.silence
      ∧ (changeState new s).alloc.holdAttempt = s.alloc.holdAttempt ∧ (changeState new s).line.idle = s.line.idle
      ∧ (changeState new s).line.bits = s.line.bits ∧ (changeState new s).time = s.time
      ∧ (changeState new s).pilot.faultIn = s.pilot.faultIn ∧ (changeState new s).pilot.loadIn = s.pilot.loadIn
      ∧ (changeState new s).pilot.mode = s.pilot.mode ∧ (changeState new s).pilot.drive = s.pilot.drive
      ∧ (changeState new s).pilot.duty = s.pilot.duty ∧ (changeState new s).pilot.applied = s.pilot.applied
      ∧ (changeState new s).pilot.phase = s.pilot.phase ∧ (changeState new s).pilot.meter = s.pilot.meter
      ∧ (changeState new s).pilot.fullScale = s.pilot.fullScale
      ∧ (changeState new s).pilot.polarity = s.pilot.polarity
      ∧ (changeState new s).pilot.periodDue = s.pilot.periodDue
      ∧ (changeState new s).pilot.faultDue = s.pilot.faultDue ∧ (changeState new s).events.filter = s.events.filter
      ∧ (changeState new s).events.steering = s.events.steering
      ∧ (changeState new s).events.popping = s.events.popping ∧ (changeState new s).port = s.port
      ∧ (changeState new s).pending = s.pending := by
  unfold changeState
  simp

@[simp] theorem clearSilence_keeps (s : State) :
    (clearSilence s).pins = s.pins ∧ (clearSilence s).mc = s.mc ∧ (clearSilence s).table = s.table
      ∧ (clearSilence s).alloc.share.held = s.alloc.share.held
      ∧ (clearSilence s).alloc.share.lastTx = s.alloc.share.lastTx
      ∧ (clearSilence s).alloc.share.floor = s.alloc.share.floor
      ∧ (clearSilence s).alloc.share.priority = s.alloc.share.priority
      ∧ (clearSilence s).alloc.share.demand = s.alloc.share.demand
      ∧ (clearSilence s).alloc.share.holdSeq = s.alloc.share.holdSeq
      ∧ (clearSilence s).alloc.share.claimCounter = s.alloc.share.claimCounter
      ∧ (clearSilence s).alloc.share.failures = s.alloc.share.failures
      ∧ (clearSilence s).alloc.share.backoff = s.alloc.share.backoff ∧ (clearSilence s).alloc.claim = s.alloc.claim
      ∧ (clearSilence s).alloc.holdAttempt = s.alloc.holdAttempt ∧ (clearSilence s).outbox = s.outbox
      ∧ (clearSilence s).line = s.line ∧ (clearSilence s).time = s.time ∧ (clearSilence s).pilot = s.pilot
      ∧ (clearSilence s).events = s.events ∧ (clearSilence s).port = s.port ∧ (clearSilence s).pending = s.pending := 
    ⟨rfl, rfl, rfl, rfl, rfl, rfl, rfl, rfl, rfl, rfl, rfl, rfl, rfl, rfl, rfl, rfl, rfl, rfl, rfl, rfl,
    rfl⟩

@[simp] theorem enterJoining_keeps (s : State) :
    (enterJoining s).pins = s.pins ∧ (enterJoining s).mc.identity = s.mc.identity
      ∧ (enterJoining s).mc.census = s.mc.census ∧ (enterJoining s).mc.configured = s.mc.configured
      ∧ (enterJoining s).mc.duplicate = s.mc.duplicate ∧ (enterJoining s).table.nextSnapshot = s.table.nextSnapshot
      ∧ (enterJoining s).alloc.share.lastTx = s.alloc.share.lastTx
      ∧ (enterJoining s).alloc.share.floor = s.alloc.share.floor
      ∧ (enterJoining s).alloc.share.priority = s.alloc.share.priority
      ∧ (enterJoining s).alloc.share.demand = s.alloc.share.demand
      ∧ (enterJoining s).alloc.share.holdSeq = s.alloc.share.holdSeq
      ∧ (enterJoining s).alloc.holdAttempt = s.alloc.holdAttempt ∧ (enterJoining s).line.idle = s.line.idle
      ∧ (enterJoining s).line.bits = s.line.bits ∧ (enterJoining s).time = s.time
      ∧ (enterJoining s).pilot.faultIn = s.pilot.faultIn ∧ (enterJoining s).pilot.loadIn = s.pilot.loadIn
      ∧ (enterJoining s).pilot.mode = s.pilot.mode ∧ (enterJoining s).pilot.drive = s.pilot.drive
      ∧ (enterJoining s).pilot.duty = s.pilot.duty ∧ (enterJoining s).pilot.applied = s.pilot.applied
      ∧ (enterJoining s).pilot.phase = s.pilot.phase ∧ (enterJoining s).pilot.meter = s.pilot.meter
      ∧ (enterJoining s).pilot.fullScale = s.pilot.fullScale ∧ (enterJoining s).pilot.polarity = s.pilot.polarity
      ∧ (enterJoining s).pilot.periodDue = s.pilot.periodDue ∧ (enterJoining s).pilot.faultDue = s.pilot.faultDue
      ∧ (enterJoining s).events.filter = s.events.filter ∧ (enterJoining s).events.steering = s.events.steering
      ∧ (enterJoining s).events.popping = s.events.popping ∧ (enterJoining s).port = s.port
      ∧ (enterJoining s).pending = s.pending := by
  unfold enterJoining
  simp

@[simp] theorem afterClaim_keeps (kind : ClaimKind) (state : StationState) (s : State) :
    (afterClaim kind state s).pins = s.pins ∧ (afterClaim kind state s).mc.identity = s.mc.identity
      ∧ (afterClaim kind state s).mc.census = s.mc.census ∧ (afterClaim kind state s).mc.configured = s.mc.configured
      ∧ (afterClaim kind state s).mc.duplicate = s.mc.duplicate
      ∧ (afterClaim kind state s).table.nextSnapshot = s.table.nextSnapshot
      ∧ (afterClaim kind state s).alloc.share.lastTx = s.alloc.share.lastTx
      ∧ (afterClaim kind state s).alloc.share.floor = s.alloc.share.floor
      ∧ (afterClaim kind state s).alloc.share.priority = s.alloc.share.priority
      ∧ (afterClaim kind state s).alloc.share.demand = s.alloc.share.demand
      ∧ (afterClaim kind state s).alloc.share.holdSeq = s.alloc.share.holdSeq
      ∧ (afterClaim kind state s).alloc.share.claimCounter = s.alloc.share.claimCounter
      ∧ (afterClaim kind state s).alloc.share.silence = s.alloc.share.silence
      ∧ (afterClaim kind state s).alloc.holdAttempt = s.alloc.holdAttempt
      ∧ (afterClaim kind state s).line.idle = s.line.idle ∧ (afterClaim kind state s).line.bits = s.line.bits
      ∧ (afterClaim kind state s).time = s.time ∧ (afterClaim kind state s).pilot.faultIn = s.pilot.faultIn
      ∧ (afterClaim kind state s).pilot.loadIn = s.pilot.loadIn ∧ (afterClaim kind state s).pilot.mode = s.pilot.mode
      ∧ (afterClaim kind state s).pilot.drive = s.pilot.drive ∧ (afterClaim kind state s).pilot.duty = s.pilot.duty
      ∧ (afterClaim kind state s).pilot.applied = s.pilot.applied
      ∧ (afterClaim kind state s).pilot.phase = s.pilot.phase ∧ (afterClaim kind state s).pilot.meter = s.pilot.meter
      ∧ (afterClaim kind state s).pilot.fullScale = s.pilot.fullScale
      ∧ (afterClaim kind state s).pilot.polarity = s.pilot.polarity
      ∧ (afterClaim kind state s).pilot.periodDue = s.pilot.periodDue
      ∧ (afterClaim kind state s).pilot.faultDue = s.pilot.faultDue
      ∧ (afterClaim kind state s).events.filter = s.events.filter
      ∧ (afterClaim kind state s).events.steering = s.events.steering
      ∧ (afterClaim kind state s).events.popping = s.events.popping ∧ (afterClaim kind state s).port = s.port
      ∧ (afterClaim kind state s).pending = s.pending := by
  unfold afterClaim
  (repeat' split) <;> simp

@[simp] theorem failClaim_keeps (reason : EndReason) (objector : Option Nat) (s : State) :
    (failClaim reason objector s).pins = s.pins ∧ (failClaim reason objector s).mc.identity = s.mc.identity
      ∧ (failClaim reason objector s).mc.census = s.mc.census
      ∧ (failClaim reason objector s).mc.configured = s.mc.configured
      ∧ (failClaim reason objector s).mc.duplicate = s.mc.duplicate
      ∧ (failClaim reason objector s).table.nextSnapshot = s.table.nextSnapshot
      ∧ (failClaim reason objector s).alloc.share.lastTx = s.alloc.share.lastTx
      ∧ (failClaim reason objector s).alloc.share.floor = s.alloc.share.floor
      ∧ (failClaim reason objector s).alloc.share.priority = s.alloc.share.priority
      ∧ (failClaim reason objector s).alloc.share.demand = s.alloc.share.demand
      ∧ (failClaim reason objector s).alloc.share.holdSeq = s.alloc.share.holdSeq
      ∧ (failClaim reason objector s).alloc.share.claimCounter = s.alloc.share.claimCounter
      ∧ (failClaim reason objector s).alloc.share.silence = s.alloc.share.silence
      ∧ (failClaim reason objector s).alloc.holdAttempt = s.alloc.holdAttempt
      ∧ (failClaim reason objector s).line.idle = s.line.idle ∧ (failClaim reason objector s).line.bits = s.line.bits
      ∧ (failClaim reason objector s).time = s.time ∧ (failClaim reason objector s).pilot.faultIn = s.pilot.faultIn
      ∧ (failClaim reason objector s).pilot.loadIn = s.pilot.loadIn
      ∧ (failClaim reason objector s).pilot.mode = s.pilot.mode
      ∧ (failClaim reason objector s).pilot.drive = s.pilot.drive
      ∧ (failClaim reason objector s).pilot.duty = s.pilot.duty
      ∧ (failClaim reason objector s).pilot.applied = s.pilot.applied
      ∧ (failClaim reason objector s).pilot.phase = s.pilot.phase
      ∧ (failClaim reason objector s).pilot.meter = s.pilot.meter
      ∧ (failClaim reason objector s).pilot.fullScale = s.pilot.fullScale
      ∧ (failClaim reason objector s).pilot.polarity = s.pilot.polarity
      ∧ (failClaim reason objector s).pilot.periodDue = s.pilot.periodDue
      ∧ (failClaim reason objector s).pilot.faultDue = s.pilot.faultDue
      ∧ (failClaim reason objector s).events.filter = s.events.filter
      ∧ (failClaim reason objector s).events.steering = s.events.steering
      ∧ (failClaim reason objector s).events.popping = s.events.popping ∧ (failClaim reason objector s).port = s.port
      ∧ (failClaim reason objector s).pending = s.pending := by
  unfold failClaim
  (repeat' split) <;> simp

@[simp] theorem lapseClaim_keeps (s : State) :
    (lapseClaim s).pins = s.pins ∧ (lapseClaim s).mc.identity = s.mc.identity
      ∧ (lapseClaim s).mc.census = s.mc.census ∧ (lapseClaim s).mc.configured = s.mc.configured
      ∧ (lapseClaim s).mc.duplicate = s.mc.duplicate ∧ (lapseClaim s).table.nextSnapshot = s.table.nextSnapshot
      ∧ (lapseClaim s).alloc.share.lastTx = s.alloc.share.lastTx
      ∧ (lapseClaim s).alloc.share.floor = s.alloc.share.floor
      ∧ (lapseClaim s).alloc.share.priority = s.alloc.share.priority
      ∧ (lapseClaim s).alloc.share.demand = s.alloc.share.demand
      ∧ (lapseClaim s).alloc.share.holdSeq = s.alloc.share.holdSeq
      ∧ (lapseClaim s).alloc.share.claimCounter = s.alloc.share.claimCounter
      ∧ (lapseClaim s).alloc.share.silence = s.alloc.share.silence
      ∧ (lapseClaim s).alloc.holdAttempt = s.alloc.holdAttempt ∧ (lapseClaim s).line.idle = s.line.idle
      ∧ (lapseClaim s).line.bits = s.line.bits ∧ (lapseClaim s).time = s.time
      ∧ (lapseClaim s).pilot.faultIn = s.pilot.faultIn ∧ (lapseClaim s).pilot.loadIn = s.pilot.loadIn
      ∧ (lapseClaim s).pilot.mode = s.pilot.mode ∧ (lapseClaim s).pilot.drive = s.pilot.drive
      ∧ (lapseClaim s).pilot.duty = s.pilot.duty ∧ (lapseClaim s).pilot.applied = s.pilot.applied
      ∧ (lapseClaim s).pilot.phase = s.pilot.phase ∧ (lapseClaim s).pilot.meter = s.pilot.meter
      ∧ (lapseClaim s).pilot.fullScale = s.pilot.fullScale ∧ (lapseClaim s).pilot.polarity = s.pilot.polarity
      ∧ (lapseClaim s).pilot.periodDue = s.pilot.periodDue ∧ (lapseClaim s).pilot.faultDue = s.pilot.faultDue
      ∧ (lapseClaim s).events.filter = s.events.filter ∧ (lapseClaim s).events.steering = s.events.steering
      ∧ (lapseClaim s).events.popping = s.events.popping ∧ (lapseClaim s).port = s.port
      ∧ (lapseClaim s).pending = s.pending := by
  unfold lapseClaim
  (repeat' split) <;> simp

end Sys2Proof.Machine
end

