-- ==== Sys2Proof/Laws/Outcomes.lean ====
section
/-! SUPPORT. What the operations of attempts and slots leave as it was (Machine/Outcomes.lean): one lemma an operation. -/

namespace Sys2Proof.Machine

@[simp] theorem beginSending_keeps (slot : SlotId) (f : Frame) (s : State) :
    (beginSending slot f s).pins = s.pins ∧ (beginSending slot f s).mc = s.mc
      ∧ (beginSending slot f s).table = s.table ∧ (beginSending slot f s).alloc = s.alloc
      ∧ (beginSending slot f s).outbox = s.outbox ∧ (beginSending slot f s).line.rx = s.line.rx
      ∧ (beginSending slot f s).line.bits = s.line.bits ∧ (beginSending slot f s).line.inbox = s.line.inbox
      ∧ (beginSending slot f s).time = s.time ∧ (beginSending slot f s).pilot = s.pilot
      ∧ (beginSending slot f s).events = s.events ∧ (beginSending slot f s).port = s.port
      ∧ (beginSending slot f s).pending = s.pending := ⟨rfl, rfl, rfl, rfl, rfl, rfl, rfl, rfl, rfl, rfl, rfl, rfl, rfl⟩

@[simp] theorem markAnswerInFlight_keeps (k : Nat) (s : State) :
    (markAnswerInFlight k s).pins = s.pins ∧ (markAnswerInFlight k s).mc = s.mc
      ∧ (markAnswerInFlight k s).table = s.table ∧ (markAnswerInFlight k s).alloc = s.alloc
      ∧ (markAnswerInFlight k s).outbox.hold = s.outbox.hold ∧ (markAnswerInFlight k s).outbox.claim = s.outbox.claim
      ∧ (markAnswerInFlight k s).outbox.answerList = s.outbox.answerList ∧ (markAnswerInFlight k s).line = s.line
      ∧ (markAnswerInFlight k s).time = s.time ∧ (markAnswerInFlight k s).pilot = s.pilot
      ∧ (markAnswerInFlight k s).events = s.events ∧ (markAnswerInFlight k s).port = s.port
      ∧ (markAnswerInFlight k s).pending = s.pending := by
  unfold markAnswerInFlight
  simp

@[simp] theorem markHoldInFlight_keeps (s : State) :
    (markHoldInFlight s).pins = s.pins ∧ (markHoldInFlight s).mc = s.mc ∧ (markHoldInFlight s).table = s.table
      ∧ (markHoldInFlight s).alloc = s.alloc ∧ (markHoldInFlight s).outbox.claim = s.outbox.claim
      ∧ (markHoldInFlight s).outbox.answers = s.outbox.answers
      ∧ (markHoldInFlight s).outbox.answerList = s.outbox.answerList ∧ (markHoldInFlight s).line = s.line
      ∧ (markHoldInFlight s).time = s.time ∧ (markHoldInFlight s).pilot = s.pilot
      ∧ (markHoldInFlight s).events = s.events ∧ (markHoldInFlight s).port = s.port
      ∧ (markHoldInFlight s).pending = s.pending := by
  unfold markHoldInFlight
  simp

@[simp] theorem markClaimInFlight_keeps (s : State) :
    (markClaimInFlight s).pins = s.pins ∧ (markClaimInFlight s).mc = s.mc ∧ (markClaimInFlight s).table = s.table
      ∧ (markClaimInFlight s).alloc = s.alloc ∧ (markClaimInFlight s).outbox.hold = s.outbox.hold
      ∧ (markClaimInFlight s).outbox.answers = s.outbox.answers
      ∧ (markClaimInFlight s).outbox.answerList = s.outbox.answerList ∧ (markClaimInFlight s).line = s.line
      ∧ (markClaimInFlight s).time = s.time ∧ (markClaimInFlight s).pilot = s.pilot
      ∧ (markClaimInFlight s).events = s.events ∧ (markClaimInFlight s).port = s.port
      ∧ (markClaimInFlight s).pending = s.pending := by
  unfold markClaimInFlight
  simp

@[simp] theorem noteAttempt_keeps (a : HoldAttempt) (s : State) :
    (noteAttempt a s).pins = s.pins ∧ (noteAttempt a s).mc = s.mc ∧ (noteAttempt a s).table = s.table
      ∧ (noteAttempt a s).alloc.share = s.alloc.share ∧ (noteAttempt a s).outbox = s.outbox
      ∧ (noteAttempt a s).line = s.line ∧ (noteAttempt a s).time = s.time ∧ (noteAttempt a s).pilot = s.pilot
      ∧ (noteAttempt a s).events = s.events ∧ (noteAttempt a s).port = s.port ∧ (noteAttempt a s).pending = s.pending := by
  unfold noteAttempt
  (repeat' split) <;> simp

@[simp] theorem startHold_keeps (s : State) :
    (startHold s).pins = s.pins ∧ (startHold s).mc = s.mc ∧ (startHold s).table.entries = s.table.entries
      ∧ (startHold s).table.nextSnapshot = s.table.nextSnapshot
      ∧ (startHold s).alloc.share.lastTx = s.alloc.share.lastTx
      ∧ (startHold s).alloc.share.floor = s.alloc.share.floor
      ∧ (startHold s).alloc.share.priority = s.alloc.share.priority
      ∧ (startHold s).alloc.share.demand = s.alloc.share.demand
      ∧ (startHold s).alloc.share.holdSeq = s.alloc.share.holdSeq
      ∧ (startHold s).alloc.share.silence = s.alloc.share.silence ∧ (startHold s).outbox.answers = s.outbox.answers
      ∧ (startHold s).outbox.answerList = s.outbox.answerList ∧ (startHold s).line.rx = s.line.rx
      ∧ (startHold s).line.bits = s.line.bits ∧ (startHold s).line.inbox = s.line.inbox ∧ (startHold s).time = s.time
      ∧ (startHold s).pilot.stateCopy = s.pilot.stateCopy ∧ (startHold s).pilot.faultIn = s.pilot.faultIn
      ∧ (startHold s).pilot.loadIn = s.pilot.loadIn ∧ (startHold s).pilot.mode = s.pilot.mode
      ∧ (startHold s).pilot.drive = s.pilot.drive ∧ (startHold s).pilot.duty = s.pilot.duty
      ∧ (startHold s).pilot.applied = s.pilot.applied ∧ (startHold s).pilot.phase = s.pilot.phase
      ∧ (startHold s).pilot.meter = s.pilot.meter ∧ (startHold s).pilot.fullScale = s.pilot.fullScale
      ∧ (startHold s).pilot.polarity = s.pilot.polarity ∧ (startHold s).pilot.periodDue = s.pilot.periodDue
      ∧ (startHold s).pilot.faultDue = s.pilot.faultDue ∧ (startHold s).events.filter = s.events.filter
      ∧ (startHold s).events.steering = s.events.steering ∧ (startHold s).events.popping = s.events.popping
      ∧ (startHold s).port = s.port ∧ (startHold s).pending = s.pending := by
  unfold startHold
  simp

/-- The start of an ordinary HOLD's attempt changes no record, and is no update (R7, R127). -/
theorem startHold_ordinary (s : State) (h : (holdNow s).commit = none) :
    startHold s = beginSending .hold (holdFrame s (holdNow s)) (markHoldInFlight (noteAttempt (holdNow s) s)) := by
  unfold startHold
  apply endIfChanged_same <;> simp [noteAttempt, h]

@[simp] theorem startClaim_keeps (s : State) :
    (startClaim s).pins = s.pins ∧ (startClaim s).mc = s.mc ∧ (startClaim s).table = s.table
      ∧ (startClaim s).alloc = s.alloc ∧ (startClaim s).outbox.hold = s.outbox.hold
      ∧ (startClaim s).outbox.answers = s.outbox.answers ∧ (startClaim s).outbox.answerList = s.outbox.answerList
      ∧ (startClaim s).line.rx = s.line.rx ∧ (startClaim s).line.bits = s.line.bits
      ∧ (startClaim s).line.inbox = s.line.inbox ∧ (startClaim s).time = s.time ∧ (startClaim s).pilot = s.pilot
      ∧ (startClaim s).events = s.events ∧ (startClaim s).port = s.port ∧ (startClaim s).pending = s.pending := by
  unfold startClaim
  (repeat' split) <;> simp

@[simp] theorem startAnswer_keeps (k : Nat) (s : State) :
    (startAnswer k s).pins = s.pins ∧ (startAnswer k s).mc = s.mc ∧ (startAnswer k s).table = s.table
      ∧ (startAnswer k s).alloc = s.alloc ∧ (startAnswer k s).outbox.hold = s.outbox.hold
      ∧ (startAnswer k s).outbox.claim = s.outbox.claim ∧ (startAnswer k s).outbox.answerList = s.outbox.answerList
      ∧ (startAnswer k s).line.rx = s.line.rx ∧ (startAnswer k s).line.bits = s.line.bits
      ∧ (startAnswer k s).line.inbox = s.line.inbox ∧ (startAnswer k s).time = s.time
      ∧ (startAnswer k s).pilot = s.pilot ∧ (startAnswer k s).events = s.events ∧ (startAnswer k s).port = s.port
      ∧ (startAnswer k s).pending = s.pending := by
  unfold startAnswer
  (repeat' split) <;> simp

@[simp] theorem clearFailures_keeps (s : State) :
    (clearFailures s).pins = s.pins ∧ (clearFailures s).mc = s.mc ∧ (clearFailures s).table = s.table
      ∧ (clearFailures s).alloc.share.held = s.alloc.share.held
      ∧ (clearFailures s).alloc.share.lastTx = s.alloc.share.lastTx
      ∧ (clearFailures s).alloc.share.floor = s.alloc.share.floor
      ∧ (clearFailures s).alloc.share.priority = s.alloc.share.priority
      ∧ (clearFailures s).alloc.share.demand = s.alloc.share.demand
      ∧ (clearFailures s).alloc.share.holdSeq = s.alloc.share.holdSeq
      ∧ (clearFailures s).alloc.share.claimCounter = s.alloc.share.claimCounter
      ∧ (clearFailures s).alloc.share.silence = s.alloc.share.silence
      ∧ (clearFailures s).alloc.share.backoff = s.alloc.share.backoff ∧ (clearFailures s).alloc.claim = s.alloc.claim
      ∧ (clearFailures s).alloc.holdAttempt = s.alloc.holdAttempt ∧ (clearFailures s).outbox = s.outbox
      ∧ (clearFailures s).line = s.line ∧ (clearFailures s).time = s.time ∧ (clearFailures s).pilot = s.pilot
      ∧ (clearFailures s).events = s.events ∧ (clearFailures s).port = s.port ∧ (clearFailures s).pending = s.pending := by
  unfold clearFailures
  simp

@[simp] theorem commitIncrease_keeps (c : ClaimRecord) (s : State) :
    (commitIncrease c s).pins = s.pins ∧ (commitIncrease c s).mc = s.mc ∧ (commitIncrease c s).table = s.table
      ∧ (commitIncrease c s).alloc.share.lastTx = s.alloc.share.lastTx
      ∧ (commitIncrease c s).alloc.share.floor = s.alloc.share.floor
      ∧ (commitIncrease c s).alloc.share.priority = s.alloc.share.priority
      ∧ (commitIncrease c s).alloc.share.demand = s.alloc.share.demand
      ∧ (commitIncrease c s).alloc.share.holdSeq = s.alloc.share.holdSeq
      ∧ (commitIncrease c s).alloc.share.claimCounter = s.alloc.share.claimCounter
      ∧ (commitIncrease c s).alloc.share.silence = s.alloc.share.silence
      ∧ (commitIncrease c s).alloc.share.backoff = s.alloc.share.backoff
      ∧ (commitIncrease c s).alloc.holdAttempt = s.alloc.holdAttempt
      ∧ (commitIncrease c s).outbox.answers = s.outbox.answers
      ∧ (commitIncrease c s).outbox.answerList = s.outbox.answerList ∧ (commitIncrease c s).line.rx = s.line.rx
      ∧ (commitIncrease c s).line.idle = s.line.idle ∧ (commitIncrease c s).line.bits = s.line.bits
      ∧ (commitIncrease c s).line.inbox = s.line.inbox ∧ (commitIncrease c s).time = s.time
      ∧ (commitIncrease c s).pilot.stateCopy = s.pilot.stateCopy
      ∧ (commitIncrease c s).pilot.faultIn = s.pilot.faultIn ∧ (commitIncrease c s).pilot.loadIn = s.pilot.loadIn
      ∧ (commitIncrease c s).pilot.mode = s.pilot.mode ∧ (commitIncrease c s).pilot.drive = s.pilot.drive
      ∧ (commitIncrease c s).pilot.duty = s.pilot.duty ∧ (commitIncrease c s).pilot.applied = s.pilot.applied
      ∧ (commitIncrease c s).pilot.phase = s.pilot.phase ∧ (commitIncrease c s).pilot.meter = s.pilot.meter
      ∧ (commitIncrease c s).pilot.fullScale = s.pilot.fullScale
      ∧ (commitIncrease c s).pilot.polarity = s.pilot.polarity
      ∧ (commitIncrease c s).pilot.periodDue = s.pilot.periodDue
      ∧ (commitIncrease c s).pilot.faultDue = s.pilot.faultDue ∧ (commitIncrease c s).events.filter = s.events.filter
      ∧ (commitIncrease c s).events.steering = s.events.steering
      ∧ (commitIncrease c s).events.active = s.events.active ∧ (commitIncrease c s).events.acked = s.events.acked
      ∧ (commitIncrease c s).events.popping = s.events.popping ∧ (commitIncrease c s).port = s.port
      ∧ (commitIncrease c s).pending = s.pending := by
  unfold commitIncrease
  simp

@[simp] theorem commitJoin_keeps (c : ClaimRecord) (s : State) :
    (commitJoin c s).pins = s.pins ∧ (commitJoin c s).mc.identity = s.mc.identity
      ∧ (commitJoin c s).mc.census = s.mc.census ∧ (commitJoin c s).mc.configured = s.mc.configured
      ∧ (commitJoin c s).mc.duplicate = s.mc.duplicate ∧ (commitJoin c s).table.nextSnapshot = s.table.nextSnapshot
      ∧ (commitJoin c s).alloc.share.lastTx = s.alloc.share.lastTx
      ∧ (commitJoin c s).alloc.share.floor = s.alloc.share.floor
      ∧ (commitJoin c s).alloc.share.priority = s.alloc.share.priority
      ∧ (commitJoin c s).alloc.share.demand = s.alloc.share.demand
      ∧ (commitJoin c s).alloc.share.holdSeq = s.alloc.share.holdSeq
      ∧ (commitJoin c s).alloc.share.claimCounter = s.alloc.share.claimCounter
      ∧ (commitJoin c s).alloc.share.silence = s.alloc.share.silence
      ∧ (commitJoin c s).alloc.holdAttempt = s.alloc.holdAttempt ∧ (commitJoin c s).line.idle = s.line.idle
      ∧ (commitJoin c s).line.bits = s.line.bits ∧ (commitJoin c s).time = s.time
      ∧ (commitJoin c s).pilot.faultIn = s.pilot.faultIn ∧ (commitJoin c s).pilot.loadIn = s.pilot.loadIn
      ∧ (commitJoin c s).pilot.mode = s.pilot.mode ∧ (commitJoin c s).pilot.drive = s.pilot.drive
      ∧ (commitJoin c s).pilot.duty = s.pilot.duty ∧ (commitJoin c s).pilot.applied = s.pilot.applied
      ∧ (commitJoin c s).pilot.phase = s.pilot.phase ∧ (commitJoin c s).pilot.meter = s.pilot.meter
      ∧ (commitJoin c s).pilot.fullScale = s.pilot.fullScale ∧ (commitJoin c s).pilot.polarity = s.pilot.polarity
      ∧ (commitJoin c s).pilot.periodDue = s.pilot.periodDue ∧ (commitJoin c s).pilot.faultDue = s.pilot.faultDue
      ∧ (commitJoin c s).events.filter = s.events.filter ∧ (commitJoin c s).events.steering = s.events.steering
      ∧ (commitJoin c s).events.popping = s.events.popping ∧ (commitJoin c s).port = s.port
      ∧ (commitJoin c s).pending = s.pending := by
  unfold commitJoin
  simp

@[simp] theorem shedCheck_keeps (a : HoldAttempt) (s : State) :
    (shedCheck a s).pins = s.pins ∧ (shedCheck a s).mc = s.mc ∧ (shedCheck a s).table = s.table
      ∧ (shedCheck a s).alloc = s.alloc ∧ (shedCheck a s).outbox.claim = s.outbox.claim
      ∧ (shedCheck a s).outbox.answerList = s.outbox.answerList ∧ (shedCheck a s).line = s.line
      ∧ (shedCheck a s).time = s.time ∧ (shedCheck a s).pilot = s.pilot ∧ (shedCheck a s).events = s.events
      ∧ (shedCheck a s).port = s.port ∧ (shedCheck a s).pending = s.pending := by
  unfold shedCheck
  (repeat' split) <;> simp

@[simp] theorem owedCommit_keeps (s : State) :
    (owedCommit s).pins = s.pins ∧ (owedCommit s).mc = s.mc ∧ (owedCommit s).table = s.table
      ∧ (owedCommit s).alloc = s.alloc ∧ (owedCommit s).outbox.claim = s.outbox.claim
      ∧ (owedCommit s).outbox.answers = s.outbox.answers ∧ (owedCommit s).outbox.answerList = s.outbox.answerList
      ∧ (owedCommit s).line = s.line ∧ (owedCommit s).time = s.time ∧ (owedCommit s).pilot = s.pilot
      ∧ (owedCommit s).events = s.events ∧ (owedCommit s).port = s.port ∧ (owedCommit s).pending = s.pending := by
  unfold owedCommit
  (repeat' split) <;> simp

@[simp] theorem staleCheck_keeps (a : HoldAttempt) (s : State) :
    (staleCheck a s).pins = s.pins ∧ (staleCheck a s).mc = s.mc ∧ (staleCheck a s).table = s.table
      ∧ (staleCheck a s).alloc = s.alloc ∧ (staleCheck a s).outbox.claim = s.outbox.claim
      ∧ (staleCheck a s).outbox.answers = s.outbox.answers ∧ (staleCheck a s).outbox.answerList = s.outbox.answerList
      ∧ (staleCheck a s).line = s.line ∧ (staleCheck a s).time = s.time ∧ (staleCheck a s).pilot = s.pilot
      ∧ (staleCheck a s).events = s.events ∧ (staleCheck a s).port = s.port ∧ (staleCheck a s).pending = s.pending := by
  unfold staleCheck
  (repeat' split) <;> simp

@[simp] theorem holdChecks_keeps (a : HoldAttempt) (s : State) :
    (holdChecks a s).pins = s.pins ∧ (holdChecks a s).mc = s.mc ∧ (holdChecks a s).table = s.table
      ∧ (holdChecks a s).alloc = s.alloc ∧ (holdChecks a s).outbox.claim = s.outbox.claim
      ∧ (holdChecks a s).outbox.answerList = s.outbox.answerList ∧ (holdChecks a s).line = s.line
      ∧ (holdChecks a s).time = s.time ∧ (holdChecks a s).pilot = s.pilot ∧ (holdChecks a s).events = s.events
      ∧ (holdChecks a s).port = s.port ∧ (holdChecks a s).pending = s.pending := by
  unfold holdChecks
  simp

@[simp] theorem noteHold_keeps (a : HoldAttempt) (s : State) :
    (noteHold a s).pins = s.pins ∧ (noteHold a s).mc = s.mc ∧ (noteHold a s).table = s.table
      ∧ (noteHold a s).alloc.share.held = s.alloc.share.held ∧ (noteHold a s).alloc.share.floor = s.alloc.share.floor
      ∧ (noteHold a s).alloc.share.priority = s.alloc.share.priority
      ∧ (noteHold a s).alloc.share.demand = s.alloc.share.demand
      ∧ (noteHold a s).alloc.share.claimCounter = s.alloc.share.claimCounter
      ∧ (noteHold a s).alloc.share.failures = s.alloc.share.failures
      ∧ (noteHold a s).alloc.share.backoff = s.alloc.share.backoff ∧ (noteHold a s).alloc.claim = s.alloc.claim
      ∧ (noteHold a s).alloc.holdAttempt = s.alloc.holdAttempt ∧ (noteHold a s).outbox = s.outbox
      ∧ (noteHold a s).line = s.line ∧ (noteHold a s).time = s.time
      ∧ (noteHold a s).pilot.stateCopy = s.pilot.stateCopy ∧ (noteHold a s).pilot.faultIn = s.pilot.faultIn
      ∧ (noteHold a s).pilot.loadIn = s.pilot.loadIn ∧ (noteHold a s).pilot.mode = s.pilot.mode
      ∧ (noteHold a s).pilot.drive = s.pilot.drive ∧ (noteHold a s).pilot.duty = s.pilot.duty
      ∧ (noteHold a s).pilot.applied = s.pilot.applied ∧ (noteHold a s).pilot.phase = s.pilot.phase
      ∧ (noteHold a s).pilot.meter = s.pilot.meter ∧ (noteHold a s).pilot.fullScale = s.pilot.fullScale
      ∧ (noteHold a s).pilot.polarity = s.pilot.polarity ∧ (noteHold a s).pilot.periodDue = s.pilot.periodDue
      ∧ (noteHold a s).pilot.faultDue = s.pilot.faultDue ∧ (noteHold a s).events = s.events
      ∧ (noteHold a s).port = s.port ∧ (noteHold a s).pending = s.pending := 
    ⟨rfl, rfl, rfl, rfl, rfl, rfl, rfl, rfl, rfl, rfl, rfl, rfl, rfl, rfl, rfl, rfl, rfl, rfl, rfl, rfl,
    rfl, rfl, rfl, rfl, rfl, rfl, rfl, rfl, rfl, rfl, rfl⟩

@[simp] theorem holdDone_keeps (a : HoldAttempt) (s : State) :
    (holdDone a s).pins = s.pins ∧ (holdDone a s).mc = s.mc ∧ (holdDone a s).table = s.table
      ∧ (holdDone a s).alloc.share.held = s.alloc.share.held ∧ (holdDone a s).alloc.share.floor = s.alloc.share.floor
      ∧ (holdDone a s).alloc.share.priority = s.alloc.share.priority
      ∧ (holdDone a s).alloc.share.demand = s.alloc.share.demand
      ∧ (holdDone a s).alloc.share.claimCounter = s.alloc.share.claimCounter
      ∧ (holdDone a s).alloc.share.failures = s.alloc.share.failures
      ∧ (holdDone a s).alloc.share.backoff = s.alloc.share.backoff ∧ (holdDone a s).alloc.claim = s.alloc.claim
      ∧ (holdDone a s).alloc.holdAttempt = s.alloc.holdAttempt ∧ (holdDone a s).outbox.claim = s.outbox.claim
      ∧ (holdDone a s).outbox.answers = s.outbox.answers ∧ (holdDone a s).outbox.answerList = s.outbox.answerList
      ∧ (holdDone a s).line.rx = s.line.rx ∧ (holdDone a s).line.idle = s.line.idle
      ∧ (holdDone a s).line.bits = s.line.bits ∧ (holdDone a s).line.inbox = s.line.inbox
      ∧ (holdDone a s).time = s.time ∧ (holdDone a s).pilot.stateCopy = s.pilot.stateCopy
      ∧ (holdDone a s).pilot.faultIn = s.pilot.faultIn ∧ (holdDone a s).pilot.loadIn = s.pilot.loadIn
      ∧ (holdDone a s).pilot.mode = s.pilot.mode ∧ (holdDone a s).pilot.drive = s.pilot.drive
      ∧ (holdDone a s).pilot.duty = s.pilot.duty ∧ (holdDone a s).pilot.applied = s.pilot.applied
      ∧ (holdDone a s).pilot.phase = s.pilot.phase ∧ (holdDone a s).pilot.meter = s.pilot.meter
      ∧ (holdDone a s).pilot.fullScale = s.pilot.fullScale ∧ (holdDone a s).pilot.polarity = s.pilot.polarity
      ∧ (holdDone a s).pilot.periodDue = s.pilot.periodDue ∧ (holdDone a s).pilot.faultDue = s.pilot.faultDue
      ∧ (holdDone a s).events = s.events ∧ (holdDone a s).port = s.port ∧ (holdDone a s).pending = s.pending := by
  unfold holdDone
  simp

@[simp] theorem holdOutlived_keeps (s : State) :
    (holdOutlived s).pins = s.pins ∧ (holdOutlived s).mc = s.mc ∧ (holdOutlived s).table.entries = s.table.entries
      ∧ (holdOutlived s).table.nextSnapshot = s.table.nextSnapshot
      ∧ (holdOutlived s).alloc.share.floor = s.alloc.share.floor
      ∧ (holdOutlived s).alloc.share.priority = s.alloc.share.priority
      ∧ (holdOutlived s).alloc.share.demand = s.alloc.share.demand
      ∧ (holdOutlived s).alloc.holdAttempt = s.alloc.holdAttempt ∧ (holdOutlived s).outbox.answers = s.outbox.answers
      ∧ (holdOutlived s).outbox.answerList = s.outbox.answerList ∧ (holdOutlived s).line.rx = s.line.rx
      ∧ (holdOutlived s).line.idle = s.line.idle ∧ (holdOutlived s).line.bits = s.line.bits
      ∧ (holdOutlived s).line.inbox = s.line.inbox ∧ (holdOutlived s).time = s.time
      ∧ (holdOutlived s).pilot.stateCopy = s.pilot.stateCopy ∧ (holdOutlived s).pilot.faultIn = s.pilot.faultIn
      ∧ (holdOutlived s).pilot.loadIn = s.pilot.loadIn ∧ (holdOutlived s).pilot.mode = s.pilot.mode
      ∧ (holdOutlived s).pilot.drive = s.pilot.drive ∧ (holdOutlived s).pilot.duty = s.pilot.duty
      ∧ (holdOutlived s).pilot.applied = s.pilot.applied ∧ (holdOutlived s).pilot.phase = s.pilot.phase
      ∧ (holdOutlived s).pilot.meter = s.pilot.meter ∧ (holdOutlived s).pilot.fullScale = s.pilot.fullScale
      ∧ (holdOutlived s).pilot.polarity = s.pilot.polarity ∧ (holdOutlived s).pilot.periodDue = s.pilot.periodDue
      ∧ (holdOutlived s).pilot.faultDue = s.pilot.faultDue ∧ (holdOutlived s).events.filter = s.events.filter
      ∧ (holdOutlived s).events.steering = s.events.steering ∧ (holdOutlived s).events.popping = s.events.popping
      ∧ (holdOutlived s).port = s.port ∧ (holdOutlived s).pending = s.pending := by
  unfold holdOutlived
  (repeat' split) <;> simp

@[simp] theorem claimOutlived_keeps (a : Attempt) (s : State) :
    (claimOutlived a s).pins = s.pins
      ∧ (claimOutlived a s).mc = s.mc
      ∧ (claimOutlived a s).table.entries = s.table.entries
      ∧ (claimOutlived a s).table.nextSnapshot = s.table.nextSnapshot
      ∧ (claimOutlived a s).alloc.share.floor = s.alloc.share.floor
      ∧ (claimOutlived a s).alloc.share.priority = s.alloc.share.priority
      ∧ (claimOutlived a s).alloc.share.demand = s.alloc.share.demand
      ∧ (claimOutlived a s).alloc.holdAttempt = s.alloc.holdAttempt
      ∧ (claimOutlived a s).outbox.answers = s.outbox.answers
      ∧ (claimOutlived a s).outbox.answerList = s.outbox.answerList ∧ (claimOutlived a s).line.rx = s.line.rx
      ∧ (claimOutlived a s).line.idle = s.line.idle ∧ (claimOutlived a s).line.bits = s.line.bits
      ∧ (claimOutlived a s).line.inbox = s.line.inbox ∧ (claimOutlived a s).time = s.time
      ∧ (claimOutlived a s).pilot.stateCopy = s.pilot.stateCopy ∧ (claimOutlived a s).pilot.faultIn = s.pilot.faultIn
      ∧ (claimOutlived a s).pilot.loadIn = s.pilot.loadIn ∧ (claimOutlived a s).pilot.mode = s.pilot.mode
      ∧ (claimOutlived a s).pilot.drive = s.pilot.drive ∧ (claimOutlived a s).pilot.duty = s.pilot.duty
      ∧ (claimOutlived a s).pilot.applied = s.pilot.applied ∧ (claimOutlived a s).pilot.phase = s.pilot.phase
      ∧ (claimOutlived a s).pilot.meter = s.pilot.meter ∧ (claimOutlived a s).pilot.fullScale = s.pilot.fullScale
      ∧ (claimOutlived a s).pilot.polarity = s.pilot.polarity
      ∧ (claimOutlived a s).pilot.periodDue = s.pilot.periodDue
      ∧ (claimOutlived a s).pilot.faultDue = s.pilot.faultDue ∧ (claimOutlived a s).events.filter = s.events.filter
      ∧ (claimOutlived a s).events.steering = s.events.steering
      ∧ (claimOutlived a s).events.popping = s.events.popping
      ∧ (claimOutlived a s).port = s.port ∧ (claimOutlived a s).pending = s.pending := by
  unfold claimOutlived
  (repeat' split) <;> simp

/-- A completed ANNOUNCE that has outlived its slot returns the own silence counter to 0 (R87). -/
theorem claimOutlived_silence (a : Attempt) (s : State) (h : a.announces = true) :
    (claimOutlived a s).alloc.share.silence = 0 := by
  unfold claimOutlived endIfChanged
  (repeat' split) <;> simp_all

@[simp] theorem announceSent_keeps (kind : ClaimKind) (s : State) :
    (announceSent kind s).pins = s.pins ∧ (announceSent kind s).mc = s.mc ∧ (announceSent kind s).table = s.table
      ∧ (announceSent kind s).alloc.share.held = s.alloc.share.held
      ∧ (announceSent kind s).alloc.share.lastTx = s.alloc.share.lastTx
      ∧ (announceSent kind s).alloc.share.floor = s.alloc.share.floor
      ∧ (announceSent kind s).alloc.share.priority = s.alloc.share.priority
      ∧ (announceSent kind s).alloc.share.demand = s.alloc.share.demand
      ∧ (announceSent kind s).alloc.share.holdSeq = s.alloc.share.holdSeq
      ∧ (announceSent kind s).alloc.share.claimCounter = s.alloc.share.claimCounter
      ∧ (announceSent kind s).alloc.share.failures = s.alloc.share.failures
      ∧ (announceSent kind s).alloc.share.backoff = s.alloc.share.backoff
      ∧ (announceSent kind s).alloc.claim = s.alloc.claim
      ∧ (announceSent kind s).alloc.holdAttempt = s.alloc.holdAttempt ∧ (announceSent kind s).outbox = s.outbox
      ∧ (announceSent kind s).line = s.line ∧ (announceSent kind s).time = s.time
      ∧ (announceSent kind s).pilot = s.pilot ∧ (announceSent kind s).events = s.events
      ∧ (announceSent kind s).port = s.port ∧ (announceSent kind s).pending = s.pending := by
  unfold announceSent
  (repeat' split) <;> simp

@[simp] theorem takeRoll_keeps (c : ClaimRecord) (s : State) :
    (takeRoll c s).pins = s.pins ∧ (takeRoll c s).mc.identity = s.mc.identity
      ∧ (takeRoll c s).mc.census = s.mc.census ∧ (takeRoll c s).mc.configured = s.mc.configured
      ∧ (takeRoll c s).mc.duplicate = s.mc.duplicate ∧ (takeRoll c s).table.nextSnapshot = s.table.nextSnapshot
      ∧ (takeRoll c s).alloc.share.lastTx = s.alloc.share.lastTx
      ∧ (takeRoll c s).alloc.share.floor = s.alloc.share.floor
      ∧ (takeRoll c s).alloc.share.priority = s.alloc.share.priority
      ∧ (takeRoll c s).alloc.share.demand = s.alloc.share.demand
      ∧ (takeRoll c s).alloc.share.holdSeq = s.alloc.share.holdSeq
      ∧ (takeRoll c s).alloc.share.claimCounter = s.alloc.share.claimCounter
      ∧ (takeRoll c s).alloc.share.silence = s.alloc.share.silence
      ∧ (takeRoll c s).alloc.holdAttempt = s.alloc.holdAttempt ∧ (takeRoll c s).line.idle = s.line.idle
      ∧ (takeRoll c s).line.bits = s.line.bits ∧ (takeRoll c s).time = s.time
      ∧ (takeRoll c s).pilot.faultIn = s.pilot.faultIn ∧ (takeRoll c s).pilot.loadIn = s.pilot.loadIn
      ∧ (takeRoll c s).pilot.mode = s.pilot.mode ∧ (takeRoll c s).pilot.drive = s.pilot.drive
      ∧ (takeRoll c s).pilot.duty = s.pilot.duty ∧ (takeRoll c s).pilot.applied = s.pilot.applied
      ∧ (takeRoll c s).pilot.phase = s.pilot.phase ∧ (takeRoll c s).pilot.meter = s.pilot.meter
      ∧ (takeRoll c s).pilot.fullScale = s.pilot.fullScale ∧ (takeRoll c s).pilot.polarity = s.pilot.polarity
      ∧ (takeRoll c s).pilot.periodDue = s.pilot.periodDue ∧ (takeRoll c s).pilot.faultDue = s.pilot.faultDue
      ∧ (takeRoll c s).events.filter = s.events.filter ∧ (takeRoll c s).events.steering = s.events.steering
      ∧ (takeRoll c s).events.popping = s.events.popping ∧ (takeRoll c s).port = s.port
      ∧ (takeRoll c s).pending = s.pending := by
  unfold takeRoll
  (repeat' split) <;> simp

@[simp] theorem restOrDrop_keeps (s : State) :
    (restOrDrop s).pins = s.pins ∧ (restOrDrop s).mc.identity = s.mc.identity
      ∧ (restOrDrop s).mc.census = s.mc.census ∧ (restOrDrop s).mc.configured = s.mc.configured
      ∧ (restOrDrop s).mc.duplicate = s.mc.duplicate ∧ (restOrDrop s).table.nextSnapshot = s.table.nextSnapshot
      ∧ (restOrDrop s).alloc.share.lastTx = s.alloc.share.lastTx
      ∧ (restOrDrop s).alloc.share.floor = s.alloc.share.floor
      ∧ (restOrDrop s).alloc.share.priority = s.alloc.share.priority
      ∧ (restOrDrop s).alloc.share.demand = s.alloc.share.demand
      ∧ (restOrDrop s).alloc.share.holdSeq = s.alloc.share.holdSeq
      ∧ (restOrDrop s).alloc.share.claimCounter = s.alloc.share.claimCounter
      ∧ (restOrDrop s).alloc.share.silence = s.alloc.share.silence
      ∧ (restOrDrop s).alloc.holdAttempt = s.alloc.holdAttempt ∧ (restOrDrop s).line.idle = s.line.idle
      ∧ (restOrDrop s).line.bits = s.line.bits ∧ (restOrDrop s).time = s.time
      ∧ (restOrDrop s).pilot.faultIn = s.pilot.faultIn ∧ (restOrDrop s).pilot.loadIn = s.pilot.loadIn
      ∧ (restOrDrop s).pilot.mode = s.pilot.mode ∧ (restOrDrop s).pilot.drive = s.pilot.drive
      ∧ (restOrDrop s).pilot.duty = s.pilot.duty ∧ (restOrDrop s).pilot.applied = s.pilot.applied
      ∧ (restOrDrop s).pilot.phase = s.pilot.phase ∧ (restOrDrop s).pilot.meter = s.pilot.meter
      ∧ (restOrDrop s).pilot.fullScale = s.pilot.fullScale ∧ (restOrDrop s).pilot.polarity = s.pilot.polarity
      ∧ (restOrDrop s).pilot.periodDue = s.pilot.periodDue ∧ (restOrDrop s).pilot.faultDue = s.pilot.faultDue
      ∧ (restOrDrop s).events.filter = s.events.filter ∧ (restOrDrop s).events.steering = s.events.steering
      ∧ (restOrDrop s).events.popping = s.events.popping ∧ (restOrDrop s).port = s.port
      ∧ (restOrDrop s).pending = s.pending := by
  unfold restOrDrop
  (repeat' split) <;> simp

@[simp] theorem holdExhausted_keeps (s : State) :
    (holdExhausted s).pins = s.pins ∧ (holdExhausted s).mc.identity = s.mc.identity
      ∧ (holdExhausted s).mc.census = s.mc.census ∧ (holdExhausted s).mc.configured = s.mc.configured
      ∧ (holdExhausted s).mc.duplicate = s.mc.duplicate ∧ (holdExhausted s).table.nextSnapshot = s.table.nextSnapshot
      ∧ (holdExhausted s).alloc.share.lastTx = s.alloc.share.lastTx
      ∧ (holdExhausted s).alloc.share.floor = s.alloc.share.floor
      ∧ (holdExhausted s).alloc.share.priority = s.alloc.share.priority
      ∧ (holdExhausted s).alloc.share.demand = s.alloc.share.demand
      ∧ (holdExhausted s).alloc.share.holdSeq = s.alloc.share.holdSeq
      ∧ (holdExhausted s).alloc.share.claimCounter = s.alloc.share.claimCounter
      ∧ (holdExhausted s).alloc.share.silence = s.alloc.share.silence
      ∧ (holdExhausted s).alloc.holdAttempt = s.alloc.holdAttempt ∧ (holdExhausted s).line.idle = s.line.idle
      ∧ (holdExhausted s).line.bits = s.line.bits ∧ (holdExhausted s).time = s.time
      ∧ (holdExhausted s).pilot.faultIn = s.pilot.faultIn ∧ (holdExhausted s).pilot.loadIn = s.pilot.loadIn
      ∧ (holdExhausted s).pilot.mode = s.pilot.mode ∧ (holdExhausted s).pilot.drive = s.pilot.drive
      ∧ (holdExhausted s).pilot.duty = s.pilot.duty ∧ (holdExhausted s).pilot.applied = s.pilot.applied
      ∧ (holdExhausted s).pilot.phase = s.pilot.phase ∧ (holdExhausted s).pilot.meter = s.pilot.meter
      ∧ (holdExhausted s).pilot.fullScale = s.pilot.fullScale ∧ (holdExhausted s).pilot.polarity = s.pilot.polarity
      ∧ (holdExhausted s).pilot.periodDue = s.pilot.periodDue ∧ (holdExhausted s).pilot.faultDue = s.pilot.faultDue
      ∧ (holdExhausted s).events.filter = s.events.filter ∧ (holdExhausted s).events.steering = s.events.steering
      ∧ (holdExhausted s).events.popping = s.events.popping ∧ (holdExhausted s).port = s.port
      ∧ (holdExhausted s).pending = s.pending := by
  unfold holdExhausted
  simp

@[simp] theorem settleFailedCommit_keeps (c : ClaimRecord) (s : State) :
    (settleFailedCommit c s).pins = s.pins ∧ (settleFailedCommit c s).mc.identity = s.mc.identity
      ∧ (settleFailedCommit c s).mc.census = s.mc.census ∧ (settleFailedCommit c s).mc.configured = s.mc.configured
      ∧ (settleFailedCommit c s).mc.duplicate = s.mc.duplicate
      ∧ (settleFailedCommit c s).table.nextSnapshot = s.table.nextSnapshot
      ∧ (settleFailedCommit c s).alloc.share.lastTx = s.alloc.share.lastTx
      ∧ (settleFailedCommit c s).alloc.share.floor = s.alloc.share.floor
      ∧ (settleFailedCommit c s).alloc.share.priority = s.alloc.share.priority
      ∧ (settleFailedCommit c s).alloc.share.demand = s.alloc.share.demand
      ∧ (settleFailedCommit c s).alloc.share.holdSeq = s.alloc.share.holdSeq
      ∧ (settleFailedCommit c s).alloc.share.claimCounter = s.alloc.share.claimCounter
      ∧ (settleFailedCommit c s).alloc.share.silence = s.alloc.share.silence
      ∧ (settleFailedCommit c s).alloc.holdAttempt = s.alloc.holdAttempt
      ∧ (settleFailedCommit c s).line.idle = s.line.idle ∧ (settleFailedCommit c s).line.bits = s.line.bits
      ∧ (settleFailedCommit c s).time = s.time ∧ (settleFailedCommit c s).pilot.faultIn = s.pilot.faultIn
      ∧ (settleFailedCommit c s).pilot.loadIn = s.pilot.loadIn ∧ (settleFailedCommit c s).pilot.mode = s.pilot.mode
      ∧ (settleFailedCommit c s).pilot.drive = s.pilot.drive ∧ (settleFailedCommit c s).pilot.duty = s.pilot.duty
      ∧ (settleFailedCommit c s).pilot.applied = s.pilot.applied
      ∧ (settleFailedCommit c s).pilot.phase = s.pilot.phase ∧ (settleFailedCommit c s).pilot.meter = s.pilot.meter
      ∧ (settleFailedCommit c s).pilot.fullScale = s.pilot.fullScale
      ∧ (settleFailedCommit c s).pilot.polarity = s.pilot.polarity
      ∧ (settleFailedCommit c s).pilot.periodDue = s.pilot.periodDue
      ∧ (settleFailedCommit c s).pilot.faultDue = s.pilot.faultDue
      ∧ (settleFailedCommit c s).events.filter = s.events.filter
      ∧ (settleFailedCommit c s).events.steering = s.events.steering
      ∧ (settleFailedCommit c s).events.popping = s.events.popping ∧ (settleFailedCommit c s).port = s.port
      ∧ (settleFailedCommit c s).pending = s.pending := by
  unfold settleFailedCommit
  (repeat' split) <;> simp

@[simp] theorem settleCommit_keeps (s : State) :
    (settleCommit s).pins = s.pins ∧ (settleCommit s).mc.identity = s.mc.identity
      ∧ (settleCommit s).mc.census = s.mc.census ∧ (settleCommit s).mc.configured = s.mc.configured
      ∧ (settleCommit s).mc.duplicate = s.mc.duplicate ∧ (settleCommit s).table.nextSnapshot = s.table.nextSnapshot
      ∧ (settleCommit s).alloc.share.lastTx = s.alloc.share.lastTx
      ∧ (settleCommit s).alloc.share.floor = s.alloc.share.floor
      ∧ (settleCommit s).alloc.share.priority = s.alloc.share.priority
      ∧ (settleCommit s).alloc.share.demand = s.alloc.share.demand
      ∧ (settleCommit s).alloc.share.holdSeq = s.alloc.share.holdSeq
      ∧ (settleCommit s).alloc.share.claimCounter = s.alloc.share.claimCounter
      ∧ (settleCommit s).alloc.share.silence = s.alloc.share.silence
      ∧ (settleCommit s).alloc.holdAttempt = s.alloc.holdAttempt ∧ (settleCommit s).line.idle = s.line.idle
      ∧ (settleCommit s).line.bits = s.line.bits ∧ (settleCommit s).time = s.time
      ∧ (settleCommit s).pilot.faultIn = s.pilot.faultIn ∧ (settleCommit s).pilot.loadIn = s.pilot.loadIn
      ∧ (settleCommit s).pilot.mode = s.pilot.mode ∧ (settleCommit s).pilot.drive = s.pilot.drive
      ∧ (settleCommit s).pilot.duty = s.pilot.duty ∧ (settleCommit s).pilot.applied = s.pilot.applied
      ∧ (settleCommit s).pilot.phase = s.pilot.phase ∧ (settleCommit s).pilot.meter = s.pilot.meter
      ∧ (settleCommit s).pilot.fullScale = s.pilot.fullScale ∧ (settleCommit s).pilot.polarity = s.pilot.polarity
      ∧ (settleCommit s).pilot.periodDue = s.pilot.periodDue ∧ (settleCommit s).pilot.faultDue = s.pilot.faultDue
      ∧ (settleCommit s).events.filter = s.events.filter ∧ (settleCommit s).events.steering = s.events.steering
      ∧ (settleCommit s).events.popping = s.events.popping ∧ (settleCommit s).port = s.port
      ∧ (settleCommit s).pending = s.pending := by
  unfold settleCommit
  (repeat' split) <;> simp

@[simp] theorem countHold_keeps (collided : Bool) (s : State) :
    (countHold collided s).pins = s.pins ∧ (countHold collided s).mc = s.mc ∧ (countHold collided s).table = s.table
      ∧ (countHold collided s).alloc = s.alloc ∧ (countHold collided s).outbox.claim = s.outbox.claim
      ∧ (countHold collided s).outbox.answers = s.outbox.answers
      ∧ (countHold collided s).outbox.answerList = s.outbox.answerList ∧ (countHold collided s).line = s.line
      ∧ (countHold collided s).time = s.time ∧ (countHold collided s).pilot = s.pilot
      ∧ (countHold collided s).events = s.events ∧ (countHold collided s).port = s.port
      ∧ (countHold collided s).pending = s.pending := by
  unfold countHold
  simp

@[simp] theorem exhaustHold_keeps (collided : Bool) (s : State) :
    (exhaustHold collided s).pins = s.pins ∧ (exhaustHold collided s).mc.identity = s.mc.identity
      ∧ (exhaustHold collided s).mc.census = s.mc.census ∧ (exhaustHold collided s).mc.configured = s.mc.configured
      ∧ (exhaustHold collided s).mc.duplicate = s.mc.duplicate
      ∧ (exhaustHold collided s).table.nextSnapshot = s.table.nextSnapshot
      ∧ (exhaustHold collided s).alloc.share.lastTx = s.alloc.share.lastTx
      ∧ (exhaustHold collided s).alloc.share.floor = s.alloc.share.floor
      ∧ (exhaustHold collided s).alloc.share.priority = s.alloc.share.priority
      ∧ (exhaustHold collided s).alloc.share.demand = s.alloc.share.demand
      ∧ (exhaustHold collided s).alloc.share.holdSeq = s.alloc.share.holdSeq
      ∧ (exhaustHold collided s).alloc.share.claimCounter = s.alloc.share.claimCounter
      ∧ (exhaustHold collided s).alloc.share.silence = s.alloc.share.silence
      ∧ (exhaustHold collided s).alloc.holdAttempt = s.alloc.holdAttempt
      ∧ (exhaustHold collided s).line.idle = s.line.idle ∧ (exhaustHold collided s).line.bits = s.line.bits
      ∧ (exhaustHold collided s).time = s.time ∧ (exhaustHold collided s).pilot.faultIn = s.pilot.faultIn
      ∧ (exhaustHold collided s).pilot.loadIn = s.pilot.loadIn ∧ (exhaustHold collided s).pilot.mode = s.pilot.mode
      ∧ (exhaustHold collided s).pilot.drive = s.pilot.drive ∧ (exhaustHold collided s).pilot.duty = s.pilot.duty
      ∧ (exhaustHold collided s).pilot.applied = s.pilot.applied
      ∧ (exhaustHold collided s).pilot.phase = s.pilot.phase ∧ (exhaustHold collided s).pilot.meter = s.pilot.meter
      ∧ (exhaustHold collided s).pilot.fullScale = s.pilot.fullScale
      ∧ (exhaustHold collided s).pilot.polarity = s.pilot.polarity
      ∧ (exhaustHold collided s).pilot.periodDue = s.pilot.periodDue
      ∧ (exhaustHold collided s).pilot.faultDue = s.pilot.faultDue
      ∧ (exhaustHold collided s).events.filter = s.events.filter
      ∧ (exhaustHold collided s).events.steering = s.events.steering
      ∧ (exhaustHold collided s).events.popping = s.events.popping ∧ (exhaustHold collided s).port = s.port
      ∧ (exhaustHold collided s).pending = s.pending := by
  unfold exhaustHold
  (repeat' split) <;> simp

@[simp] theorem countClaim_keeps (collided : Bool) (s : State) :
    (countClaim collided s).pins = s.pins ∧ (countClaim collided s).mc = s.mc
      ∧ (countClaim collided s).table = s.table ∧ (countClaim collided s).alloc = s.alloc
      ∧ (countClaim collided s).outbox.hold = s.outbox.hold
      ∧ (countClaim collided s).outbox.answers = s.outbox.answers
      ∧ (countClaim collided s).outbox.answerList = s.outbox.answerList ∧ (countClaim collided s).line = s.line
      ∧ (countClaim collided s).time = s.time ∧ (countClaim collided s).pilot = s.pilot
      ∧ (countClaim collided s).events = s.events ∧ (countClaim collided s).port = s.port
      ∧ (countClaim collided s).pending = s.pending := by
  unfold countClaim
  simp

@[simp] theorem exhaustClaim_keeps (collided : Bool) (s : State) :
    (exhaustClaim collided s).pins = s.pins ∧ (exhaustClaim collided s).mc.identity = s.mc.identity
      ∧ (exhaustClaim collided s).mc.census = s.mc.census ∧ (exhaustClaim collided s).mc.configured = s.mc.configured
      ∧ (exhaustClaim collided s).mc.duplicate = s.mc.duplicate
      ∧ (exhaustClaim collided s).table.nextSnapshot = s.table.nextSnapshot
      ∧ (exhaustClaim collided s).alloc.share.lastTx = s.alloc.share.lastTx
      ∧ (exhaustClaim collided s).alloc.share.floor = s.alloc.share.floor
      ∧ (exhaustClaim collided s).alloc.share.priority = s.alloc.share.priority
      ∧ (exhaustClaim collided s).alloc.share.demand = s.alloc.share.demand
      ∧ (exhaustClaim collided s).alloc.share.holdSeq = s.alloc.share.holdSeq
      ∧ (exhaustClaim collided s).alloc.share.silence = s.alloc.share.silence
      ∧ (exhaustClaim collided s).alloc.holdAttempt = s.alloc.holdAttempt
      ∧ (exhaustClaim collided s).line.idle = s.line.idle ∧ (exhaustClaim collided s).line.bits = s.line.bits
      ∧ (exhaustClaim collided s).time = s.time ∧ (exhaustClaim collided s).pilot.faultIn = s.pilot.faultIn
      ∧ (exhaustClaim collided s).pilot.loadIn = s.pilot.loadIn ∧ (exhaustClaim collided s).pilot.mode = s.pilot.mode
      ∧ (exhaustClaim collided s).pilot.drive = s.pilot.drive ∧ (exhaustClaim collided s).pilot.duty = s.pilot.duty
      ∧ (exhaustClaim collided s).pilot.applied = s.pilot.applied
      ∧ (exhaustClaim collided s).pilot.phase = s.pilot.phase ∧ (exhaustClaim collided s).pilot.meter = s.pilot.meter
      ∧ (exhaustClaim collided s).pilot.fullScale = s.pilot.fullScale
      ∧ (exhaustClaim collided s).pilot.polarity = s.pilot.polarity
      ∧ (exhaustClaim collided s).pilot.periodDue = s.pilot.periodDue
      ∧ (exhaustClaim collided s).pilot.faultDue = s.pilot.faultDue
      ∧ (exhaustClaim collided s).events.filter = s.events.filter
      ∧ (exhaustClaim collided s).events.steering = s.events.steering
      ∧ (exhaustClaim collided s).events.popping = s.events.popping ∧ (exhaustClaim collided s).port = s.port
      ∧ (exhaustClaim collided s).pending = s.pending := by
  unfold exhaustClaim
  (repeat' split) <;> simp

@[simp] theorem raiseExpired_keeps (reason : Nat) (a : AnswerSlot) (s : State) :
    (raiseExpired reason a s).pins = s.pins ∧ (raiseExpired reason a s).mc = s.mc
      ∧ (raiseExpired reason a s).table = s.table ∧ (raiseExpired reason a s).alloc = s.alloc
      ∧ (raiseExpired reason a s).outbox = s.outbox ∧ (raiseExpired reason a s).line = s.line
      ∧ (raiseExpired reason a s).time = s.time ∧ (raiseExpired reason a s).pilot = s.pilot
      ∧ (raiseExpired reason a s).events.filter = s.events.filter
      ∧ (raiseExpired reason a s).events.steering = s.events.steering
      ∧ (raiseExpired reason a s).events.active = s.events.active
      ∧ (raiseExpired reason a s).events.acked = s.events.acked
      ∧ (raiseExpired reason a s).events.popping = s.events.popping ∧ (raiseExpired reason a s).port = s.port
      ∧ (raiseExpired reason a s).pending = s.pending := by
  unfold raiseExpired
  simp

@[simp] theorem dropAnswer_keeps (k reason : Nat) (s : State) :
    (dropAnswer k reason s).pins = s.pins ∧ (dropAnswer k reason s).mc = s.mc
      ∧ (dropAnswer k reason s).table.nextSnapshot = s.table.nextSnapshot
      ∧ (dropAnswer k reason s).alloc.share.lastTx = s.alloc.share.lastTx
      ∧ (dropAnswer k reason s).alloc.share.floor = s.alloc.share.floor
      ∧ (dropAnswer k reason s).alloc.share.priority = s.alloc.share.priority
      ∧ (dropAnswer k reason s).alloc.share.demand = s.alloc.share.demand
      ∧ (dropAnswer k reason s).alloc.share.holdSeq = s.alloc.share.holdSeq
      ∧ (dropAnswer k reason s).alloc.share.silence = s.alloc.share.silence
      ∧ (dropAnswer k reason s).alloc.holdAttempt = s.alloc.holdAttempt ∧ (dropAnswer k reason s).line.rx = s.line.rx
      ∧ (dropAnswer k reason s).line.idle = s.line.idle ∧ (dropAnswer k reason s).line.bits = s.line.bits
      ∧ (dropAnswer k reason s).line.inbox = s.line.inbox ∧ (dropAnswer k reason s).time = s.time
      ∧ (dropAnswer k reason s).pilot.stateCopy = s.pilot.stateCopy
      ∧ (dropAnswer k reason s).pilot.faultIn = s.pilot.faultIn
      ∧ (dropAnswer k reason s).pilot.loadIn = s.pilot.loadIn ∧ (dropAnswer k reason s).pilot.mode = s.pilot.mode
      ∧ (dropAnswer k reason s).pilot.drive = s.pilot.drive ∧ (dropAnswer k reason s).pilot.duty = s.pilot.duty
      ∧ (dropAnswer k reason s).pilot.applied = s.pilot.applied ∧ (dropAnswer k reason s).pilot.phase = s.pilot.phase
      ∧ (dropAnswer k reason s).pilot.meter = s.pilot.meter
      ∧ (dropAnswer k reason s).pilot.fullScale = s.pilot.fullScale
      ∧ (dropAnswer k reason s).pilot.polarity = s.pilot.polarity
      ∧ (dropAnswer k reason s).pilot.periodDue = s.pilot.periodDue
      ∧ (dropAnswer k reason s).pilot.faultDue = s.pilot.faultDue
      ∧ (dropAnswer k reason s).events.filter = s.events.filter
      ∧ (dropAnswer k reason s).events.steering = s.events.steering
      ∧ (dropAnswer k reason s).events.popping = s.events.popping ∧ (dropAnswer k reason s).port = s.port
      ∧ (dropAnswer k reason s).pending = s.pending := by
  unfold dropAnswer
  simp

@[simp] theorem countAnswer_keeps (k : Nat) (charged : Bool) (s : State) :
    (countAnswer k charged s).pins = s.pins ∧ (countAnswer k charged s).mc = s.mc
      ∧ (countAnswer k charged s).table = s.table ∧ (countAnswer k charged s).alloc = s.alloc
      ∧ (countAnswer k charged s).outbox.hold = s.outbox.hold
      ∧ (countAnswer k charged s).outbox.claim = s.outbox.claim
      ∧ (countAnswer k charged s).outbox.answerList = s.outbox.answerList ∧ (countAnswer k charged s).line = s.line
      ∧ (countAnswer k charged s).time = s.time ∧ (countAnswer k charged s).pilot = s.pilot
      ∧ (countAnswer k charged s).events = s.events ∧ (countAnswer k charged s).port = s.port
      ∧ (countAnswer k charged s).pending = s.pending := by
  unfold countAnswer
  simp

@[simp] theorem raiseGaveUp_keeps (a : AnswerSlot) (s : State) :
    (raiseGaveUp a s).pins = s.pins ∧ (raiseGaveUp a s).mc = s.mc ∧ (raiseGaveUp a s).table = s.table
      ∧ (raiseGaveUp a s).alloc = s.alloc ∧ (raiseGaveUp a s).outbox = s.outbox ∧ (raiseGaveUp a s).line = s.line
      ∧ (raiseGaveUp a s).time = s.time ∧ (raiseGaveUp a s).pilot = s.pilot
      ∧ (raiseGaveUp a s).events.filter = s.events.filter ∧ (raiseGaveUp a s).events.steering = s.events.steering
      ∧ (raiseGaveUp a s).events.active = s.events.active ∧ (raiseGaveUp a s).events.acked = s.events.acked
      ∧ (raiseGaveUp a s).events.popping = s.events.popping ∧ (raiseGaveUp a s).port = s.port
      ∧ (raiseGaveUp a s).pending = s.pending := by
  unfold raiseGaveUp
  simp

@[simp] theorem exhaustAnswer_keeps (k : Nat) (charged : Bool) (s : State) :
    (exhaustAnswer k charged s).pins = s.pins ∧ (exhaustAnswer k charged s).mc = s.mc
      ∧ (exhaustAnswer k charged s).table.nextSnapshot = s.table.nextSnapshot
      ∧ (exhaustAnswer k charged s).alloc.share.lastTx = s.alloc.share.lastTx
      ∧ (exhaustAnswer k charged s).alloc.share.floor = s.alloc.share.floor
      ∧ (exhaustAnswer k charged s).alloc.share.priority = s.alloc.share.priority
      ∧ (exhaustAnswer k charged s).alloc.share.demand = s.alloc.share.demand
      ∧ (exhaustAnswer k charged s).alloc.share.holdSeq = s.alloc.share.holdSeq
      ∧ (exhaustAnswer k charged s).alloc.share.silence = s.alloc.share.silence
      ∧ (exhaustAnswer k charged s).alloc.holdAttempt = s.alloc.holdAttempt
      ∧ (exhaustAnswer k charged s).line.rx = s.line.rx ∧ (exhaustAnswer k charged s).line.idle = s.line.idle
      ∧ (exhaustAnswer k charged s).line.bits = s.line.bits ∧ (exhaustAnswer k charged s).line.inbox = s.line.inbox
      ∧ (exhaustAnswer k charged s).time = s.time ∧ (exhaustAnswer k charged s).pilot.stateCopy = s.pilot.stateCopy
      ∧ (exhaustAnswer k charged s).pilot.faultIn = s.pilot.faultIn
      ∧ (exhaustAnswer k charged s).pilot.loadIn = s.pilot.loadIn
      ∧ (exhaustAnswer k charged s).pilot.mode = s.pilot.mode
      ∧ (exhaustAnswer k charged s).pilot.drive = s.pilot.drive
      ∧ (exhaustAnswer k charged s).pilot.duty = s.pilot.duty
      ∧ (exhaustAnswer k charged s).pilot.applied = s.pilot.applied
      ∧ (exhaustAnswer k charged s).pilot.phase = s.pilot.phase
      ∧ (exhaustAnswer k charged s).pilot.meter = s.pilot.meter
      ∧ (exhaustAnswer k charged s).pilot.fullScale = s.pilot.fullScale
      ∧ (exhaustAnswer k charged s).pilot.polarity = s.pilot.polarity
      ∧ (exhaustAnswer k charged s).pilot.periodDue = s.pilot.periodDue
      ∧ (exhaustAnswer k charged s).pilot.faultDue = s.pilot.faultDue
      ∧ (exhaustAnswer k charged s).events.filter = s.events.filter
      ∧ (exhaustAnswer k charged s).events.steering = s.events.steering
      ∧ (exhaustAnswer k charged s).events.popping = s.events.popping ∧ (exhaustAnswer k charged s).port = s.port
      ∧ (exhaustAnswer k charged s).pending = s.pending := by
  unfold exhaustAnswer
  (repeat' split) <;> simp

@[simp] theorem reportAnswer_keeps (k : Nat) (charged : Bool) (s : State) :
    (reportAnswer k charged s).pins = s.pins ∧ (reportAnswer k charged s).mc = s.mc
      ∧ (reportAnswer k charged s).table.nextSnapshot = s.table.nextSnapshot
      ∧ (reportAnswer k charged s).alloc.share.lastTx = s.alloc.share.lastTx
      ∧ (reportAnswer k charged s).alloc.share.floor = s.alloc.share.floor
      ∧ (reportAnswer k charged s).alloc.share.priority = s.alloc.share.priority
      ∧ (reportAnswer k charged s).alloc.share.demand = s.alloc.share.demand
      ∧ (reportAnswer k charged s).alloc.share.holdSeq = s.alloc.share.holdSeq
      ∧ (reportAnswer k charged s).alloc.share.silence = s.alloc.share.silence
      ∧ (reportAnswer k charged s).alloc.holdAttempt = s.alloc.holdAttempt
      ∧ (reportAnswer k charged s).line.rx = s.line.rx ∧ (reportAnswer k charged s).line.idle = s.line.idle
      ∧ (reportAnswer k charged s).line.bits = s.line.bits ∧ (reportAnswer k charged s).line.inbox = s.line.inbox
      ∧ (reportAnswer k charged s).time = s.time ∧ (reportAnswer k charged s).pilot.stateCopy = s.pilot.stateCopy
      ∧ (reportAnswer k charged s).pilot.faultIn = s.pilot.faultIn
      ∧ (reportAnswer k charged s).pilot.loadIn = s.pilot.loadIn
      ∧ (reportAnswer k charged s).pilot.mode = s.pilot.mode
      ∧ (reportAnswer k charged s).pilot.drive = s.pilot.drive
      ∧ (reportAnswer k charged s).pilot.duty = s.pilot.duty
      ∧ (reportAnswer k charged s).pilot.applied = s.pilot.applied
      ∧ (reportAnswer k charged s).pilot.phase = s.pilot.phase
      ∧ (reportAnswer k charged s).pilot.meter = s.pilot.meter
      ∧ (reportAnswer k charged s).pilot.fullScale = s.pilot.fullScale
      ∧ (reportAnswer k charged s).pilot.polarity = s.pilot.polarity
      ∧ (reportAnswer k charged s).pilot.periodDue = s.pilot.periodDue
      ∧ (reportAnswer k charged s).pilot.faultDue = s.pilot.faultDue
      ∧ (reportAnswer k charged s).events.filter = s.events.filter
      ∧ (reportAnswer k charged s).events.steering = s.events.steering
      ∧ (reportAnswer k charged s).events.popping = s.events.popping ∧ (reportAnswer k charged s).port = s.port
      ∧ (reportAnswer k charged s).pending = s.pending := by
  unfold reportAnswer
  simp

/-- A report brings the slot to what `AnswerSlot.reported` says and leaves the other slots (R129). -/
theorem countAnswer_answers (k : Nat) (charged : Bool) (s : State) :
    (countAnswer k charged s).outbox.answers = s.outbox.answers.modify k (AnswerSlot.reported charged) := rfl

/-- What a report is counted against (R129, R130): a CUT, and a collision of an attempt sent for former content, against
nothing. -/
@[simp] theorem AnswerSlot.charged_cut (a : AnswerSlot) : a.charged false = false := rfl
@[simp] theorem AnswerSlot.charged_collided (a : AnswerSlot) : a.charged true = !a.rewritten := rfl
@[simp] theorem AnswerSlot.reported_false (a : AnswerSlot) :
    a.reported false = { a with inFlight := false, rewritten := false } := rfl
@[simp] theorem AnswerSlot.reported_true (a : AnswerSlot) :
    a.reported true = { a with inFlight := false, rewritten := false, attempts := a.attempts + 1 } := rfl

end Sys2Proof.Machine
end

