-- ==== Sys2Proof/Laws/Receive.lean ====
section
/-! SUPPORT. What the operations on frames taken leave as it was (Machine/Receive.lean): one lemma an operation. -/

namespace Sys2Proof.Machine

@[simp] theorem popInbox_keeps (s : State) :
    (popInbox s).pins = s.pins ∧ (popInbox s).mc = s.mc ∧ (popInbox s).table = s.table
      ∧ (popInbox s).alloc = s.alloc ∧ (popInbox s).outbox = s.outbox ∧ (popInbox s).line.rx = s.line.rx
      ∧ (popInbox s).line.idle = s.line.idle ∧ (popInbox s).line.tx = s.line.tx ∧ (popInbox s).line.bits = s.line.bits
      ∧ (popInbox s).time = s.time ∧ (popInbox s).pilot = s.pilot ∧ (popInbox s).events = s.events
      ∧ (popInbox s).port = s.port ∧ (popInbox s).pending = s.pending := ⟨rfl, rfl, rfl, rfl, rfl, rfl, rfl, rfl, rfl, rfl, rfl, rfl, rfl, rfl⟩

@[simp] theorem raiseIf_keeps (b : Bool) (kind : EventKind) (station : Option Nat) (claim : Option Byte) (value : Option Half) (s : State) :
    (raiseIf b kind station claim value s).pins = s.pins ∧ (raiseIf b kind station claim value s).mc = s.mc
      ∧ (raiseIf b kind station claim value s).table = s.table
      ∧ (raiseIf b kind station claim value s).alloc = s.alloc
      ∧ (raiseIf b kind station claim value s).outbox = s.outbox
      ∧ (raiseIf b kind station claim value s).line = s.line ∧ (raiseIf b kind station claim value s).time = s.time
      ∧ (raiseIf b kind station claim value s).pilot = s.pilot
      ∧ (raiseIf b kind station claim value s).events.filter = s.events.filter
      ∧ (raiseIf b kind station claim value s).events.steering = s.events.steering
      ∧ (raiseIf b kind station claim value s).events.active = s.events.active
      ∧ (raiseIf b kind station claim value s).events.acked = s.events.acked
      ∧ (raiseIf b kind station claim value s).events.popping = s.events.popping
      ∧ (raiseIf b kind station claim value s).port = s.port
      ∧ (raiseIf b kind station claim value s).pending = s.pending := by
  unfold raiseIf
  (repeat' split) <;> simp

@[simp] theorem holdEvents_keeps (x : Nat) (h : HoldFields) (e : Entry) (s : State) :
    (holdEvents x h e s).pins = s.pins ∧ (holdEvents x h e s).mc = s.mc ∧ (holdEvents x h e s).table = s.table
      ∧ (holdEvents x h e s).alloc = s.alloc ∧ (holdEvents x h e s).outbox = s.outbox
      ∧ (holdEvents x h e s).line = s.line ∧ (holdEvents x h e s).time = s.time ∧ (holdEvents x h e s).pilot = s.pilot
      ∧ (holdEvents x h e s).events.filter = s.events.filter
      ∧ (holdEvents x h e s).events.steering = s.events.steering
      ∧ (holdEvents x h e s).events.active = s.events.active ∧ (holdEvents x h e s).events.acked = s.events.acked
      ∧ (holdEvents x h e s).events.popping = s.events.popping ∧ (holdEvents x h e s).port = s.port
      ∧ (holdEvents x h e s).pending = s.pending := by
  unfold holdEvents
  simp

@[simp] theorem endBackoffIf_keeps (fell : Bool) (s : State) :
    (endBackoffIf fell s).pins = s.pins ∧ (endBackoffIf fell s).mc = s.mc ∧ (endBackoffIf fell s).table = s.table
      ∧ (endBackoffIf fell s).alloc.share.held = s.alloc.share.held
      ∧ (endBackoffIf fell s).alloc.share.lastTx = s.alloc.share.lastTx
      ∧ (endBackoffIf fell s).alloc.share.floor = s.alloc.share.floor
      ∧ (endBackoffIf fell s).alloc.share.priority = s.alloc.share.priority
      ∧ (endBackoffIf fell s).alloc.share.demand = s.alloc.share.demand
      ∧ (endBackoffIf fell s).alloc.share.holdSeq = s.alloc.share.holdSeq
      ∧ (endBackoffIf fell s).alloc.share.claimCounter = s.alloc.share.claimCounter
      ∧ (endBackoffIf fell s).alloc.share.silence = s.alloc.share.silence
      ∧ (endBackoffIf fell s).alloc.share.failures = s.alloc.share.failures
      ∧ (endBackoffIf fell s).alloc.claim = s.alloc.claim
      ∧ (endBackoffIf fell s).alloc.holdAttempt = s.alloc.holdAttempt ∧ (endBackoffIf fell s).outbox = s.outbox
      ∧ (endBackoffIf fell s).line = s.line ∧ (endBackoffIf fell s).time = s.time
      ∧ (endBackoffIf fell s).pilot = s.pilot ∧ (endBackoffIf fell s).events = s.events
      ∧ (endBackoffIf fell s).port = s.port ∧ (endBackoffIf fell s).pending = s.pending := by
  unfold endBackoffIf
  (repeat' split) <;> simp

@[simp] theorem withdrawFor_keeps (x : Nat) (m : Option Earmark) (s : State) :
    (withdrawFor x m s).pins = s.pins ∧ (withdrawFor x m s).mc = s.mc ∧ (withdrawFor x m s).table = s.table
      ∧ (withdrawFor x m s).alloc = s.alloc ∧ (withdrawFor x m s).outbox.hold = s.outbox.hold
      ∧ (withdrawFor x m s).outbox.claim = s.outbox.claim ∧ (withdrawFor x m s).line.rx = s.line.rx
      ∧ (withdrawFor x m s).line.idle = s.line.idle ∧ (withdrawFor x m s).line.bits = s.line.bits
      ∧ (withdrawFor x m s).line.inbox = s.line.inbox ∧ (withdrawFor x m s).time = s.time
      ∧ (withdrawFor x m s).pilot = s.pilot ∧ (withdrawFor x m s).events = s.events
      ∧ (withdrawFor x m s).port = s.port ∧ (withdrawFor x m s).pending = s.pending := by
  unfold withdrawFor
  (repeat' split) <;> simp

@[simp] theorem writeAnswer_keeps (k x : Nat) (n : Byte) (a : Answer) (shed : Bool) (s : State) :
    (writeAnswer k x n a shed s).pins = s.pins ∧ (writeAnswer k x n a shed s).mc = s.mc
      ∧ (writeAnswer k x n a shed s).table = s.table ∧ (writeAnswer k x n a shed s).alloc = s.alloc
      ∧ (writeAnswer k x n a shed s).outbox.hold = s.outbox.hold
      ∧ (writeAnswer k x n a shed s).outbox.claim = s.outbox.claim ∧ (writeAnswer k x n a shed s).line = s.line
      ∧ (writeAnswer k x n a shed s).time = s.time ∧ (writeAnswer k x n a shed s).pilot = s.pilot
      ∧ (writeAnswer k x n a shed s).events = s.events ∧ (writeAnswer k x n a shed s).port = s.port
      ∧ (writeAnswer k x n a shed s).pending = s.pending := by
  unfold writeAnswer
  simp

@[simp] theorem dropEarmarkOf_keeps (x : Nat) (n : Byte) (s : State) :
    (dropEarmarkOf x n s).pins = s.pins ∧ (dropEarmarkOf x n s).mc = s.mc
      ∧ (dropEarmarkOf x n s).table.sums = s.table.sums ∧ (dropEarmarkOf x n s).table.overcommit = s.table.overcommit
      ∧ (dropEarmarkOf x n s).table.nextSnapshot = s.table.nextSnapshot ∧ (dropEarmarkOf x n s).alloc = s.alloc
      ∧ (dropEarmarkOf x n s).outbox.hold = s.outbox.hold ∧ (dropEarmarkOf x n s).outbox.claim = s.outbox.claim
      ∧ (dropEarmarkOf x n s).line.rx = s.line.rx ∧ (dropEarmarkOf x n s).line.idle = s.line.idle
      ∧ (dropEarmarkOf x n s).line.bits = s.line.bits ∧ (dropEarmarkOf x n s).line.inbox = s.line.inbox
      ∧ (dropEarmarkOf x n s).time = s.time ∧ (dropEarmarkOf x n s).pilot = s.pilot
      ∧ (dropEarmarkOf x n s).events.filter = s.events.filter
      ∧ (dropEarmarkOf x n s).events.steering = s.events.steering
      ∧ (dropEarmarkOf x n s).events.active = s.events.active ∧ (dropEarmarkOf x n s).events.acked = s.events.acked
      ∧ (dropEarmarkOf x n s).events.popping = s.events.popping ∧ (dropEarmarkOf x n s).port = s.port
      ∧ (dropEarmarkOf x n s).pending = s.pending := by
  unfold dropEarmarkOf
  (repeat' split) <;> simp

@[simp] theorem objectTo_keeps (k x : Nat) (n : Byte) (reason : ObjectReason) (s : State) :
    (objectTo k x n reason s).pins = s.pins ∧ (objectTo k x n reason s).mc = s.mc
      ∧ (objectTo k x n reason s).table.sums = s.table.sums
      ∧ (objectTo k x n reason s).table.overcommit = s.table.overcommit
      ∧ (objectTo k x n reason s).table.nextSnapshot = s.table.nextSnapshot
      ∧ (objectTo k x n reason s).alloc = s.alloc ∧ (objectTo k x n reason s).outbox.hold = s.outbox.hold
      ∧ (objectTo k x n reason s).outbox.claim = s.outbox.claim ∧ (objectTo k x n reason s).line.rx = s.line.rx
      ∧ (objectTo k x n reason s).line.idle = s.line.idle ∧ (objectTo k x n reason s).line.bits = s.line.bits
      ∧ (objectTo k x n reason s).line.inbox = s.line.inbox ∧ (objectTo k x n reason s).time = s.time
      ∧ (objectTo k x n reason s).pilot = s.pilot ∧ (objectTo k x n reason s).events.filter = s.events.filter
      ∧ (objectTo k x n reason s).events.steering = s.events.steering
      ∧ (objectTo k x n reason s).events.active = s.events.active
      ∧ (objectTo k x n reason s).events.acked = s.events.acked
      ∧ (objectTo k x n reason s).events.popping = s.events.popping ∧ (objectTo k x n reason s).port = s.port
      ∧ (objectTo k x n reason s).pending = s.pending := by
  unfold objectTo
  simp

@[simp] theorem withdrawEarlier_keeps (x : Nat) (n : Byte) (s : State) :
    (withdrawEarlier x n s).pins = s.pins ∧ (withdrawEarlier x n s).mc = s.mc
      ∧ (withdrawEarlier x n s).table = s.table ∧ (withdrawEarlier x n s).alloc = s.alloc
      ∧ (withdrawEarlier x n s).outbox.hold = s.outbox.hold ∧ (withdrawEarlier x n s).outbox.claim = s.outbox.claim
      ∧ (withdrawEarlier x n s).line.rx = s.line.rx ∧ (withdrawEarlier x n s).line.idle = s.line.idle
      ∧ (withdrawEarlier x n s).line.bits = s.line.bits ∧ (withdrawEarlier x n s).line.inbox = s.line.inbox
      ∧ (withdrawEarlier x n s).time = s.time ∧ (withdrawEarlier x n s).pilot = s.pilot
      ∧ (withdrawEarlier x n s).events = s.events ∧ (withdrawEarlier x n s).port = s.port
      ∧ (withdrawEarlier x n s).pending = s.pending := by
  unfold withdrawEarlier
  (repeat' split) <;> simp

@[simp] theorem assentTo_keeps (k x : Nat) (n : Byte) (amount : Nat) (s : State) :
    (assentTo k x n amount s).pins = s.pins ∧ (assentTo k x n amount s).mc = s.mc
      ∧ (assentTo k x n amount s).table.sums = s.table.sums
      ∧ (assentTo k x n amount s).table.overcommit = s.table.overcommit
      ∧ (assentTo k x n amount s).table.nextSnapshot = s.table.nextSnapshot
      ∧ (assentTo k x n amount s).alloc = s.alloc ∧ (assentTo k x n amount s).outbox.hold = s.outbox.hold
      ∧ (assentTo k x n amount s).outbox.claim = s.outbox.claim ∧ (assentTo k x n amount s).line.rx = s.line.rx
      ∧ (assentTo k x n amount s).line.idle = s.line.idle ∧ (assentTo k x n amount s).line.bits = s.line.bits
      ∧ (assentTo k x n amount s).line.inbox = s.line.inbox ∧ (assentTo k x n amount s).time = s.time
      ∧ (assentTo k x n amount s).pilot = s.pilot ∧ (assentTo k x n amount s).events = s.events
      ∧ (assentTo k x n amount s).port = s.port ∧ (assentTo k x n amount s).pending = s.pending := by
  unfold assentTo
  simp

@[simp] theorem answerByRoom_keeps (k x : Nat) (n : Byte) (amount : Nat) (s : State) :
    (answerByRoom k x n amount s).pins = s.pins ∧ (answerByRoom k x n amount s).mc = s.mc
      ∧ (answerByRoom k x n amount s).table.sums = s.table.sums
      ∧ (answerByRoom k x n amount s).table.overcommit = s.table.overcommit
      ∧ (answerByRoom k x n amount s).table.nextSnapshot = s.table.nextSnapshot
      ∧ (answerByRoom k x n amount s).alloc = s.alloc ∧ (answerByRoom k x n amount s).outbox.hold = s.outbox.hold
      ∧ (answerByRoom k x n amount s).outbox.claim = s.outbox.claim
      ∧ (answerByRoom k x n amount s).line.rx = s.line.rx ∧ (answerByRoom k x n amount s).line.idle = s.line.idle
      ∧ (answerByRoom k x n amount s).line.bits = s.line.bits
      ∧ (answerByRoom k x n amount s).line.inbox = s.line.inbox ∧ (answerByRoom k x n amount s).time = s.time
      ∧ (answerByRoom k x n amount s).pilot = s.pilot ∧ (answerByRoom k x n amount s).events.filter = s.events.filter
      ∧ (answerByRoom k x n amount s).events.steering = s.events.steering
      ∧ (answerByRoom k x n amount s).events.active = s.events.active
      ∧ (answerByRoom k x n amount s).events.acked = s.events.acked
      ∧ (answerByRoom k x n amount s).events.popping = s.events.popping ∧ (answerByRoom k x n amount s).port = s.port
      ∧ (answerByRoom k x n amount s).pending = s.pending := by
  unfold answerByRoom
  (repeat' split) <;> simp

@[simp] theorem answerClaim_keeps (k x : Nat) (n : Byte) (amount priority : Nat) (s : State) :
    (answerClaim k x n amount priority s).pins = s.pins ∧ (answerClaim k x n amount priority s).mc = s.mc
      ∧ (answerClaim k x n amount priority s).table.sums = s.table.sums
      ∧ (answerClaim k x n amount priority s).table.overcommit = s.table.overcommit
      ∧ (answerClaim k x n amount priority s).table.nextSnapshot = s.table.nextSnapshot
      ∧ (answerClaim k x n amount priority s).alloc.share.held = s.alloc.share.held
      ∧ (answerClaim k x n amount priority s).alloc.share.lastTx = s.alloc.share.lastTx
      ∧ (answerClaim k x n amount priority s).alloc.share.floor = s.alloc.share.floor
      ∧ (answerClaim k x n amount priority s).alloc.share.priority = s.alloc.share.priority
      ∧ (answerClaim k x n amount priority s).alloc.share.demand = s.alloc.share.demand
      ∧ (answerClaim k x n amount priority s).alloc.share.holdSeq = s.alloc.share.holdSeq
      ∧ (answerClaim k x n amount priority s).alloc.share.claimCounter = s.alloc.share.claimCounter
      ∧ (answerClaim k x n amount priority s).alloc.share.silence = s.alloc.share.silence
      ∧ (answerClaim k x n amount priority s).alloc.holdAttempt = s.alloc.holdAttempt
      ∧ (answerClaim k x n amount priority s).outbox.hold = s.outbox.hold
      ∧ (answerClaim k x n amount priority s).line.rx = s.line.rx
      ∧ (answerClaim k x n amount priority s).line.idle = s.line.idle
      ∧ (answerClaim k x n amount priority s).line.bits = s.line.bits
      ∧ (answerClaim k x n amount priority s).line.inbox = s.line.inbox
      ∧ (answerClaim k x n amount priority s).time = s.time ∧ (answerClaim k x n amount priority s).pilot = s.pilot
      ∧ (answerClaim k x n amount priority s).events.filter = s.events.filter
      ∧ (answerClaim k x n amount priority s).events.steering = s.events.steering
      ∧ (answerClaim k x n amount priority s).events.active = s.events.active
      ∧ (answerClaim k x n amount priority s).events.acked = s.events.acked
      ∧ (answerClaim k x n amount priority s).events.popping = s.events.popping
      ∧ (answerClaim k x n amount priority s).port = s.port
      ∧ (answerClaim k x n amount priority s).pending = s.pending := by
  unfold answerClaim
  (repeat' split) <;> simp

@[simp] theorem beforeCut_keeps (s : State) :
    (beforeCut s).pins = s.pins ∧ (beforeCut s).mc = s.mc ∧ (beforeCut s).table = s.table
      ∧ (beforeCut s).alloc.share = s.alloc.share ∧ (beforeCut s).alloc.claim = s.alloc.claim
      ∧ (beforeCut s).outbox = s.outbox ∧ (beforeCut s).line = s.line ∧ (beforeCut s).time = s.time
      ∧ (beforeCut s).pilot = s.pilot ∧ (beforeCut s).events = s.events ∧ (beforeCut s).port = s.port
      ∧ (beforeCut s).pending = s.pending := ⟨rfl, rfl, rfl, rfl, rfl, rfl, rfl, rfl, rfl, rfl, rfl, rfl⟩

@[simp] theorem squeeze_keeps (j : Nat) (n : Byte) (cut : Nat) (s : State) :
    (squeeze j n cut s).pins = s.pins ∧ (squeeze j n cut s).mc = s.mc ∧ (squeeze j n cut s).table = s.table
      ∧ (squeeze j n cut s).alloc.share.lastTx = s.alloc.share.lastTx
      ∧ (squeeze j n cut s).alloc.share.floor = s.alloc.share.floor
      ∧ (squeeze j n cut s).alloc.share.priority = s.alloc.share.priority
      ∧ (squeeze j n cut s).alloc.share.demand = s.alloc.share.demand
      ∧ (squeeze j n cut s).alloc.share.holdSeq = s.alloc.share.holdSeq
      ∧ (squeeze j n cut s).alloc.share.claimCounter = s.alloc.share.claimCounter
      ∧ (squeeze j n cut s).alloc.share.silence = s.alloc.share.silence
      ∧ (squeeze j n cut s).alloc.share.failures = s.alloc.share.failures
      ∧ (squeeze j n cut s).alloc.share.backoff = s.alloc.share.backoff
      ∧ (squeeze j n cut s).alloc.claim = s.alloc.claim ∧ (squeeze j n cut s).outbox.claim = s.outbox.claim
      ∧ (squeeze j n cut s).outbox.answers = s.outbox.answers
      ∧ (squeeze j n cut s).outbox.answerList = s.outbox.answerList ∧ (squeeze j n cut s).line = s.line
      ∧ (squeeze j n cut s).time = s.time ∧ (squeeze j n cut s).pilot.stateCopy = s.pilot.stateCopy
      ∧ (squeeze j n cut s).pilot.faultIn = s.pilot.faultIn ∧ (squeeze j n cut s).pilot.loadIn = s.pilot.loadIn
      ∧ (squeeze j n cut s).pilot.mode = s.pilot.mode ∧ (squeeze j n cut s).pilot.drive = s.pilot.drive
      ∧ (squeeze j n cut s).pilot.duty = s.pilot.duty ∧ (squeeze j n cut s).pilot.applied = s.pilot.applied
      ∧ (squeeze j n cut s).pilot.phase = s.pilot.phase ∧ (squeeze j n cut s).pilot.meter = s.pilot.meter
      ∧ (squeeze j n cut s).pilot.fullScale = s.pilot.fullScale
      ∧ (squeeze j n cut s).pilot.polarity = s.pilot.polarity
      ∧ (squeeze j n cut s).pilot.periodDue = s.pilot.periodDue
      ∧ (squeeze j n cut s).pilot.faultDue = s.pilot.faultDue ∧ (squeeze j n cut s).events.filter = s.events.filter
      ∧ (squeeze j n cut s).events.steering = s.events.steering ∧ (squeeze j n cut s).events.active = s.events.active
      ∧ (squeeze j n cut s).events.acked = s.events.acked ∧ (squeeze j n cut s).events.popping = s.events.popping
      ∧ (squeeze j n cut s).port = s.port ∧ (squeeze j n cut s).pending = s.pending := by
  unfold squeeze
  simp

@[simp] theorem shed_keeps (j : Nat) (n : Byte) (floor : Nat) (s : State) :
    (shed j n floor s).pins = s.pins ∧ (shed j n floor s).mc = s.mc ∧ (shed j n floor s).table = s.table
      ∧ (shed j n floor s).alloc.share.lastTx = s.alloc.share.lastTx
      ∧ (shed j n floor s).alloc.share.floor = s.alloc.share.floor
      ∧ (shed j n floor s).alloc.share.priority = s.alloc.share.priority
      ∧ (shed j n floor s).alloc.share.demand = s.alloc.share.demand
      ∧ (shed j n floor s).alloc.share.holdSeq = s.alloc.share.holdSeq
      ∧ (shed j n floor s).alloc.share.claimCounter = s.alloc.share.claimCounter
      ∧ (shed j n floor s).alloc.share.silence = s.alloc.share.silence
      ∧ (shed j n floor s).alloc.share.failures = s.alloc.share.failures
      ∧ (shed j n floor s).alloc.share.backoff = s.alloc.share.backoff
      ∧ (shed j n floor s).alloc.claim = s.alloc.claim ∧ (shed j n floor s).outbox.claim = s.outbox.claim
      ∧ (shed j n floor s).outbox.answers = s.outbox.answers
      ∧ (shed j n floor s).outbox.answerList = s.outbox.answerList ∧ (shed j n floor s).line = s.line
      ∧ (shed j n floor s).time = s.time ∧ (shed j n floor s).pilot.stateCopy = s.pilot.stateCopy
      ∧ (shed j n floor s).pilot.faultIn = s.pilot.faultIn ∧ (shed j n floor s).pilot.loadIn = s.pilot.loadIn
      ∧ (shed j n floor s).pilot.mode = s.pilot.mode ∧ (shed j n floor s).pilot.drive = s.pilot.drive
      ∧ (shed j n floor s).pilot.duty = s.pilot.duty ∧ (shed j n floor s).pilot.applied = s.pilot.applied
      ∧ (shed j n floor s).pilot.phase = s.pilot.phase ∧ (shed j n floor s).pilot.meter = s.pilot.meter
      ∧ (shed j n floor s).pilot.fullScale = s.pilot.fullScale ∧ (shed j n floor s).pilot.polarity = s.pilot.polarity
      ∧ (shed j n floor s).pilot.periodDue = s.pilot.periodDue ∧ (shed j n floor s).pilot.faultDue = s.pilot.faultDue
      ∧ (shed j n floor s).events.filter = s.events.filter ∧ (shed j n floor s).events.steering = s.events.steering
      ∧ (shed j n floor s).events.active = s.events.active ∧ (shed j n floor s).events.acked = s.events.acked
      ∧ (shed j n floor s).events.popping = s.events.popping ∧ (shed j n floor s).port = s.port
      ∧ (shed j n floor s).pending = s.pending := by
  unfold shed
  (repeat' split) <;> simp

@[simp] theorem assentToJoin_keeps (k j : Nat) (n : Byte) (floor priority : Nat) (s : State) :
    (assentToJoin k j n floor priority s).pins = s.pins ∧ (assentToJoin k j n floor priority s).mc = s.mc
      ∧ (assentToJoin k j n floor priority s).table.sums = s.table.sums
      ∧ (assentToJoin k j n floor priority s).table.overcommit = s.table.overcommit
      ∧ (assentToJoin k j n floor priority s).table.nextSnapshot = s.table.nextSnapshot
      ∧ (assentToJoin k j n floor priority s).alloc.share.lastTx = s.alloc.share.lastTx
      ∧ (assentToJoin k j n floor priority s).alloc.share.floor = s.alloc.share.floor
      ∧ (assentToJoin k j n floor priority s).alloc.share.priority = s.alloc.share.priority
      ∧ (assentToJoin k j n floor priority s).alloc.share.demand = s.alloc.share.demand
      ∧ (assentToJoin k j n floor priority s).alloc.share.holdSeq = s.alloc.share.holdSeq
      ∧ (assentToJoin k j n floor priority s).alloc.share.claimCounter = s.alloc.share.claimCounter
      ∧ (assentToJoin k j n floor priority s).alloc.share.silence = s.alloc.share.silence
      ∧ (assentToJoin k j n floor priority s).alloc.share.failures = s.alloc.share.failures
      ∧ (assentToJoin k j n floor priority s).alloc.share.backoff = s.alloc.share.backoff
      ∧ (assentToJoin k j n floor priority s).alloc.claim = s.alloc.claim
      ∧ (assentToJoin k j n floor priority s).outbox.claim = s.outbox.claim
      ∧ (assentToJoin k j n floor priority s).line = s.line ∧ (assentToJoin k j n floor priority s).time = s.time
      ∧ (assentToJoin k j n floor priority s).pilot.stateCopy = s.pilot.stateCopy
      ∧ (assentToJoin k j n floor priority s).pilot.faultIn = s.pilot.faultIn
      ∧ (assentToJoin k j n floor priority s).pilot.loadIn = s.pilot.loadIn
      ∧ (assentToJoin k j n floor priority s).pilot.mode = s.pilot.mode
      ∧ (assentToJoin k j n floor priority s).pilot.drive = s.pilot.drive
      ∧ (assentToJoin k j n floor priority s).pilot.duty = s.pilot.duty
      ∧ (assentToJoin k j n floor priority s).pilot.applied = s.pilot.applied
      ∧ (assentToJoin k j n floor priority s).pilot.phase = s.pilot.phase
      ∧ (assentToJoin k j n floor priority s).pilot.meter = s.pilot.meter
      ∧ (assentToJoin k j n floor priority s).pilot.fullScale = s.pilot.fullScale
      ∧ (assentToJoin k j n floor priority s).pilot.polarity = s.pilot.polarity
      ∧ (assentToJoin k j n floor priority s).pilot.periodDue = s.pilot.periodDue
      ∧ (assentToJoin k j n floor priority s).pilot.faultDue = s.pilot.faultDue
      ∧ (assentToJoin k j n floor priority s).events.filter = s.events.filter
      ∧ (assentToJoin k j n floor priority s).events.steering = s.events.steering
      ∧ (assentToJoin k j n floor priority s).events.active = s.events.active
      ∧ (assentToJoin k j n floor priority s).events.acked = s.events.acked
      ∧ (assentToJoin k j n floor priority s).events.popping = s.events.popping
      ∧ (assentToJoin k j n floor priority s).port = s.port
      ∧ (assentToJoin k j n floor priority s).pending = s.pending := by
  unfold assentToJoin
  simp

@[simp] theorem answerAnnounce_keeps (k j : Nat) (n : Byte) (floor priority cls lease : Nat) (s : State) :
    (answerAnnounce k j n floor priority cls lease s).pins = s.pins
      ∧ (answerAnnounce k j n floor priority cls lease s).mc = s.mc
      ∧ (answerAnnounce k j n floor priority cls lease s).table.sums = s.table.sums
      ∧ (answerAnnounce k j n floor priority cls lease s).table.overcommit = s.table.overcommit
      ∧ (answerAnnounce k j n floor priority cls lease s).table.nextSnapshot = s.table.nextSnapshot
      ∧ (answerAnnounce k j n floor priority cls lease s).alloc.share.lastTx = s.alloc.share.lastTx
      ∧ (answerAnnounce k j n floor priority cls lease s).alloc.share.floor = s.alloc.share.floor
      ∧ (answerAnnounce k j n floor priority cls lease s).alloc.share.priority = s.alloc.share.priority
      ∧ (answerAnnounce k j n floor priority cls lease s).alloc.share.demand = s.alloc.share.demand
      ∧ (answerAnnounce k j n floor priority cls lease s).alloc.share.holdSeq = s.alloc.share.holdSeq
      ∧ (answerAnnounce k j n floor priority cls lease s).alloc.share.claimCounter = s.alloc.share.claimCounter
      ∧ (answerAnnounce k j n floor priority cls lease s).alloc.share.silence = s.alloc.share.silence
      ∧ (answerAnnounce k j n floor priority cls lease s).alloc.share.failures = s.alloc.share.failures
      ∧ (answerAnnounce k j n floor priority cls lease s).alloc.share.backoff = s.alloc.share.backoff
      ∧ (answerAnnounce k j n floor priority cls lease s).alloc.claim = s.alloc.claim
      ∧ (answerAnnounce k j n floor priority cls lease s).outbox.claim = s.outbox.claim
      ∧ (answerAnnounce k j n floor priority cls lease s).line.rx = s.line.rx
      ∧ (answerAnnounce k j n floor priority cls lease s).line.idle = s.line.idle
      ∧ (answerAnnounce k j n floor priority cls lease s).line.bits = s.line.bits
      ∧ (answerAnnounce k j n floor priority cls lease s).line.inbox = s.line.inbox
      ∧ (answerAnnounce k j n floor priority cls lease s).time = s.time
      ∧ (answerAnnounce k j n floor priority cls lease s).pilot.stateCopy = s.pilot.stateCopy
      ∧ (answerAnnounce k j n floor priority cls lease s).pilot.faultIn = s.pilot.faultIn
      ∧ (answerAnnounce k j n floor priority cls lease s).pilot.loadIn = s.pilot.loadIn
      ∧ (answerAnnounce k j n floor priority cls lease s).pilot.mode = s.pilot.mode
      ∧ (answerAnnounce k j n floor priority cls lease s).pilot.drive = s.pilot.drive
      ∧ (answerAnnounce k j n floor priority cls lease s).pilot.duty = s.pilot.duty
      ∧ (answerAnnounce k j n floor priority cls lease s).pilot.applied = s.pilot.applied
      ∧ (answerAnnounce k j n floor priority cls lease s).pilot.phase = s.pilot.phase
      ∧ (answerAnnounce k j n floor priority cls lease s).pilot.meter = s.pilot.meter
      ∧ (answerAnnounce k j n floor priority cls lease s).pilot.fullScale = s.pilot.fullScale
      ∧ (answerAnnounce k j n floor priority cls lease s).pilot.polarity = s.pilot.polarity
      ∧ (answerAnnounce k j n floor priority cls lease s).pilot.periodDue = s.pilot.periodDue
      ∧ (answerAnnounce k j n floor priority cls lease s).pilot.faultDue = s.pilot.faultDue
      ∧ (answerAnnounce k j n floor priority cls lease s).events.filter = s.events.filter
      ∧ (answerAnnounce k j n floor priority cls lease s).events.steering = s.events.steering
      ∧ (answerAnnounce k j n floor priority cls lease s).events.active = s.events.active
      ∧ (answerAnnounce k j n floor priority cls lease s).events.acked = s.events.acked
      ∧ (answerAnnounce k j n floor priority cls lease s).events.popping = s.events.popping
      ∧ (answerAnnounce k j n floor priority cls lease s).port = s.port
      ∧ (answerAnnounce k j n floor priority cls lease s).pending = s.pending := by
  unfold answerAnnounce
  (repeat' split) <;> simp

@[simp] theorem rejoin_keeps (j : Nat) (n : Byte) (cls lease : Nat) (e : Entry) (s : State) :
    (rejoin j n cls lease e s).pins = s.pins ∧ (rejoin j n cls lease e s).mc = s.mc
      ∧ (rejoin j n cls lease e s).table.sums = s.table.sums
      ∧ (rejoin j n cls lease e s).table.overcommit = s.table.overcommit
      ∧ (rejoin j n cls lease e s).table.nextSnapshot = s.table.nextSnapshot
      ∧ (rejoin j n cls lease e s).alloc.share = s.alloc.share
      ∧ (rejoin j n cls lease e s).alloc.holdAttempt = s.alloc.holdAttempt
      ∧ (rejoin j n cls lease e s).outbox.claim = s.outbox.claim ∧ (rejoin j n cls lease e s).line.rx = s.line.rx
      ∧ (rejoin j n cls lease e s).line.idle = s.line.idle ∧ (rejoin j n cls lease e s).line.bits = s.line.bits
      ∧ (rejoin j n cls lease e s).line.inbox = s.line.inbox ∧ (rejoin j n cls lease e s).time = s.time
      ∧ (rejoin j n cls lease e s).pilot = s.pilot ∧ (rejoin j n cls lease e s).events.filter = s.events.filter
      ∧ (rejoin j n cls lease e s).events.steering = s.events.steering
      ∧ (rejoin j n cls lease e s).events.active = s.events.active
      ∧ (rejoin j n cls lease e s).events.acked = s.events.acked
      ∧ (rejoin j n cls lease e s).events.popping = s.events.popping ∧ (rejoin j n cls lease e s).port = s.port
      ∧ (rejoin j n cls lease e s).pending = s.pending := by
  unfold rejoin
  (repeat' split) <;> simp

@[simp] theorem takeAnnounce_keeps (j : Nat) (n : Byte) (cls lease : Nat) (s : State) :
    (takeAnnounce j n cls lease s).pins = s.pins ∧ (takeAnnounce j n cls lease s).mc = s.mc
      ∧ (takeAnnounce j n cls lease s).table.sums = s.table.sums
      ∧ (takeAnnounce j n cls lease s).table.overcommit = s.table.overcommit
      ∧ (takeAnnounce j n cls lease s).table.nextSnapshot = s.table.nextSnapshot
      ∧ (takeAnnounce j n cls lease s).alloc.share = s.alloc.share
      ∧ (takeAnnounce j n cls lease s).alloc.holdAttempt = s.alloc.holdAttempt
      ∧ (takeAnnounce j n cls lease s).outbox.claim = s.outbox.claim
      ∧ (takeAnnounce j n cls lease s).line.rx = s.line.rx ∧ (takeAnnounce j n cls lease s).line.idle = s.line.idle
      ∧ (takeAnnounce j n cls lease s).line.bits = s.line.bits
      ∧ (takeAnnounce j n cls lease s).line.inbox = s.line.inbox ∧ (takeAnnounce j n cls lease s).time = s.time
      ∧ (takeAnnounce j n cls lease s).pilot = s.pilot
      ∧ (takeAnnounce j n cls lease s).events.filter = s.events.filter
      ∧ (takeAnnounce j n cls lease s).events.steering = s.events.steering
      ∧ (takeAnnounce j n cls lease s).events.active = s.events.active
      ∧ (takeAnnounce j n cls lease s).events.acked = s.events.acked
      ∧ (takeAnnounce j n cls lease s).events.popping = s.events.popping
      ∧ (takeAnnounce j n cls lease s).port = s.port ∧ (takeAnnounce j n cls lease s).pending = s.pending := by
  unfold takeAnnounce
  simp

@[simp] theorem notePriority_keeps (x priority : Nat) (s : State) :
    (notePriority x priority s).pins = s.pins ∧ (notePriority x priority s).mc = s.mc
      ∧ (notePriority x priority s).table.sums = s.table.sums
      ∧ (notePriority x priority s).table.overcommit = s.table.overcommit
      ∧ (notePriority x priority s).table.nextSnapshot = s.table.nextSnapshot
      ∧ (notePriority x priority s).alloc = s.alloc ∧ (notePriority x priority s).outbox = s.outbox
      ∧ (notePriority x priority s).line = s.line ∧ (notePriority x priority s).time = s.time
      ∧ (notePriority x priority s).pilot = s.pilot ∧ (notePriority x priority s).events = s.events
      ∧ (notePriority x priority s).port = s.port ∧ (notePriority x priority s).pending = s.pending := by
  unfold notePriority
  (repeat' split) <;> simp

@[simp] theorem takeClaim_keeps (x priority : Nat) (s : State) :
    (takeClaim x priority s).pins = s.pins ∧ (takeClaim x priority s).mc = s.mc
      ∧ (takeClaim x priority s).table.sums = s.table.sums
      ∧ (takeClaim x priority s).table.overcommit = s.table.overcommit
      ∧ (takeClaim x priority s).table.nextSnapshot = s.table.nextSnapshot ∧ (takeClaim x priority s).alloc = s.alloc
      ∧ (takeClaim x priority s).outbox = s.outbox ∧ (takeClaim x priority s).line = s.line
      ∧ (takeClaim x priority s).time = s.time ∧ (takeClaim x priority s).pilot = s.pilot
      ∧ (takeClaim x priority s).events.filter = s.events.filter
      ∧ (takeClaim x priority s).events.steering = s.events.steering
      ∧ (takeClaim x priority s).events.active = s.events.active
      ∧ (takeClaim x priority s).events.acked = s.events.acked
      ∧ (takeClaim x priority s).events.popping = s.events.popping ∧ (takeClaim x priority s).port = s.port
      ∧ (takeClaim x priority s).pending = s.pending := by
  unfold takeClaim
  simp

@[simp] theorem takeAssent_keeps (x target : Nat) (n : Byte) (s : State) :
    (takeAssent x target n s).pins = s.pins ∧ (takeAssent x target n s).mc = s.mc
      ∧ (takeAssent x target n s).table = s.table ∧ (takeAssent x target n s).alloc.share = s.alloc.share
      ∧ (takeAssent x target n s).alloc.holdAttempt = s.alloc.holdAttempt
      ∧ (takeAssent x target n s).outbox.claim = s.outbox.claim
      ∧ (takeAssent x target n s).outbox.answers = s.outbox.answers
      ∧ (takeAssent x target n s).outbox.answerList = s.outbox.answerList ∧ (takeAssent x target n s).line = s.line
      ∧ (takeAssent x target n s).time = s.time ∧ (takeAssent x target n s).pilot = s.pilot
      ∧ (takeAssent x target n s).events = s.events ∧ (takeAssent x target n s).port = s.port
      ∧ (takeAssent x target n s).pending = s.pending := by
  unfold takeAssent
  (repeat' split) <;> simp

@[simp] theorem withdrawAnswer_keeps (x : Nat) (n : Byte) (s : State) :
    (withdrawAnswer x n s).pins = s.pins ∧ (withdrawAnswer x n s).mc = s.mc ∧ (withdrawAnswer x n s).table = s.table
      ∧ (withdrawAnswer x n s).alloc = s.alloc ∧ (withdrawAnswer x n s).outbox.hold = s.outbox.hold
      ∧ (withdrawAnswer x n s).outbox.claim = s.outbox.claim ∧ (withdrawAnswer x n s).line.rx = s.line.rx
      ∧ (withdrawAnswer x n s).line.idle = s.line.idle ∧ (withdrawAnswer x n s).line.bits = s.line.bits
      ∧ (withdrawAnswer x n s).line.inbox = s.line.inbox ∧ (withdrawAnswer x n s).time = s.time
      ∧ (withdrawAnswer x n s).pilot = s.pilot ∧ (withdrawAnswer x n s).events = s.events
      ∧ (withdrawAnswer x n s).port = s.port ∧ (withdrawAnswer x n s).pending = s.pending := by
  unfold withdrawAnswer
  (repeat' split) <;> simp

@[simp] theorem failNamed_keeps (x target : Nat) (n : Byte) (r : ObjectReason) (s : State) :
    (failNamed x target n r s).pins = s.pins ∧ (failNamed x target n r s).mc.identity = s.mc.identity
      ∧ (failNamed x target n r s).mc.census = s.mc.census
      ∧ (failNamed x target n r s).mc.configured = s.mc.configured
      ∧ (failNamed x target n r s).mc.duplicate = s.mc.duplicate
      ∧ (failNamed x target n r s).table.nextSnapshot = s.table.nextSnapshot
      ∧ (failNamed x target n r s).alloc.share.lastTx = s.alloc.share.lastTx
      ∧ (failNamed x target n r s).alloc.share.floor = s.alloc.share.floor
      ∧ (failNamed x target n r s).alloc.share.priority = s.alloc.share.priority
      ∧ (failNamed x target n r s).alloc.share.demand = s.alloc.share.demand
      ∧ (failNamed x target n r s).alloc.share.holdSeq = s.alloc.share.holdSeq
      ∧ (failNamed x target n r s).alloc.share.claimCounter = s.alloc.share.claimCounter
      ∧ (failNamed x target n r s).alloc.share.silence = s.alloc.share.silence
      ∧ (failNamed x target n r s).alloc.holdAttempt = s.alloc.holdAttempt
      ∧ (failNamed x target n r s).line.idle = s.line.idle ∧ (failNamed x target n r s).line.bits = s.line.bits
      ∧ (failNamed x target n r s).time = s.time ∧ (failNamed x target n r s).pilot.faultIn = s.pilot.faultIn
      ∧ (failNamed x target n r s).pilot.loadIn = s.pilot.loadIn
      ∧ (failNamed x target n r s).pilot.mode = s.pilot.mode ∧ (failNamed x target n r s).pilot.drive = s.pilot.drive
      ∧ (failNamed x target n r s).pilot.duty = s.pilot.duty
      ∧ (failNamed x target n r s).pilot.applied = s.pilot.applied
      ∧ (failNamed x target n r s).pilot.phase = s.pilot.phase
      ∧ (failNamed x target n r s).pilot.meter = s.pilot.meter
      ∧ (failNamed x target n r s).pilot.fullScale = s.pilot.fullScale
      ∧ (failNamed x target n r s).pilot.polarity = s.pilot.polarity
      ∧ (failNamed x target n r s).pilot.periodDue = s.pilot.periodDue
      ∧ (failNamed x target n r s).pilot.faultDue = s.pilot.faultDue
      ∧ (failNamed x target n r s).events.filter = s.events.filter
      ∧ (failNamed x target n r s).events.steering = s.events.steering
      ∧ (failNamed x target n r s).events.popping = s.events.popping ∧ (failNamed x target n r s).port = s.port
      ∧ (failNamed x target n r s).pending = s.pending := by
  unfold failNamed
  (repeat' split) <;> simp

end Sys2Proof.Machine
end

