-- ==== Sys2Proof/Laws/Effects.lean ====
section
/-! SUPPORT. What the shared operations bring about: the value each one writes, to be cited beside the lemmas that say what it
leaves as it was (Laws/Ops.lean, Laws/Outcomes.lean). -/

namespace Sys2Proof.Machine

/-! ## Slots and attempts -/

@[simp] theorem cutAttempt_tx (slot : SlotId) (s : State) : (cutAttempt slot s).line.tx = s.line.tx.cutFrom slot := rfl

/-- What a cut does to an attempt (R115): an open one is marked, one that has been taken to its end stands. -/
theorem cutFrom_sending (slot : SlotId) (a : Attempt) :
    Transmitter.cutFrom slot (.sending a) =
      if a.slot = slot ∧ a.live = true then .marking a a.markStart else .sending a := by
  unfold Transmitter.cutFrom Transmitter.cut
  by_cases h : a.slot = slot <;> by_cases hl : a.live = true <;> simp [h, hl]

@[simp] theorem emptyHold_hold (s : State) : (emptyHold s).outbox.hold = HoldSlot.empty := by simp [emptyHold]
@[simp] theorem emptyHold_tx (s : State) : (emptyHold s).line.tx = s.line.tx.cutFrom .hold := by simp [emptyHold]
@[simp] theorem emptyClaim_slot (s : State) : (emptyClaim s).outbox.claim = ClaimSlot.empty := by simp [emptyClaim]
@[simp] theorem emptyClaim_tx (s : State) : (emptyClaim s).line.tx = s.line.tx.cutFrom .claim := by simp [emptyClaim]
@[simp] theorem emptyAnswer_answers (k : Nat) (s : State) :
    (emptyAnswer k s).outbox.answers = s.outbox.answers.set k AnswerSlot.empty
      ∧ (emptyAnswer k s).outbox.answerList = s.outbox.answerList.filter (· != k) := by simp [emptyAnswer]
@[simp] theorem emptyAnswer_tx (k : Nat) (s : State) : (emptyAnswer k s).line.tx = s.line.tx.cutFrom (.answer k) := by
  simp [emptyAnswer]
@[simp] theorem refillHold_hold (s : State) : (refillHold s).outbox.hold = freshHold := by simp [refillHold]
theorem requestHold_hold (s : State) :
    (requestHold s).outbox.hold
      = if holdAllowed s && s.outbox.hold.occupancy != .filled then freshHold else s.outbox.hold := by
  unfold requestHold; split <;> simp

/-! ## Own held, drive and failures -/

@[simp] theorem countFailure_share (s : State) :
    (countFailure s).alloc.share =
      { s.alloc.share with
        failures := min (s.alloc.share.failures + 1) 15
        backoff := some (backoffLength s.mc.identity.number (min (s.alloc.share.failures + 1) 15)) } := rfl
@[simp] theorem lowerHeld_held (n : Nat) (s : State) : (lowerHeld n s).alloc.share.held = n := by simp [lowerHeld]

/-- A decrease never raises own held (R88). -/
theorem decrease_held_le (s : State) : (decrease s).alloc.share.held ≤ s.alloc.share.held := by
  unfold decrease
  split
  · rename_i h; simp only [lowerHeld_held]; omega
  · exact Nat.le_refl _

/-! ## Ends of the own claim -/

@[simp] theorem removeClaim_claim (s : State) : (removeClaim s).alloc.claim = none := by simp [removeClaim]
@[simp] theorem removeClaim_slot (s : State) : (removeClaim s).outbox.claim = ClaimSlot.empty := by simp [removeClaim]

@[simp] theorem abandonClaim_claim (reason : EndReason) (s : State) : (abandonClaim reason s).alloc.claim = none := by
  unfold abandonClaim
  split
  · assumption
  · simp

/-- With no claim open there is none to abandon. -/
theorem abandonClaim_none (reason : EndReason) (s : State) (h : s.alloc.claim = none) : abandonClaim reason s = s := by
  unfold abandonClaim; simp [h]

theorem abandonIncrease_none (reason : EndReason) (s : State) (h : s.alloc.claim = none) : abandonIncrease reason s = s := by
  unfold abandonIncrease; simp [h]

/-! ## The end of an update -/

theorem cutToFloor_claim (s : State) : (cutToFloor s).alloc.claim = s.alloc.claim := by
  unfold cutToFloor; split <;> simp

theorem settle_claim_none (source : Option Nat) (s : State) (h : s.alloc.claim = none) :
    (settle source s).alloc.claim = none := by
  unfold settle settleOvercommit
  split
  · unfold setOvercommit
    rw [abandonIncrease_none _ _ (by simpa using h)]
    simp [h]
  · split <;> simpa using h

/-! ## Changes of station state -/

@[simp] theorem changeState_reaches (new : StationState) (s : State) :
    (changeState new s).mc.station = new ∧ (changeState new s).pilot.stateCopy = new := by
  simp [changeState]

/-- Outside ACTIVE and JOINING no claim is open (R62). -/
theorem changeState_claim (new : StationState) (s : State) (ha : new ≠ .active) (hj : new ≠ .joining) :
    (changeState new s).alloc.claim = none := by
  unfold changeState
  apply settle_claim_none
  simp [abandonOutside, ha, hj]

/-- Own held is 0 outside ACTIVE (R79). -/
theorem heldForState_held (new : StationState) (s : State) (h : new ≠ .active) :
    (heldForState new s).alloc.share.held = 0 := by simp [heldForState, h]

end Sys2Proof.Machine
end

