-- ==== Sys2Proof/Laws/Line.lean ====
section
/-! SUPPORT. What the operations of the Line Interface leave as it was (Machine/Line.lean): one lemma an operation. -/

namespace Sys2Proof.Machine

@[simp] theorem releaseRstN_keeps (s : State) :
    (releaseRstN s).mc = s.mc ∧ (releaseRstN s).table = s.table ∧ (releaseRstN s).alloc = s.alloc
      ∧ (releaseRstN s).outbox = s.outbox ∧ (releaseRstN s).line = s.line ∧ (releaseRstN s).time = s.time
      ∧ (releaseRstN s).pilot = s.pilot ∧ (releaseRstN s).events = s.events ∧ (releaseRstN s).port = s.port
      ∧ (releaseRstN s).pending = s.pending := ⟨rfl, rfl, rfl, rfl, rfl, rfl, rfl, rfl, rfl, rfl⟩

@[simp] theorem latch_keeps (straps : Straps) (s : State) :
    (latch straps s).pins = s.pins ∧ (latch straps s).mc.station = s.mc.station
      ∧ (latch straps s).mc.census = s.mc.census ∧ (latch straps s).mc.retry = s.mc.retry
      ∧ (latch straps s).mc.configured = s.mc.configured ∧ (latch straps s).mc.request = s.mc.request
      ∧ (latch straps s).mc.lastResolution = s.mc.lastResolution ∧ (latch straps s).mc.duplicate = s.mc.duplicate
      ∧ (latch straps s).table = s.table ∧ (latch straps s).alloc = s.alloc ∧ (latch straps s).outbox = s.outbox
      ∧ (latch straps s).line.rx = s.line.rx ∧ (latch straps s).line.idle = s.line.idle
      ∧ (latch straps s).line.tx = s.line.tx ∧ (latch straps s).line.inbox = s.line.inbox
      ∧ (latch straps s).time = s.time ∧ (latch straps s).pilot = s.pilot ∧ (latch straps s).events = s.events
      ∧ (latch straps s).port.request = s.port.request ∧ (latch straps s).port.bits = s.port.bits
      ∧ (latch straps s).port.response = s.port.response ∧ (latch straps s).port.fifo = s.port.fifo
      ∧ (latch straps s).port.snapRequest = s.port.snapRequest ∧ (latch straps s).port.snapshot = s.port.snapshot
      ∧ (latch straps s).port.atEnd = s.port.atEnd ∧ (latch straps s).pending = s.pending := 
    ⟨rfl, rfl, rfl, rfl, rfl, rfl, rfl, rfl, rfl, rfl, rfl, rfl, rfl, rfl, rfl, rfl, rfl, rfl, rfl, rfl,
    rfl, rfl, rfl, rfl, rfl, rfl⟩

@[simp] theorem setLine_keeps (l : LineInterface) (s : State) :
    (setLine l s).pins = s.pins ∧ (setLine l s).mc = s.mc ∧ (setLine l s).table = s.table
      ∧ (setLine l s).alloc = s.alloc ∧ (setLine l s).outbox = s.outbox ∧ (setLine l s).time = s.time
      ∧ (setLine l s).pilot = s.pilot ∧ (setLine l s).events = s.events ∧ (setLine l s).port = s.port
      ∧ (setLine l s).pending = s.pending := ⟨rfl, rfl, rfl, rfl, rfl, rfl, rfl, rfl, rfl, rfl⟩

@[simp] theorem noteReservation_keeps (k : Nat) (s : State) :
    (noteReservation k s).pins = s.pins ∧ (noteReservation k s).mc = s.mc ∧ (noteReservation k s).table = s.table
      ∧ (noteReservation k s).alloc = s.alloc ∧ (noteReservation k s).outbox = s.outbox
      ∧ (noteReservation k s).line.idle = s.line.idle ∧ (noteReservation k s).line.tx = s.line.tx
      ∧ (noteReservation k s).line.bits = s.line.bits ∧ (noteReservation k s).line.inbox = s.line.inbox
      ∧ (noteReservation k s).time = s.time ∧ (noteReservation k s).pilot = s.pilot
      ∧ (noteReservation k s).events = s.events ∧ (noteReservation k s).port = s.port
      ∧ (noteReservation k s).pending = s.pending := ⟨rfl, rfl, rfl, rfl, rfl, rfl, rfl, rfl, rfl, rfl, rfl, rfl, rfl, rfl⟩

@[simp] theorem reserveAnswer_keeps (kind x : Nat) (n : Byte) (s : State) :
    (reserveAnswer kind x n s).pins = s.pins ∧ (reserveAnswer kind x n s).mc = s.mc
      ∧ (reserveAnswer kind x n s).table = s.table ∧ (reserveAnswer kind x n s).alloc = s.alloc
      ∧ (reserveAnswer kind x n s).outbox.hold = s.outbox.hold
      ∧ (reserveAnswer kind x n s).outbox.claim = s.outbox.claim
      ∧ (reserveAnswer kind x n s).outbox.answerList = s.outbox.answerList
      ∧ (reserveAnswer kind x n s).line.idle = s.line.idle ∧ (reserveAnswer kind x n s).line.tx = s.line.tx
      ∧ (reserveAnswer kind x n s).line.bits = s.line.bits ∧ (reserveAnswer kind x n s).line.inbox = s.line.inbox
      ∧ (reserveAnswer kind x n s).time = s.time ∧ (reserveAnswer kind x n s).pilot = s.pilot
      ∧ (reserveAnswer kind x n s).events.filter = s.events.filter
      ∧ (reserveAnswer kind x n s).events.steering = s.events.steering
      ∧ (reserveAnswer kind x n s).events.active = s.events.active
      ∧ (reserveAnswer kind x n s).events.acked = s.events.acked
      ∧ (reserveAnswer kind x n s).events.popping = s.events.popping ∧ (reserveAnswer kind x n s).port = s.port
      ∧ (reserveAnswer kind x n s).pending = s.pending := by
  unfold reserveAnswer
  (repeat' split) <;> simp

@[simp] theorem raiseFrameBad_keeps (ownMark : Bool) (station : Option Nat) (c : BadClass) (s : State) :
    (raiseFrameBad ownMark station c s).pins = s.pins ∧ (raiseFrameBad ownMark station c s).mc = s.mc
      ∧ (raiseFrameBad ownMark station c s).table = s.table ∧ (raiseFrameBad ownMark station c s).alloc = s.alloc
      ∧ (raiseFrameBad ownMark station c s).outbox = s.outbox ∧ (raiseFrameBad ownMark station c s).line = s.line
      ∧ (raiseFrameBad ownMark station c s).time = s.time ∧ (raiseFrameBad ownMark station c s).pilot = s.pilot
      ∧ (raiseFrameBad ownMark station c s).events.filter = s.events.filter
      ∧ (raiseFrameBad ownMark station c s).events.steering = s.events.steering
      ∧ (raiseFrameBad ownMark station c s).events.active = s.events.active
      ∧ (raiseFrameBad ownMark station c s).events.acked = s.events.acked
      ∧ (raiseFrameBad ownMark station c s).events.popping = s.events.popping
      ∧ (raiseFrameBad ownMark station c s).port = s.port ∧ (raiseFrameBad ownMark station c s).pending = s.pending := by
  unfold raiseFrameBad
  (repeat' split) <;> simp

@[simp] theorem enterSkip_keeps (s : State) :
    (enterSkip s).pins = s.pins ∧ (enterSkip s).mc = s.mc ∧ (enterSkip s).table = s.table
      ∧ (enterSkip s).alloc = s.alloc ∧ (enterSkip s).outbox = s.outbox ∧ (enterSkip s).line.tx = s.line.tx
      ∧ (enterSkip s).line.bits = s.line.bits ∧ (enterSkip s).line.inbox = s.line.inbox ∧ (enterSkip s).time = s.time
      ∧ (enterSkip s).pilot = s.pilot ∧ (enterSkip s).events = s.events ∧ (enterSkip s).port = s.port
      ∧ (enterSkip s).pending = s.pending := ⟨rfl, rfl, rfl, rfl, rfl, rfl, rfl, rfl, rfl, rfl, rfl, rfl, rfl⟩

@[simp] theorem enterBody_keeps (s : State) :
    (enterBody s).pins = s.pins ∧ (enterBody s).mc = s.mc ∧ (enterBody s).table = s.table
      ∧ (enterBody s).alloc = s.alloc ∧ (enterBody s).outbox = s.outbox ∧ (enterBody s).line.idle = s.line.idle
      ∧ (enterBody s).line.tx = s.line.tx ∧ (enterBody s).line.bits = s.line.bits
      ∧ (enterBody s).line.inbox = s.line.inbox ∧ (enterBody s).time = s.time ∧ (enterBody s).pilot = s.pilot
      ∧ (enterBody s).events = s.events ∧ (enterBody s).port = s.port ∧ (enterBody s).pending = s.pending := ⟨rfl, rfl, rfl, rfl, rfl, rfl, rfl, rfl, rfl, rfl, rfl, rfl, rfl, rfl⟩

@[simp] theorem toHunt_keeps (s : State) :
    (toHunt s).pins = s.pins ∧ (toHunt s).mc = s.mc ∧ (toHunt s).table = s.table ∧ (toHunt s).alloc = s.alloc
      ∧ (toHunt s).outbox = s.outbox ∧ (toHunt s).line.tx = s.line.tx ∧ (toHunt s).line.bits = s.line.bits
      ∧ (toHunt s).line.inbox = s.line.inbox ∧ (toHunt s).time = s.time ∧ (toHunt s).pilot = s.pilot
      ∧ (toHunt s).events = s.events ∧ (toHunt s).port = s.port ∧ (toHunt s).pending = s.pending := ⟨rfl, rfl, rfl, rfl, rfl, rfl, rfl, rfl, rfl, rfl, rfl, rfl, rfl⟩

@[simp] theorem releaseReservation_keeps (r : Option Nat) (s : State) :
    (releaseReservation r s).pins = s.pins ∧ (releaseReservation r s).mc = s.mc
      ∧ (releaseReservation r s).table = s.table ∧ (releaseReservation r s).alloc = s.alloc
      ∧ (releaseReservation r s).outbox.hold = s.outbox.hold ∧ (releaseReservation r s).outbox.claim = s.outbox.claim
      ∧ (releaseReservation r s).line.rx = s.line.rx ∧ (releaseReservation r s).line.idle = s.line.idle
      ∧ (releaseReservation r s).line.bits = s.line.bits ∧ (releaseReservation r s).line.inbox = s.line.inbox
      ∧ (releaseReservation r s).time = s.time ∧ (releaseReservation r s).pilot = s.pilot
      ∧ (releaseReservation r s).events = s.events ∧ (releaseReservation r s).port = s.port
      ∧ (releaseReservation r s).pending = s.pending := by
  unfold releaseReservation
  (repeat' split) <;> simp

@[simp] theorem markDuplicate_keeps (s : State) :
    (markDuplicate s).pins = s.pins ∧ (markDuplicate s).mc.station = s.mc.station
      ∧ (markDuplicate s).mc.identity = s.mc.identity ∧ (markDuplicate s).mc.census = s.mc.census
      ∧ (markDuplicate s).mc.retry = s.mc.retry ∧ (markDuplicate s).mc.configured = s.mc.configured
      ∧ (markDuplicate s).mc.request = s.mc.request ∧ (markDuplicate s).mc.lastResolution = s.mc.lastResolution
      ∧ (markDuplicate s).table = s.table ∧ (markDuplicate s).alloc = s.alloc ∧ (markDuplicate s).outbox = s.outbox
      ∧ (markDuplicate s).line = s.line ∧ (markDuplicate s).time = s.time ∧ (markDuplicate s).pilot = s.pilot
      ∧ (markDuplicate s).events.filter = s.events.filter ∧ (markDuplicate s).events.steering = s.events.steering
      ∧ (markDuplicate s).events.popping = s.events.popping ∧ (markDuplicate s).port = s.port
      ∧ (markDuplicate s).pending = s.pending := by
  unfold markDuplicate
  simp

@[simp] theorem toFault_keeps (s : State) :
    (toFault s).pins = s.pins ∧ (toFault s).mc.identity = s.mc.identity ∧ (toFault s).mc.census = s.mc.census
      ∧ (toFault s).mc.configured = s.mc.configured ∧ (toFault s).mc.duplicate = s.mc.duplicate
      ∧ (toFault s).table.nextSnapshot = s.table.nextSnapshot ∧ (toFault s).alloc.share.lastTx = s.alloc.share.lastTx
      ∧ (toFault s).alloc.share.floor = s.alloc.share.floor
      ∧ (toFault s).alloc.share.priority = s.alloc.share.priority
      ∧ (toFault s).alloc.share.demand = s.alloc.share.demand
      ∧ (toFault s).alloc.share.holdSeq = s.alloc.share.holdSeq
      ∧ (toFault s).alloc.share.claimCounter = s.alloc.share.claimCounter
      ∧ (toFault s).alloc.share.silence = s.alloc.share.silence ∧ (toFault s).alloc.holdAttempt = s.alloc.holdAttempt
      ∧ (toFault s).line.idle = s.line.idle ∧ (toFault s).line.bits = s.line.bits ∧ (toFault s).time = s.time
      ∧ (toFault s).pilot.faultIn = s.pilot.faultIn ∧ (toFault s).pilot.loadIn = s.pilot.loadIn
      ∧ (toFault s).pilot.mode = s.pilot.mode ∧ (toFault s).pilot.drive = s.pilot.drive
      ∧ (toFault s).pilot.duty = s.pilot.duty ∧ (toFault s).pilot.applied = s.pilot.applied
      ∧ (toFault s).pilot.phase = s.pilot.phase ∧ (toFault s).pilot.meter = s.pilot.meter
      ∧ (toFault s).pilot.fullScale = s.pilot.fullScale ∧ (toFault s).pilot.polarity = s.pilot.polarity
      ∧ (toFault s).pilot.periodDue = s.pilot.periodDue ∧ (toFault s).pilot.faultDue = s.pilot.faultDue
      ∧ (toFault s).events.filter = s.events.filter ∧ (toFault s).events.steering = s.events.steering
      ∧ (toFault s).events.popping = s.events.popping ∧ (toFault s).port = s.port ∧ (toFault s).pending = s.pending := by
  unfold toFault
  (repeat' split) <;> simp

@[simp] theorem takeDuplicate_keeps (kind : Nat) (s : State) :
    (takeDuplicate kind s).pins = s.pins ∧ (takeDuplicate kind s).mc.identity = s.mc.identity
      ∧ (takeDuplicate kind s).mc.census = s.mc.census ∧ (takeDuplicate kind s).mc.configured = s.mc.configured
      ∧ (takeDuplicate kind s).table.nextSnapshot = s.table.nextSnapshot
      ∧ (takeDuplicate kind s).alloc.share.lastTx = s.alloc.share.lastTx
      ∧ (takeDuplicate kind s).alloc.share.floor = s.alloc.share.floor
      ∧ (takeDuplicate kind s).alloc.share.priority = s.alloc.share.priority
      ∧ (takeDuplicate kind s).alloc.share.demand = s.alloc.share.demand
      ∧ (takeDuplicate kind s).alloc.share.holdSeq = s.alloc.share.holdSeq
      ∧ (takeDuplicate kind s).alloc.share.claimCounter = s.alloc.share.claimCounter
      ∧ (takeDuplicate kind s).alloc.share.silence = s.alloc.share.silence
      ∧ (takeDuplicate kind s).alloc.holdAttempt = s.alloc.holdAttempt
      ∧ (takeDuplicate kind s).line.idle = s.line.idle ∧ (takeDuplicate kind s).line.bits = s.line.bits
      ∧ (takeDuplicate kind s).time = s.time ∧ (takeDuplicate kind s).pilot.faultIn = s.pilot.faultIn
      ∧ (takeDuplicate kind s).pilot.loadIn = s.pilot.loadIn ∧ (takeDuplicate kind s).pilot.mode = s.pilot.mode
      ∧ (takeDuplicate kind s).pilot.drive = s.pilot.drive ∧ (takeDuplicate kind s).pilot.duty = s.pilot.duty
      ∧ (takeDuplicate kind s).pilot.applied = s.pilot.applied ∧ (takeDuplicate kind s).pilot.phase = s.pilot.phase
      ∧ (takeDuplicate kind s).pilot.meter = s.pilot.meter
      ∧ (takeDuplicate kind s).pilot.fullScale = s.pilot.fullScale
      ∧ (takeDuplicate kind s).pilot.polarity = s.pilot.polarity
      ∧ (takeDuplicate kind s).pilot.periodDue = s.pilot.periodDue
      ∧ (takeDuplicate kind s).pilot.faultDue = s.pilot.faultDue
      ∧ (takeDuplicate kind s).events.filter = s.events.filter
      ∧ (takeDuplicate kind s).events.steering = s.events.steering
      ∧ (takeDuplicate kind s).events.popping = s.events.popping ∧ (takeDuplicate kind s).port = s.port
      ∧ (takeDuplicate kind s).pending = s.pending := by
  unfold takeDuplicate
  (repeat' split) <;> simp

@[simp] theorem deliver_keeps (f : Frame) (r : Option Nat) (s : State) :
    (deliver f r s).pins = s.pins ∧ (deliver f r s).mc = s.mc ∧ (deliver f r s).table = s.table
      ∧ (deliver f r s).alloc = s.alloc ∧ (deliver f r s).outbox = s.outbox ∧ (deliver f r s).line.rx = s.line.rx
      ∧ (deliver f r s).line.idle = s.line.idle ∧ (deliver f r s).line.tx = s.line.tx
      ∧ (deliver f r s).line.bits = s.line.bits ∧ (deliver f r s).time = s.time ∧ (deliver f r s).pilot = s.pilot
      ∧ (deliver f r s).events = s.events ∧ (deliver f r s).port = s.port ∧ (deliver f r s).pending = s.pending := ⟨rfl, rfl, rfl, rfl, rfl, rfl, rfl, rfl, rfl, rfl, rfl, rfl, rfl, rfl⟩

@[simp] theorem goodFrame_keeps (f : Frame) (cls : Option FrameClass) (r : Option Nat) (s : State) :
    (goodFrame f cls r s).pins = s.pins ∧ (goodFrame f cls r s).mc.identity = s.mc.identity
      ∧ (goodFrame f cls r s).mc.census = s.mc.census ∧ (goodFrame f cls r s).mc.configured = s.mc.configured
      ∧ (goodFrame f cls r s).table.nextSnapshot = s.table.nextSnapshot
      ∧ (goodFrame f cls r s).alloc.share.lastTx = s.alloc.share.lastTx
      ∧ (goodFrame f cls r s).alloc.share.floor = s.alloc.share.floor
      ∧ (goodFrame f cls r s).alloc.share.priority = s.alloc.share.priority
      ∧ (goodFrame f cls r s).alloc.share.demand = s.alloc.share.demand
      ∧ (goodFrame f cls r s).alloc.share.holdSeq = s.alloc.share.holdSeq
      ∧ (goodFrame f cls r s).alloc.share.claimCounter = s.alloc.share.claimCounter
      ∧ (goodFrame f cls r s).alloc.share.silence = s.alloc.share.silence
      ∧ (goodFrame f cls r s).alloc.holdAttempt = s.alloc.holdAttempt ∧ (goodFrame f cls r s).line.idle = s.line.idle
      ∧ (goodFrame f cls r s).line.bits = s.line.bits ∧ (goodFrame f cls r s).time = s.time
      ∧ (goodFrame f cls r s).pilot.faultIn = s.pilot.faultIn ∧ (goodFrame f cls r s).pilot.loadIn = s.pilot.loadIn
      ∧ (goodFrame f cls r s).pilot.mode = s.pilot.mode ∧ (goodFrame f cls r s).pilot.drive = s.pilot.drive
      ∧ (goodFrame f cls r s).pilot.duty = s.pilot.duty ∧ (goodFrame f cls r s).pilot.applied = s.pilot.applied
      ∧ (goodFrame f cls r s).pilot.phase = s.pilot.phase ∧ (goodFrame f cls r s).pilot.meter = s.pilot.meter
      ∧ (goodFrame f cls r s).pilot.fullScale = s.pilot.fullScale
      ∧ (goodFrame f cls r s).pilot.polarity = s.pilot.polarity
      ∧ (goodFrame f cls r s).pilot.periodDue = s.pilot.periodDue
      ∧ (goodFrame f cls r s).pilot.faultDue = s.pilot.faultDue
      ∧ (goodFrame f cls r s).events.filter = s.events.filter
      ∧ (goodFrame f cls r s).events.steering = s.events.steering
      ∧ (goodFrame f cls r s).events.popping = s.events.popping ∧ (goodFrame f cls r s).port = s.port
      ∧ (goodFrame f cls r s).pending = s.pending := by
  unfold goodFrame
  (repeat' split) <;> simp

@[simp] theorem toBoundary_keeps (s : State) :
    (toBoundary s).pins = s.pins ∧ (toBoundary s).mc = s.mc ∧ (toBoundary s).table = s.table
      ∧ (toBoundary s).alloc = s.alloc ∧ (toBoundary s).outbox = s.outbox ∧ (toBoundary s).line.rx = s.line.rx
      ∧ (toBoundary s).line.idle = s.line.idle ∧ (toBoundary s).line.inbox = s.line.inbox
      ∧ (toBoundary s).time = s.time ∧ (toBoundary s).pilot = s.pilot ∧ (toBoundary s).events = s.events
      ∧ (toBoundary s).port = s.port ∧ (toBoundary s).pending = s.pending := by
  unfold toBoundary
  simp

@[simp] theorem endAttempt_keeps (s : State) :
    (endAttempt s).pins = s.pins ∧ (endAttempt s).mc = s.mc ∧ (endAttempt s).table = s.table
      ∧ (endAttempt s).alloc = s.alloc ∧ (endAttempt s).outbox = s.outbox ∧ (endAttempt s).line.rx = s.line.rx
      ∧ (endAttempt s).line.idle = s.line.idle ∧ (endAttempt s).line.inbox = s.line.inbox
      ∧ (endAttempt s).time = s.time ∧ (endAttempt s).pilot = s.pilot ∧ (endAttempt s).events = s.events
      ∧ (endAttempt s).port = s.port ∧ (endAttempt s).pending = s.pending := ⟨rfl, rfl, rfl, rfl, rfl, rfl, rfl, rfl, rfl, rfl, rfl, rfl, rfl⟩

@[simp] theorem stopAttempt_keeps (s : State) :
    (stopAttempt s).pins = s.pins ∧ (stopAttempt s).mc = s.mc ∧ (stopAttempt s).table = s.table
      ∧ (stopAttempt s).alloc = s.alloc ∧ (stopAttempt s).outbox = s.outbox ∧ (stopAttempt s).line.rx = s.line.rx
      ∧ (stopAttempt s).line.idle = s.line.idle ∧ (stopAttempt s).line.bits = s.line.bits
      ∧ (stopAttempt s).line.inbox = s.line.inbox ∧ (stopAttempt s).time = s.time ∧ (stopAttempt s).pilot = s.pilot
      ∧ (stopAttempt s).events = s.events ∧ (stopAttempt s).port = s.port ∧ (stopAttempt s).pending = s.pending := ⟨rfl, rfl, rfl, rfl, rfl, rfl, rfl, rfl, rfl, rfl, rfl, rfl, rfl, rfl⟩

@[simp] theorem setInhibit_keeps (b : Bool) (s : State) :
    (setInhibit b s).mc = s.mc ∧ (setInhibit b s).table = s.table ∧ (setInhibit b s).alloc = s.alloc
      ∧ (setInhibit b s).outbox = s.outbox ∧ (setInhibit b s).line = s.line ∧ (setInhibit b s).time = s.time
      ∧ (setInhibit b s).pilot = s.pilot ∧ (setInhibit b s).events = s.events ∧ (setInhibit b s).port = s.port
      ∧ (setInhibit b s).pending = s.pending := ⟨rfl, rfl, rfl, rfl, rfl, rfl, rfl, rfl, rfl, rfl⟩

end Sys2Proof.Machine
end

