-- ==== Sys2Proof/Laws/Time.lean ====
section
/-! SUPPORT. What the operations of ticks and lease boundaries leave as it was (Machine/Time.lean, Machine/Pilot.lean): one lemma an operation. -/

namespace Sys2Proof.Machine

@[simp] theorem upset_keeps (u : Upset) (s : State) :
    (upset u s).pins = s.pins ∧ (upset u s).mc = s.mc ∧ (upset u s).table.sums = s.table.sums
      ∧ (upset u s).table.overcommit = s.table.overcommit ∧ (upset u s).table.nextSnapshot = s.table.nextSnapshot
      ∧ (upset u s).alloc = s.alloc ∧ (upset u s).outbox = s.outbox ∧ (upset u s).line = s.line
      ∧ (upset u s).time = s.time ∧ (upset u s).pilot = s.pilot ∧ (upset u s).events = s.events
      ∧ (upset u s).port = s.port ∧ (upset u s).pending = s.pending := by
  unfold upset
  (repeat' split) <;> simp

@[simp] theorem upsetAll_keeps (upsets : List Upset) (s : State) :
    (upsetAll upsets s).pins = s.pins ∧ (upsetAll upsets s).mc = s.mc ∧ (upsetAll upsets s).table.sums = s.table.sums
      ∧ (upsetAll upsets s).table.overcommit = s.table.overcommit
      ∧ (upsetAll upsets s).table.nextSnapshot = s.table.nextSnapshot ∧ (upsetAll upsets s).alloc = s.alloc
      ∧ (upsetAll upsets s).outbox = s.outbox ∧ (upsetAll upsets s).line = s.line ∧ (upsetAll upsets s).time = s.time
      ∧ (upsetAll upsets s).pilot = s.pilot ∧ (upsetAll upsets s).events = s.events
      ∧ (upsetAll upsets s).port = s.port ∧ (upsetAll upsets s).pending = s.pending := by
  unfold upsetAll
  refine ⟨?_, ?_, ?_, ?_, ?_, ?_, ?_, ?_, ?_, ?_, ?_, ?_, ?_⟩
  · exact foldl_keeps (·.pins) (fun s u => upset u s) (fun s u => by simp) upsets s
  · exact foldl_keeps (·.mc) (fun s u => upset u s) (fun s u => by simp) upsets s
  · exact foldl_keeps (·.table.sums) (fun s u => upset u s) (fun s u => by simp) upsets s
  · exact foldl_keeps (·.table.overcommit) (fun s u => upset u s) (fun s u => by simp) upsets s
  · exact foldl_keeps (·.table.nextSnapshot) (fun s u => upset u s) (fun s u => by simp) upsets s
  · exact foldl_keeps (·.alloc) (fun s u => upset u s) (fun s u => by simp) upsets s
  · exact foldl_keeps (·.outbox) (fun s u => upset u s) (fun s u => by simp) upsets s
  · exact foldl_keeps (·.line) (fun s u => upset u s) (fun s u => by simp) upsets s
  · exact foldl_keeps (·.time) (fun s u => upset u s) (fun s u => by simp) upsets s
  · exact foldl_keeps (·.pilot) (fun s u => upset u s) (fun s u => by simp) upsets s
  · exact foldl_keeps (·.events) (fun s u => upset u s) (fun s u => by simp) upsets s
  · exact foldl_keeps (·.port) (fun s u => upset u s) (fun s u => by simp) upsets s
  · exact foldl_keeps (·.pending) (fun s u => upset u s) (fun s u => by simp) upsets s

/-- The lease clock moves its own counts and the boundary it makes due (R140). -/
@[simp] theorem TimeBase.leaseTick_keeps (leaseSelect : Nat) (t : TimeBase) :
    (t.leaseTick leaseSelect).tickDivider = t.tickDivider ∧ (t.leaseTick leaseSelect).tickDue = t.tickDue
      ∧ (t.leaseTick leaseSelect).ms = t.ms ∧ (t.leaseTick leaseSelect).watchdog = t.watchdog := by
  unfold TimeBase.leaseTick
  (repeat' split) <;> simp

@[simp] theorem blockTick_keeps (b : TickBlock) (s : State) :
    (blockTick b s).pins = s.pins ∧ (blockTick b s).mc = s.mc ∧ (blockTick b s).table.sums = s.table.sums
      ∧ (blockTick b s).table.overcommit = s.table.overcommit
      ∧ (blockTick b s).table.nextSnapshot = s.table.nextSnapshot
      ∧ (blockTick b s).alloc.share.held = s.alloc.share.held
      ∧ (blockTick b s).alloc.share.lastTx = s.alloc.share.lastTx
      ∧ (blockTick b s).alloc.share.floor = s.alloc.share.floor
      ∧ (blockTick b s).alloc.share.priority = s.alloc.share.priority
      ∧ (blockTick b s).alloc.share.demand = s.alloc.share.demand
      ∧ (blockTick b s).alloc.share.holdSeq = s.alloc.share.holdSeq
      ∧ (blockTick b s).alloc.share.claimCounter = s.alloc.share.claimCounter
      ∧ (blockTick b s).alloc.share.silence = s.alloc.share.silence
      ∧ (blockTick b s).alloc.share.failures = s.alloc.share.failures
      ∧ (blockTick b s).alloc.holdAttempt = s.alloc.holdAttempt ∧ (blockTick b s).outbox.hold = s.outbox.hold
      ∧ (blockTick b s).outbox.claim = s.outbox.claim ∧ (blockTick b s).outbox.answerList = s.outbox.answerList
      ∧ (blockTick b s).line = s.line ∧ (blockTick b s).time.tickDivider = s.time.tickDivider
      ∧ (blockTick b s).pilot = s.pilot ∧ (blockTick b s).events = s.events ∧ (blockTick b s).port = s.port
      ∧ (blockTick b s).pending = s.pending ∧ (blockTick b s).time.tickDue = s.time.tickDue := by
  unfold blockTick
  split <;> simp [Allocation.tick, TimeBase.tick]

@[simp] theorem takeTick_keeps (b : TickBlock) (s : State) :
    (takeTick b s).pins = s.pins ∧ (takeTick b s).mc = s.mc ∧ (takeTick b s).table.sums = s.table.sums
      ∧ (takeTick b s).table.overcommit = s.table.overcommit
      ∧ (takeTick b s).table.nextSnapshot = s.table.nextSnapshot
      ∧ (takeTick b s).alloc.share.held = s.alloc.share.held
      ∧ (takeTick b s).alloc.share.lastTx = s.alloc.share.lastTx
      ∧ (takeTick b s).alloc.share.floor = s.alloc.share.floor
      ∧ (takeTick b s).alloc.share.priority = s.alloc.share.priority
      ∧ (takeTick b s).alloc.share.demand = s.alloc.share.demand
      ∧ (takeTick b s).alloc.share.holdSeq = s.alloc.share.holdSeq
      ∧ (takeTick b s).alloc.share.claimCounter = s.alloc.share.claimCounter
      ∧ (takeTick b s).alloc.share.silence = s.alloc.share.silence
      ∧ (takeTick b s).alloc.share.failures = s.alloc.share.failures
      ∧ (takeTick b s).alloc.holdAttempt = s.alloc.holdAttempt ∧ (takeTick b s).outbox.hold = s.outbox.hold
      ∧ (takeTick b s).outbox.claim = s.outbox.claim ∧ (takeTick b s).outbox.answerList = s.outbox.answerList
      ∧ (takeTick b s).line = s.line ∧ (takeTick b s).time.tickDivider = s.time.tickDivider
      ∧ (takeTick b s).pilot = s.pilot ∧ (takeTick b s).events = s.events ∧ (takeTick b s).port = s.port
      ∧ (takeTick b s).pending = s.pending := by
  unfold takeTick
  split <;> simp

@[simp] theorem takeTicks_keeps (blocks : List TickBlock) (s : State) :
    (takeTicks blocks s).pins = s.pins ∧ (takeTicks blocks s).mc = s.mc
      ∧ (takeTicks blocks s).table.sums = s.table.sums ∧ (takeTicks blocks s).table.overcommit = s.table.overcommit
      ∧ (takeTicks blocks s).table.nextSnapshot = s.table.nextSnapshot
      ∧ (takeTicks blocks s).alloc.share.held = s.alloc.share.held
      ∧ (takeTicks blocks s).alloc.share.lastTx = s.alloc.share.lastTx
      ∧ (takeTicks blocks s).alloc.share.floor = s.alloc.share.floor
      ∧ (takeTicks blocks s).alloc.share.priority = s.alloc.share.priority
      ∧ (takeTicks blocks s).alloc.share.demand = s.alloc.share.demand
      ∧ (takeTicks blocks s).alloc.share.holdSeq = s.alloc.share.holdSeq
      ∧ (takeTicks blocks s).alloc.share.claimCounter = s.alloc.share.claimCounter
      ∧ (takeTicks blocks s).alloc.share.silence = s.alloc.share.silence
      ∧ (takeTicks blocks s).alloc.share.failures = s.alloc.share.failures
      ∧ (takeTicks blocks s).alloc.holdAttempt = s.alloc.holdAttempt
      ∧ (takeTicks blocks s).outbox.hold = s.outbox.hold ∧ (takeTicks blocks s).outbox.claim = s.outbox.claim
      ∧ (takeTicks blocks s).outbox.answerList = s.outbox.answerList ∧ (takeTicks blocks s).line = s.line
      ∧ (takeTicks blocks s).time.tickDivider = s.time.tickDivider ∧ (takeTicks blocks s).pilot = s.pilot
      ∧ (takeTicks blocks s).events = s.events ∧ (takeTicks blocks s).port = s.port
      ∧ (takeTicks blocks s).pending = s.pending := by
  unfold takeTicks
  refine ⟨?_, ?_, ?_, ?_, ?_, ?_, ?_, ?_, ?_, ?_, ?_, ?_, ?_, ?_, ?_, ?_, ?_, ?_, ?_, ?_, ?_, ?_, ?_, ?_⟩
  · exact foldl_keeps (·.pins) (fun s b => takeTick b s) (fun s b => by simp) blocks s
  · exact foldl_keeps (·.mc) (fun s b => takeTick b s) (fun s b => by simp) blocks s
  · exact foldl_keeps (·.table.sums) (fun s b => takeTick b s) (fun s b => by simp) blocks s
  · exact foldl_keeps (·.table.overcommit) (fun s b => takeTick b s) (fun s b => by simp) blocks s
  · exact foldl_keeps (·.table.nextSnapshot) (fun s b => takeTick b s) (fun s b => by simp) blocks s
  · exact foldl_keeps (·.alloc.share.held) (fun s b => takeTick b s) (fun s b => by simp) blocks s
  · exact foldl_keeps (·.alloc.share.lastTx) (fun s b => takeTick b s) (fun s b => by simp) blocks s
  · exact foldl_keeps (·.alloc.share.floor) (fun s b => takeTick b s) (fun s b => by simp) blocks s
  · exact foldl_keeps (·.alloc.share.priority) (fun s b => takeTick b s) (fun s b => by simp) blocks s
  · exact foldl_keeps (·.alloc.share.demand) (fun s b => takeTick b s) (fun s b => by simp) blocks s
  · exact foldl_keeps (·.alloc.share.holdSeq) (fun s b => takeTick b s) (fun s b => by simp) blocks s
  · exact foldl_keeps (·.alloc.share.claimCounter) (fun s b => takeTick b s) (fun s b => by simp) blocks s
  · exact foldl_keeps (·.alloc.share.silence) (fun s b => takeTick b s) (fun s b => by simp) blocks s
  · exact foldl_keeps (·.alloc.share.failures) (fun s b => takeTick b s) (fun s b => by simp) blocks s
  · exact foldl_keeps (·.alloc.holdAttempt) (fun s b => takeTick b s) (fun s b => by simp) blocks s
  · exact foldl_keeps (·.outbox.hold) (fun s b => takeTick b s) (fun s b => by simp) blocks s
  · exact foldl_keeps (·.outbox.claim) (fun s b => takeTick b s) (fun s b => by simp) blocks s
  · exact foldl_keeps (·.outbox.answerList) (fun s b => takeTick b s) (fun s b => by simp) blocks s
  · exact foldl_keeps (·.line) (fun s b => takeTick b s) (fun s b => by simp) blocks s
  · exact foldl_keeps (·.time.tickDivider) (fun s b => takeTick b s) (fun s b => by simp) blocks s
  · exact foldl_keeps (·.pilot) (fun s b => takeTick b s) (fun s b => by simp) blocks s
  · exact foldl_keeps (·.events) (fun s b => takeTick b s) (fun s b => by simp) blocks s
  · exact foldl_keeps (·.port) (fun s b => takeTick b s) (fun s b => by simp) blocks s
  · exact foldl_keeps (·.pending) (fun s b => takeTick b s) (fun s b => by simp) blocks s

@[simp] theorem issueTick_keeps (s : State) :
    (issueTick s).pins = s.pins ∧ (issueTick s).mc = s.mc ∧ (issueTick s).table = s.table
      ∧ (issueTick s).alloc = s.alloc ∧ (issueTick s).outbox = s.outbox ∧ (issueTick s).line = s.line
      ∧ (issueTick s).time.ms = s.time.ms ∧ (issueTick s).time.leaseMatch = s.time.leaseMatch
      ∧ (issueTick s).time.leasePost = s.time.leasePost ∧ (issueTick s).time.boundaryDue = s.time.boundaryDue
      ∧ (issueTick s).time.watchdog = s.time.watchdog ∧ (issueTick s).events = s.events ∧ (issueTick s).port = s.port
      ∧ (issueTick s).pending = s.pending :=
  ⟨rfl, rfl, rfl, rfl, rfl, rfl, rfl, rfl, rfl, rfl, rfl, rfl, rfl, rfl⟩

/-- The tick issued is due at every block that counts time (R137). -/
@[simp] theorem issueTick_tickDue (s : State) : (issueTick s).time.tickDue = TickBlock.all := rfl

/-- A block that takes the tick has it to take no longer (R137). -/
theorem takeTick_tickDue (b : TickBlock) (s : State) : (takeTick b s).time.tickDue = s.time.tickDue.erase b := by
  unfold takeTick
  split
  · simp
  · rename_i h
    rw [List.erase_of_not_mem (by simpa using h)]

/-- A block without a tick to take takes none (log 1). -/
theorem takeTick_none (b : TickBlock) (s : State) (h : s.time.tickDue.contains b = false) : takeTick b s = s := by
  unfold takeTick
  rw [h, if_neg Bool.false_ne_true]

@[simp] theorem releaseEntry_keeps (i : Nat) (e : Entry) (s : State) :
    (releaseEntry i e s).pins = s.pins ∧ (releaseEntry i e s).mc = s.mc
      ∧ (releaseEntry i e s).table.sums = s.table.sums ∧ (releaseEntry i e s).table.overcommit = s.table.overcommit
      ∧ (releaseEntry i e s).table.nextSnapshot = s.table.nextSnapshot
      ∧ (releaseEntry i e s).alloc.share = s.alloc.share
      ∧ (releaseEntry i e s).alloc.holdAttempt = s.alloc.holdAttempt
      ∧ (releaseEntry i e s).outbox.claim = s.outbox.claim ∧ (releaseEntry i e s).line.rx = s.line.rx
      ∧ (releaseEntry i e s).line.idle = s.line.idle ∧ (releaseEntry i e s).line.bits = s.line.bits
      ∧ (releaseEntry i e s).line.inbox = s.line.inbox ∧ (releaseEntry i e s).time = s.time
      ∧ (releaseEntry i e s).pilot = s.pilot ∧ (releaseEntry i e s).events.filter = s.events.filter
      ∧ (releaseEntry i e s).events.steering = s.events.steering
      ∧ (releaseEntry i e s).events.active = s.events.active ∧ (releaseEntry i e s).events.acked = s.events.acked
      ∧ (releaseEntry i e s).events.popping = s.events.popping ∧ (releaseEntry i e s).port = s.port
      ∧ (releaseEntry i e s).pending = s.pending := by
  unfold releaseEntry
  simp

@[simp] theorem silenceEntry_keeps (i : Nat) (e : Entry) (s : State) :
    (silenceEntry i e s).pins = s.pins ∧ (silenceEntry i e s).mc = s.mc
      ∧ (silenceEntry i e s).table.sums = s.table.sums ∧ (silenceEntry i e s).table.overcommit = s.table.overcommit
      ∧ (silenceEntry i e s).table.nextSnapshot = s.table.nextSnapshot
      ∧ (silenceEntry i e s).alloc.share = s.alloc.share
      ∧ (silenceEntry i e s).alloc.holdAttempt = s.alloc.holdAttempt
      ∧ (silenceEntry i e s).outbox.claim = s.outbox.claim ∧ (silenceEntry i e s).outbox.answers = s.outbox.answers
      ∧ (silenceEntry i e s).outbox.answerList = s.outbox.answerList ∧ (silenceEntry i e s).line = s.line
      ∧ (silenceEntry i e s).time = s.time ∧ (silenceEntry i e s).pilot = s.pilot
      ∧ (silenceEntry i e s).events.filter = s.events.filter
      ∧ (silenceEntry i e s).events.steering = s.events.steering
      ∧ (silenceEntry i e s).events.active = s.events.active ∧ (silenceEntry i e s).events.acked = s.events.acked
      ∧ (silenceEntry i e s).events.popping = s.events.popping ∧ (silenceEntry i e s).port = s.port
      ∧ (silenceEntry i e s).pending = s.pending := by
  unfold silenceEntry
  simp

@[simp] theorem ageBy_keeps (i : Nat) (e : Entry) (s : State) :
    (ageBy i e s).pins = s.pins ∧ (ageBy i e s).mc = s.mc ∧ (ageBy i e s).table.sums = s.table.sums
      ∧ (ageBy i e s).table.overcommit = s.table.overcommit ∧ (ageBy i e s).table.nextSnapshot = s.table.nextSnapshot
      ∧ (ageBy i e s).alloc.share = s.alloc.share ∧ (ageBy i e s).alloc.holdAttempt = s.alloc.holdAttempt
      ∧ (ageBy i e s).outbox.claim = s.outbox.claim ∧ (ageBy i e s).line.rx = s.line.rx
      ∧ (ageBy i e s).line.idle = s.line.idle ∧ (ageBy i e s).line.bits = s.line.bits
      ∧ (ageBy i e s).line.inbox = s.line.inbox ∧ (ageBy i e s).time = s.time ∧ (ageBy i e s).pilot = s.pilot
      ∧ (ageBy i e s).events.filter = s.events.filter ∧ (ageBy i e s).events.steering = s.events.steering
      ∧ (ageBy i e s).events.active = s.events.active ∧ (ageBy i e s).events.acked = s.events.acked
      ∧ (ageBy i e s).events.popping = s.events.popping ∧ (ageBy i e s).port = s.port
      ∧ (ageBy i e s).pending = s.pending := by
  unfold ageBy
  (repeat' split) <;> simp

@[simp] theorem ageEntry_keeps (i : Nat) (s : State) :
    (ageEntry i s).pins = s.pins ∧ (ageEntry i s).mc = s.mc ∧ (ageEntry i s).table.sums = s.table.sums
      ∧ (ageEntry i s).table.overcommit = s.table.overcommit
      ∧ (ageEntry i s).table.nextSnapshot = s.table.nextSnapshot ∧ (ageEntry i s).alloc.share = s.alloc.share
      ∧ (ageEntry i s).alloc.holdAttempt = s.alloc.holdAttempt ∧ (ageEntry i s).outbox.claim = s.outbox.claim
      ∧ (ageEntry i s).line.rx = s.line.rx ∧ (ageEntry i s).line.idle = s.line.idle
      ∧ (ageEntry i s).line.bits = s.line.bits ∧ (ageEntry i s).line.inbox = s.line.inbox
      ∧ (ageEntry i s).time = s.time ∧ (ageEntry i s).pilot = s.pilot ∧ (ageEntry i s).events.filter = s.events.filter
      ∧ (ageEntry i s).events.steering = s.events.steering ∧ (ageEntry i s).events.active = s.events.active
      ∧ (ageEntry i s).events.acked = s.events.acked ∧ (ageEntry i s).events.popping = s.events.popping
      ∧ (ageEntry i s).port = s.port ∧ (ageEntry i s).pending = s.pending := by
  unfold ageEntry
  (repeat' split) <;> simp

@[simp] theorem startByItself_keeps (s : State) :
    (startByItself s).pins = s.pins ∧ (startByItself s).mc = s.mc
      ∧ (startByItself s).table.entries = s.table.entries
      ∧ (startByItself s).table.nextSnapshot = s.table.nextSnapshot
      ∧ (startByItself s).alloc.share.lastTx = s.alloc.share.lastTx
      ∧ (startByItself s).alloc.share.floor = s.alloc.share.floor
      ∧ (startByItself s).alloc.share.priority = s.alloc.share.priority
      ∧ (startByItself s).alloc.share.demand = s.alloc.share.demand
      ∧ (startByItself s).alloc.share.holdSeq = s.alloc.share.holdSeq
      ∧ (startByItself s).alloc.share.silence = s.alloc.share.silence
      ∧ (startByItself s).alloc.holdAttempt = s.alloc.holdAttempt
      ∧ (startByItself s).outbox.answers = s.outbox.answers
      ∧ (startByItself s).outbox.answerList = s.outbox.answerList ∧ (startByItself s).line.rx = s.line.rx
      ∧ (startByItself s).line.idle = s.line.idle ∧ (startByItself s).line.bits = s.line.bits
      ∧ (startByItself s).line.inbox = s.line.inbox ∧ (startByItself s).time = s.time
      ∧ (startByItself s).pilot.stateCopy = s.pilot.stateCopy ∧ (startByItself s).pilot.faultIn = s.pilot.faultIn
      ∧ (startByItself s).pilot.loadIn = s.pilot.loadIn ∧ (startByItself s).pilot.mode = s.pilot.mode
      ∧ (startByItself s).pilot.drive = s.pilot.drive ∧ (startByItself s).pilot.duty = s.pilot.duty
      ∧ (startByItself s).pilot.applied = s.pilot.applied ∧ (startByItself s).pilot.phase = s.pilot.phase
      ∧ (startByItself s).pilot.meter = s.pilot.meter ∧ (startByItself s).pilot.fullScale = s.pilot.fullScale
      ∧ (startByItself s).pilot.polarity = s.pilot.polarity ∧ (startByItself s).pilot.periodDue = s.pilot.periodDue
      ∧ (startByItself s).pilot.faultDue = s.pilot.faultDue ∧ (startByItself s).events.filter = s.events.filter
      ∧ (startByItself s).events.steering = s.events.steering ∧ (startByItself s).events.popping = s.events.popping
      ∧ (startByItself s).port = s.port ∧ (startByItself s).pending = s.pending := by
  unfold startByItself
  (repeat' split) <;> simp

@[simp] theorem raiseCensus_keeps (s : State) :
    (raiseCensus s).pins = s.pins ∧ (raiseCensus s).mc.station = s.mc.station
      ∧ (raiseCensus s).mc.identity = s.mc.identity ∧ (raiseCensus s).mc.retry = s.mc.retry
      ∧ (raiseCensus s).mc.configured = s.mc.configured ∧ (raiseCensus s).mc.request = s.mc.request
      ∧ (raiseCensus s).mc.lastResolution = s.mc.lastResolution ∧ (raiseCensus s).mc.duplicate = s.mc.duplicate
      ∧ (raiseCensus s).table = s.table ∧ (raiseCensus s).alloc = s.alloc ∧ (raiseCensus s).outbox = s.outbox
      ∧ (raiseCensus s).line = s.line ∧ (raiseCensus s).time = s.time ∧ (raiseCensus s).pilot = s.pilot
      ∧ (raiseCensus s).events = s.events ∧ (raiseCensus s).port = s.port ∧ (raiseCensus s).pending = s.pending := ⟨rfl, rfl, rfl, rfl, rfl, rfl, rfl, rfl, rfl, rfl, rfl, rfl, rfl, rfl, rfl, rfl, rfl⟩

@[simp] theorem raiseRetry_keeps (s : State) :
    (raiseRetry s).pins = s.pins ∧ (raiseRetry s).mc.station = s.mc.station
      ∧ (raiseRetry s).mc.identity = s.mc.identity ∧ (raiseRetry s).mc.census = s.mc.census
      ∧ (raiseRetry s).mc.configured = s.mc.configured ∧ (raiseRetry s).mc.request = s.mc.request
      ∧ (raiseRetry s).mc.lastResolution = s.mc.lastResolution ∧ (raiseRetry s).mc.duplicate = s.mc.duplicate
      ∧ (raiseRetry s).table = s.table ∧ (raiseRetry s).alloc = s.alloc ∧ (raiseRetry s).outbox = s.outbox
      ∧ (raiseRetry s).line = s.line ∧ (raiseRetry s).time = s.time ∧ (raiseRetry s).pilot = s.pilot
      ∧ (raiseRetry s).events = s.events ∧ (raiseRetry s).port = s.port ∧ (raiseRetry s).pending = s.pending := by
  unfold raiseRetry
  (repeat' split) <;> simp

@[simp] theorem joinIfDue_keeps (s : State) :
    (joinIfDue s).pins = s.pins ∧ (joinIfDue s).mc.identity = s.mc.identity ∧ (joinIfDue s).mc.census = s.mc.census
      ∧ (joinIfDue s).mc.configured = s.mc.configured ∧ (joinIfDue s).mc.duplicate = s.mc.duplicate
      ∧ (joinIfDue s).table.nextSnapshot = s.table.nextSnapshot
      ∧ (joinIfDue s).alloc.share.lastTx = s.alloc.share.lastTx
      ∧ (joinIfDue s).alloc.share.floor = s.alloc.share.floor
      ∧ (joinIfDue s).alloc.share.priority = s.alloc.share.priority
      ∧ (joinIfDue s).alloc.share.demand = s.alloc.share.demand
      ∧ (joinIfDue s).alloc.share.holdSeq = s.alloc.share.holdSeq
      ∧ (joinIfDue s).alloc.holdAttempt = s.alloc.holdAttempt ∧ (joinIfDue s).line.idle = s.line.idle
      ∧ (joinIfDue s).line.bits = s.line.bits ∧ (joinIfDue s).time = s.time
      ∧ (joinIfDue s).pilot.faultIn = s.pilot.faultIn ∧ (joinIfDue s).pilot.loadIn = s.pilot.loadIn
      ∧ (joinIfDue s).pilot.mode = s.pilot.mode ∧ (joinIfDue s).pilot.drive = s.pilot.drive
      ∧ (joinIfDue s).pilot.duty = s.pilot.duty ∧ (joinIfDue s).pilot.applied = s.pilot.applied
      ∧ (joinIfDue s).pilot.phase = s.pilot.phase ∧ (joinIfDue s).pilot.meter = s.pilot.meter
      ∧ (joinIfDue s).pilot.fullScale = s.pilot.fullScale ∧ (joinIfDue s).pilot.polarity = s.pilot.polarity
      ∧ (joinIfDue s).pilot.periodDue = s.pilot.periodDue ∧ (joinIfDue s).pilot.faultDue = s.pilot.faultDue
      ∧ (joinIfDue s).events.filter = s.events.filter ∧ (joinIfDue s).events.steering = s.events.steering
      ∧ (joinIfDue s).events.popping = s.events.popping ∧ (joinIfDue s).port = s.port
      ∧ (joinIfDue s).pending = s.pending := by
  unfold joinIfDue
  (repeat' split) <;> simp

@[simp] theorem raiseSilence_keeps (s : State) :
    (raiseSilence s).pins = s.pins ∧ (raiseSilence s).mc = s.mc ∧ (raiseSilence s).table = s.table
      ∧ (raiseSilence s).alloc.share.held = s.alloc.share.held
      ∧ (raiseSilence s).alloc.share.lastTx = s.alloc.share.lastTx
      ∧ (raiseSilence s).alloc.share.floor = s.alloc.share.floor
      ∧ (raiseSilence s).alloc.share.priority = s.alloc.share.priority
      ∧ (raiseSilence s).alloc.share.demand = s.alloc.share.demand
      ∧ (raiseSilence s).alloc.share.holdSeq = s.alloc.share.holdSeq
      ∧ (raiseSilence s).alloc.share.claimCounter = s.alloc.share.claimCounter
      ∧ (raiseSilence s).alloc.share.failures = s.alloc.share.failures
      ∧ (raiseSilence s).alloc.share.backoff = s.alloc.share.backoff ∧ (raiseSilence s).alloc.claim = s.alloc.claim
      ∧ (raiseSilence s).alloc.holdAttempt = s.alloc.holdAttempt ∧ (raiseSilence s).outbox = s.outbox
      ∧ (raiseSilence s).line = s.line ∧ (raiseSilence s).time = s.time ∧ (raiseSilence s).pilot = s.pilot
      ∧ (raiseSilence s).events = s.events ∧ (raiseSilence s).port = s.port ∧ (raiseSilence s).pending = s.pending := by
  unfold raiseSilence
  simp

@[simp] theorem fenceIfSilent_keeps (s : State) :
    (fenceIfSilent s).pins = s.pins ∧ (fenceIfSilent s).mc.identity = s.mc.identity
      ∧ (fenceIfSilent s).mc.census = s.mc.census ∧ (fenceIfSilent s).mc.configured = s.mc.configured
      ∧ (fenceIfSilent s).mc.duplicate = s.mc.duplicate ∧ (fenceIfSilent s).table.nextSnapshot = s.table.nextSnapshot
      ∧ (fenceIfSilent s).alloc.share.lastTx = s.alloc.share.lastTx
      ∧ (fenceIfSilent s).alloc.share.floor = s.alloc.share.floor
      ∧ (fenceIfSilent s).alloc.share.priority = s.alloc.share.priority
      ∧ (fenceIfSilent s).alloc.share.demand = s.alloc.share.demand
      ∧ (fenceIfSilent s).alloc.share.holdSeq = s.alloc.share.holdSeq
      ∧ (fenceIfSilent s).alloc.share.claimCounter = s.alloc.share.claimCounter
      ∧ (fenceIfSilent s).alloc.share.silence = s.alloc.share.silence
      ∧ (fenceIfSilent s).alloc.holdAttempt = s.alloc.holdAttempt ∧ (fenceIfSilent s).line.idle = s.line.idle
      ∧ (fenceIfSilent s).line.bits = s.line.bits ∧ (fenceIfSilent s).time = s.time
      ∧ (fenceIfSilent s).pilot.faultIn = s.pilot.faultIn ∧ (fenceIfSilent s).pilot.loadIn = s.pilot.loadIn
      ∧ (fenceIfSilent s).pilot.mode = s.pilot.mode ∧ (fenceIfSilent s).pilot.drive = s.pilot.drive
      ∧ (fenceIfSilent s).pilot.duty = s.pilot.duty ∧ (fenceIfSilent s).pilot.applied = s.pilot.applied
      ∧ (fenceIfSilent s).pilot.phase = s.pilot.phase ∧ (fenceIfSilent s).pilot.meter = s.pilot.meter
      ∧ (fenceIfSilent s).pilot.fullScale = s.pilot.fullScale ∧ (fenceIfSilent s).pilot.polarity = s.pilot.polarity
      ∧ (fenceIfSilent s).pilot.periodDue = s.pilot.periodDue ∧ (fenceIfSilent s).pilot.faultDue = s.pilot.faultDue
      ∧ (fenceIfSilent s).events.filter = s.events.filter ∧ (fenceIfSilent s).events.steering = s.events.steering
      ∧ (fenceIfSilent s).events.popping = s.events.popping ∧ (fenceIfSilent s).port = s.port
      ∧ (fenceIfSilent s).pending = s.pending := by
  unfold fenceIfSilent
  (repeat' split) <;> simp

@[simp] theorem markExpired_keeps (k : Nat) (s : State) :
    (markExpired k s).pins = s.pins ∧ (markExpired k s).mc = s.mc ∧ (markExpired k s).table = s.table
      ∧ (markExpired k s).alloc = s.alloc ∧ (markExpired k s).outbox.hold = s.outbox.hold
      ∧ (markExpired k s).outbox.claim = s.outbox.claim ∧ (markExpired k s).outbox.answerList = s.outbox.answerList
      ∧ (markExpired k s).line = s.line ∧ (markExpired k s).time = s.time ∧ (markExpired k s).pilot = s.pilot
      ∧ (markExpired k s).events = s.events ∧ (markExpired k s).port = s.port ∧ (markExpired k s).pending = s.pending := ⟨rfl, rfl, rfl, rfl, rfl, rfl, rfl, rfl, rfl, rfl, rfl, rfl, rfl⟩

@[simp] theorem restartWatchdog_keeps (s : State) :
    (restartWatchdog s).pins = s.pins ∧ (restartWatchdog s).mc = s.mc ∧ (restartWatchdog s).table = s.table
      ∧ (restartWatchdog s).alloc = s.alloc ∧ (restartWatchdog s).outbox = s.outbox
      ∧ (restartWatchdog s).line = s.line ∧ (restartWatchdog s).time.tickDue = s.time.tickDue
      ∧ (restartWatchdog s).time.tickDivider = s.time.tickDivider
      ∧ (restartWatchdog s).time.ms = s.time.ms ∧ (restartWatchdog s).time.leaseMatch = s.time.leaseMatch
      ∧ (restartWatchdog s).time.leasePost = s.time.leasePost
      ∧ (restartWatchdog s).time.boundaryDue = s.time.boundaryDue ∧ (restartWatchdog s).pilot = s.pilot
      ∧ (restartWatchdog s).events = s.events ∧ (restartWatchdog s).port = s.port
      ∧ (restartWatchdog s).pending = s.pending :=
    ⟨rfl, rfl, rfl, rfl, rfl, rfl, rfl, rfl, rfl, rfl, rfl, rfl, rfl, rfl, rfl, rfl⟩

@[simp] theorem fenceUnfed_keeps (s : State) :
    (fenceUnfed s).pins = s.pins ∧ (fenceUnfed s).mc.identity = s.mc.identity
      ∧ (fenceUnfed s).mc.census = s.mc.census ∧ (fenceUnfed s).mc.configured = s.mc.configured
      ∧ (fenceUnfed s).mc.duplicate = s.mc.duplicate ∧ (fenceUnfed s).table.nextSnapshot = s.table.nextSnapshot
      ∧ (fenceUnfed s).alloc.share.lastTx = s.alloc.share.lastTx
      ∧ (fenceUnfed s).alloc.share.floor = s.alloc.share.floor
      ∧ (fenceUnfed s).alloc.share.priority = s.alloc.share.priority
      ∧ (fenceUnfed s).alloc.share.demand = s.alloc.share.demand
      ∧ (fenceUnfed s).alloc.share.holdSeq = s.alloc.share.holdSeq
      ∧ (fenceUnfed s).alloc.share.silence = s.alloc.share.silence
      ∧ (fenceUnfed s).alloc.holdAttempt = s.alloc.holdAttempt ∧ (fenceUnfed s).line.idle = s.line.idle
      ∧ (fenceUnfed s).line.bits = s.line.bits ∧ (fenceUnfed s).time = s.time
      ∧ (fenceUnfed s).pilot.faultIn = s.pilot.faultIn ∧ (fenceUnfed s).pilot.loadIn = s.pilot.loadIn
      ∧ (fenceUnfed s).pilot.mode = s.pilot.mode ∧ (fenceUnfed s).pilot.drive = s.pilot.drive
      ∧ (fenceUnfed s).pilot.duty = s.pilot.duty ∧ (fenceUnfed s).pilot.applied = s.pilot.applied
      ∧ (fenceUnfed s).pilot.phase = s.pilot.phase ∧ (fenceUnfed s).pilot.meter = s.pilot.meter
      ∧ (fenceUnfed s).pilot.fullScale = s.pilot.fullScale ∧ (fenceUnfed s).pilot.polarity = s.pilot.polarity
      ∧ (fenceUnfed s).pilot.periodDue = s.pilot.periodDue ∧ (fenceUnfed s).pilot.faultDue = s.pilot.faultDue
      ∧ (fenceUnfed s).events.filter = s.events.filter ∧ (fenceUnfed s).events.steering = s.events.steering
      ∧ (fenceUnfed s).events.popping = s.events.popping ∧ (fenceUnfed s).port = s.port
      ∧ (fenceUnfed s).pending = s.pending := by
  unfold fenceUnfed
  (repeat' split) <;> simp

@[simp] theorem requestActiveHold_keeps (s : State) :
    (requestActiveHold s).pins = s.pins ∧ (requestActiveHold s).mc = s.mc ∧ (requestActiveHold s).table = s.table
      ∧ (requestActiveHold s).alloc = s.alloc ∧ (requestActiveHold s).outbox.claim = s.outbox.claim
      ∧ (requestActiveHold s).outbox.answers = s.outbox.answers
      ∧ (requestActiveHold s).outbox.answerList = s.outbox.answerList ∧ (requestActiveHold s).line = s.line
      ∧ (requestActiveHold s).time = s.time ∧ (requestActiveHold s).pilot = s.pilot
      ∧ (requestActiveHold s).events = s.events ∧ (requestActiveHold s).port = s.port
      ∧ (requestActiveHold s).pending = s.pending := by
  unfold requestActiveHold
  (repeat' split) <;> simp

/-- A change of the FAULT_IN sample taken by the Allocation Engine leaves everything but the drive level and the HOLD slot
(R91, R150). -/
@[simp] theorem faultInChange_keeps (s : State) :
    (faultInChange s).pins = s.pins ∧ (faultInChange s).mc = s.mc ∧ (faultInChange s).table = s.table
      ∧ (faultInChange s).alloc = s.alloc ∧ (faultInChange s).outbox.claim = s.outbox.claim
      ∧ (faultInChange s).outbox.answers = s.outbox.answers
      ∧ (faultInChange s).outbox.answerList = s.outbox.answerList ∧ (faultInChange s).line = s.line
      ∧ (faultInChange s).time = s.time ∧ (faultInChange s).pilot.stateCopy = s.pilot.stateCopy
      ∧ (faultInChange s).pilot.faultIn = s.pilot.faultIn ∧ (faultInChange s).pilot.loadIn = s.pilot.loadIn
      ∧ (faultInChange s).pilot.mode = s.pilot.mode ∧ (faultInChange s).pilot.drive = s.pilot.drive
      ∧ (faultInChange s).pilot.duty = s.pilot.duty ∧ (faultInChange s).pilot.applied = s.pilot.applied
      ∧ (faultInChange s).pilot.phase = s.pilot.phase ∧ (faultInChange s).pilot.meter = s.pilot.meter
      ∧ (faultInChange s).pilot.fullScale = s.pilot.fullScale ∧ (faultInChange s).pilot.polarity = s.pilot.polarity
      ∧ (faultInChange s).pilot.periodDue = s.pilot.periodDue ∧ (faultInChange s).events = s.events
      ∧ (faultInChange s).port = s.port ∧ (faultInChange s).pending = s.pending := by
  unfold faultInChange
  (repeat' split) <;> simp

/-- No change of the FAULT_IN sample waits: the Allocation Engine takes none (log 1). -/
theorem faultInChange_none (s : State) (h : s.pilot.faultDue = false) : faultInChange s = s := by
  simp [faultInChange, h]

/-- Outside RESET a period start finds no change of the FAULT_IN sample waiting (log 38). -/
theorem faultInChange_faultDue (s : State) (h : s.mc.station ≠ .reset) : (faultInChange s).pilot.faultDue = false := by
  unfold faultInChange
  split <;> simp_all

/-- A sample equal to the one before it is nothing to the Event Unit (R150). -/
theorem handFaultIn_same (s : State) : handFaultIn s.pilot.faultIn s = s := by simp [handFaultIn]

/-- Where the condition stood as the sample before, it stands as the sample (R168). -/
theorem handFaultIn_active (before : Bool) (s : State) (h : s.events.active.faultIn = before) :
    (handFaultIn before s).events.active.faultIn = s.pilot.faultIn := by
  unfold handFaultIn
  split
  · simp_all
  · simp [setCondition, AlertSet.put]

/-- A FAULT_IN sample handed to the Event Unit changes its queue and its conditions alone (R150). -/
@[simp] theorem handFaultIn_keeps (before : Bool) (s : State) :
    (handFaultIn before s).pins = s.pins ∧ (handFaultIn before s).mc = s.mc ∧ (handFaultIn before s).table = s.table
      ∧ (handFaultIn before s).alloc = s.alloc ∧ (handFaultIn before s).outbox = s.outbox
      ∧ (handFaultIn before s).line = s.line ∧ (handFaultIn before s).time = s.time
      ∧ (handFaultIn before s).pilot = s.pilot ∧ (handFaultIn before s).events.filter = s.events.filter
      ∧ (handFaultIn before s).events.steering = s.events.steering
      ∧ (handFaultIn before s).events.popping = s.events.popping ∧ (handFaultIn before s).port = s.port
      ∧ (handFaultIn before s).pending = s.pending := by
  unfold handFaultIn
  split <;> simp

@[simp] theorem startPeriod_pilot (levels : LoadLevels) (between : Option Handover) (s : State) :
    (startPeriod levels between s).pilot = s.pilot.nextPeriod levels (s.pilot.found between) := by
  simp [startPeriod]

/-- The taking of a tick by the Pilot Unit leaves every block but it and the Event Unit as it was (R150, R156). -/
@[simp] theorem startPeriod_keeps (levels : LoadLevels) (between : Option Handover) (s : State) :
    (startPeriod levels between s).pins = s.pins ∧ (startPeriod levels between s).mc = s.mc
      ∧ (startPeriod levels between s).table = s.table ∧ (startPeriod levels between s).alloc = s.alloc
      ∧ (startPeriod levels between s).outbox = s.outbox ∧ (startPeriod levels between s).line = s.line
      ∧ (startPeriod levels between s).time = s.time
      ∧ (startPeriod levels between s).events.filter = s.events.filter
      ∧ (startPeriod levels between s).events.steering = s.events.steering
      ∧ (startPeriod levels between s).events.popping = s.events.popping
      ∧ (startPeriod levels between s).port = s.port ∧ (startPeriod levels between s).pending = s.pending := by
  simp [startPeriod]

end Sys2Proof.Machine
end

