-- ==== Sys2Proof/Laws/Port.lean ====
section
/-! SUPPORT. What the operations of the Local Port and of its queued requests leave as it was (Machine/Port.lean, Machine/Queue.lean): one lemma an operation. -/

namespace Sys2Proof.Machine

@[simp] theorem setPort_keeps (p : Port) (s : State) :
    (setPort p s).pins = s.pins ∧ (setPort p s).mc = s.mc ∧ (setPort p s).table = s.table
      ∧ (setPort p s).alloc = s.alloc ∧ (setPort p s).outbox = s.outbox ∧ (setPort p s).line = s.line
      ∧ (setPort p s).time = s.time ∧ (setPort p s).pilot = s.pilot ∧ (setPort p s).events = s.events
      ∧ (setPort p s).pending = s.pending := ⟨rfl, rfl, rfl, rfl, rfl, rfl, rfl, rfl, rfl, rfl⟩

@[simp] theorem respond_keeps (command : Byte) (r : ResponseCode) (data : List Byte) (atEnd : EndEffect) (s : State) :
    (respond command r data atEnd s).pins = s.pins ∧ (respond command r data atEnd s).mc = s.mc
      ∧ (respond command r data atEnd s).table = s.table ∧ (respond command r data atEnd s).alloc = s.alloc
      ∧ (respond command r data atEnd s).outbox = s.outbox ∧ (respond command r data atEnd s).line = s.line
      ∧ (respond command r data atEnd s).time = s.time ∧ (respond command r data atEnd s).pilot = s.pilot
      ∧ (respond command r data atEnd s).events = s.events
      ∧ (respond command r data atEnd s).port.request = s.port.request
      ∧ (respond command r data atEnd s).port.bits = s.port.bits
      ∧ (respond command r data atEnd s).port.fifo = s.port.fifo
      ∧ (respond command r data atEnd s).port.snapRequest = s.port.snapRequest
      ∧ (respond command r data atEnd s).port.snapshot = s.port.snapshot
      ∧ (respond command r data atEnd s).pending = s.pending := ⟨rfl, rfl, rfl, rfl, rfl, rfl, rfl, rfl, rfl, rfl, rfl, rfl, rfl, rfl, rfl⟩

@[simp] theorem setSelect_keeps (high : Bool) (s : State) :
    (setSelect high s).mc = s.mc ∧ (setSelect high s).table = s.table ∧ (setSelect high s).alloc = s.alloc
      ∧ (setSelect high s).outbox = s.outbox ∧ (setSelect high s).line = s.line ∧ (setSelect high s).time = s.time
      ∧ (setSelect high s).pilot = s.pilot ∧ (setSelect high s).events = s.events ∧ (setSelect high s).port = s.port
      ∧ (setSelect high s).pending = s.pending := ⟨rfl, rfl, rfl, rfl, rfl, rfl, rfl, rfl, rfl, rfl⟩

@[simp] theorem passSdi_keeps (s : State) :
    (passSdi s).mc = s.mc ∧ (passSdi s).table = s.table ∧ (passSdi s).alloc = s.alloc
      ∧ (passSdi s).outbox = s.outbox ∧ (passSdi s).line = s.line ∧ (passSdi s).time = s.time
      ∧ (passSdi s).pilot = s.pilot ∧ (passSdi s).events = s.events ∧ (passSdi s).port = s.port
      ∧ (passSdi s).pending = s.pending := ⟨rfl, rfl, rfl, rfl, rfl, rfl, rfl, rfl, rfl, rfl⟩

@[simp] theorem beginRequest_keeps (sdi : List Bool) (s : State) :
    (beginRequest sdi s).pins = s.pins ∧ (beginRequest sdi s).mc = s.mc ∧ (beginRequest sdi s).table = s.table
      ∧ (beginRequest sdi s).alloc = s.alloc ∧ (beginRequest sdi s).outbox = s.outbox
      ∧ (beginRequest sdi s).line = s.line ∧ (beginRequest sdi s).time = s.time ∧ (beginRequest sdi s).pilot = s.pilot
      ∧ (beginRequest sdi s).events = s.events ∧ (beginRequest sdi s).port.fifo = s.port.fifo
      ∧ (beginRequest sdi s).port.snapRequest = s.port.snapRequest
      ∧ (beginRequest sdi s).port.snapshot = s.port.snapshot ∧ (beginRequest sdi s).pending = s.pending := by
  unfold beginRequest
  (repeat' split) <;> simp

@[simp] theorem toIdle_keeps (s : State) :
    (toIdle s).pins = s.pins ∧ (toIdle s).mc = s.mc ∧ (toIdle s).table = s.table ∧ (toIdle s).alloc = s.alloc
      ∧ (toIdle s).outbox = s.outbox ∧ (toIdle s).line = s.line ∧ (toIdle s).time = s.time
      ∧ (toIdle s).pilot = s.pilot ∧ (toIdle s).events = s.events ∧ (toIdle s).port.fifo = s.port.fifo
      ∧ (toIdle s).port.snapRequest = s.port.snapRequest ∧ (toIdle s).port.snapshot = s.port.snapshot
      ∧ (toIdle s).pending = s.pending := by
  unfold toIdle
  simp

@[simp] theorem wholeEffect_keeps (e : EndEffect) (s : State) :
    (wholeEffect e s).pins = s.pins ∧ (wholeEffect e s).mc = s.mc ∧ (wholeEffect e s).table = s.table
      ∧ (wholeEffect e s).alloc = s.alloc ∧ (wholeEffect e s).outbox = s.outbox ∧ (wholeEffect e s).line = s.line
      ∧ (wholeEffect e s).time = s.time ∧ (wholeEffect e s).pilot.requested = s.pilot.requested
      ∧ (wholeEffect e s).pilot.stateCopy = s.pilot.stateCopy ∧ (wholeEffect e s).pilot.former = s.pilot.former
      ∧ (wholeEffect e s).pilot.faultIn = s.pilot.faultIn ∧ (wholeEffect e s).pilot.loadIn = s.pilot.loadIn
      ∧ (wholeEffect e s).pilot.mode = s.pilot.mode ∧ (wholeEffect e s).pilot.drive = s.pilot.drive
      ∧ (wholeEffect e s).pilot.duty = s.pilot.duty ∧ (wholeEffect e s).pilot.applied = s.pilot.applied
      ∧ (wholeEffect e s).pilot.phase = s.pilot.phase ∧ (wholeEffect e s).pilot.fullScale = s.pilot.fullScale
      ∧ (wholeEffect e s).pilot.polarity = s.pilot.polarity ∧ (wholeEffect e s).pilot.periodDue = s.pilot.periodDue
      ∧ (wholeEffect e s).pilot.faultDue = s.pilot.faultDue ∧ (wholeEffect e s).port.transaction = s.port.transaction
      ∧ (wholeEffect e s).port.request = s.port.request ∧ (wholeEffect e s).port.bits = s.port.bits
      ∧ (wholeEffect e s).port.response = s.port.response ∧ (wholeEffect e s).port.fifo = s.port.fifo
      ∧ (wholeEffect e s).port.snapshot = s.port.snapshot ∧ (wholeEffect e s).port.atEnd = s.port.atEnd
      ∧ (wholeEffect e s).pending = s.pending := by
  unfold wholeEffect
  (repeat' split) <;> simp

@[simp] theorem brokenEffect_keeps (e : EndEffect) (s : State) :
    (brokenEffect e s).pins = s.pins ∧ (brokenEffect e s).mc = s.mc ∧ (brokenEffect e s).table = s.table
      ∧ (brokenEffect e s).alloc = s.alloc ∧ (brokenEffect e s).outbox = s.outbox ∧ (brokenEffect e s).line = s.line
      ∧ (brokenEffect e s).time = s.time ∧ (brokenEffect e s).pilot = s.pilot
      ∧ (brokenEffect e s).events.filter = s.events.filter ∧ (brokenEffect e s).events.steering = s.events.steering
      ∧ (brokenEffect e s).events.active = s.events.active ∧ (brokenEffect e s).events.acked = s.events.acked
      ∧ (brokenEffect e s).port = s.port ∧ (brokenEffect e s).pending = s.pending := by
  unfold brokenEffect
  (repeat' split) <;> simp

@[simp] theorem place_keeps (q : QueuedRequest) (s : State) :
    (place q s).pins = s.pins ∧ (place q s).mc = s.mc ∧ (place q s).table = s.table ∧ (place q s).alloc = s.alloc
      ∧ (place q s).outbox = s.outbox ∧ (place q s).line = s.line ∧ (place q s).time = s.time
      ∧ (place q s).pilot = s.pilot ∧ (place q s).events = s.events
      ∧ (place q s).port.transaction = s.port.transaction ∧ (place q s).port.request = s.port.request
      ∧ (place q s).port.bits = s.port.bits ∧ (place q s).port.response = s.port.response
      ∧ (place q s).port.snapRequest = s.port.snapRequest ∧ (place q s).port.snapshot = s.port.snapshot
      ∧ (place q s).port.atEnd = s.port.atEnd ∧ (place q s).pending = s.pending := ⟨rfl, rfl, rfl, rfl, rfl, rfl, rfl, rfl, rfl, rfl, rfl, rfl, rfl, rfl, rfl, rfl, rfl⟩

@[simp] theorem placeStateRequest_keeps (t : Target) (r : PendingRequest) (s : State) :
    (placeStateRequest t r s).pins = s.pins ∧ (placeStateRequest t r s).mc.station = s.mc.station
      ∧ (placeStateRequest t r s).mc.identity = s.mc.identity ∧ (placeStateRequest t r s).mc.census = s.mc.census
      ∧ (placeStateRequest t r s).mc.retry = s.mc.retry ∧ (placeStateRequest t r s).mc.configured = s.mc.configured
      ∧ (placeStateRequest t r s).mc.lastResolution = s.mc.lastResolution
      ∧ (placeStateRequest t r s).mc.duplicate = s.mc.duplicate ∧ (placeStateRequest t r s).table = s.table
      ∧ (placeStateRequest t r s).alloc = s.alloc ∧ (placeStateRequest t r s).outbox = s.outbox
      ∧ (placeStateRequest t r s).line = s.line ∧ (placeStateRequest t r s).time = s.time
      ∧ (placeStateRequest t r s).pilot = s.pilot ∧ (placeStateRequest t r s).events = s.events
      ∧ (placeStateRequest t r s).port.request = s.port.request ∧ (placeStateRequest t r s).port.bits = s.port.bits
      ∧ (placeStateRequest t r s).port.snapRequest = s.port.snapRequest
      ∧ (placeStateRequest t r s).port.snapshot = s.port.snapshot ∧ (placeStateRequest t r s).pending = s.pending := by
  unfold placeStateRequest
  (repeat' split) <;> simp

@[simp] theorem replaceWaiting_keeps (s : State) :
    (replaceWaiting s).pins = s.pins ∧ (replaceWaiting s).mc.station = s.mc.station
      ∧ (replaceWaiting s).mc.identity = s.mc.identity ∧ (replaceWaiting s).mc.census = s.mc.census
      ∧ (replaceWaiting s).mc.retry = s.mc.retry ∧ (replaceWaiting s).mc.configured = s.mc.configured
      ∧ (replaceWaiting s).mc.duplicate = s.mc.duplicate ∧ (replaceWaiting s).table = s.table
      ∧ (replaceWaiting s).alloc = s.alloc ∧ (replaceWaiting s).outbox = s.outbox ∧ (replaceWaiting s).line = s.line
      ∧ (replaceWaiting s).time = s.time ∧ (replaceWaiting s).pilot = s.pilot
      ∧ (replaceWaiting s).events.filter = s.events.filter ∧ (replaceWaiting s).events.steering = s.events.steering
      ∧ (replaceWaiting s).events.active = s.events.active ∧ (replaceWaiting s).events.acked = s.events.acked
      ∧ (replaceWaiting s).events.popping = s.events.popping ∧ (replaceWaiting s).port.request = s.port.request
      ∧ (replaceWaiting s).port.bits = s.port.bits ∧ (replaceWaiting s).port.snapRequest = s.port.snapRequest
      ∧ (replaceWaiting s).port.snapshot = s.port.snapshot ∧ (replaceWaiting s).pending = s.pending := by
  unfold replaceWaiting
  simp

@[simp] theorem keepCopy_keeps (s : State) :
    (keepCopy s).pins = s.pins ∧ (keepCopy s).mc = s.mc ∧ (keepCopy s).table.entries = s.table.entries
      ∧ (keepCopy s).table.sums = s.table.sums ∧ (keepCopy s).table.overcommit = s.table.overcommit
      ∧ (keepCopy s).alloc = s.alloc ∧ (keepCopy s).outbox = s.outbox ∧ (keepCopy s).line = s.line
      ∧ (keepCopy s).time = s.time ∧ (keepCopy s).pilot = s.pilot ∧ (keepCopy s).events = s.events
      ∧ (keepCopy s).port.transaction = s.port.transaction ∧ (keepCopy s).port.request = s.port.request
      ∧ (keepCopy s).port.bits = s.port.bits ∧ (keepCopy s).port.response = s.port.response
      ∧ (keepCopy s).port.fifo = s.port.fifo ∧ (keepCopy s).port.atEnd = s.port.atEnd
      ∧ (keepCopy s).pending = s.pending := ⟨rfl, rfl, rfl, rfl, rfl, rfl, rfl, rfl, rfl, rfl, rfl, rfl, rfl, rfl, rfl, rfl, rfl, rfl⟩

@[simp] theorem popFifo_keeps (s : State) :
    (popFifo s).pins = s.pins ∧ (popFifo s).mc = s.mc ∧ (popFifo s).table = s.table ∧ (popFifo s).alloc = s.alloc
      ∧ (popFifo s).outbox = s.outbox ∧ (popFifo s).line = s.line ∧ (popFifo s).time = s.time
      ∧ (popFifo s).pilot = s.pilot ∧ (popFifo s).events = s.events
      ∧ (popFifo s).port.transaction = s.port.transaction ∧ (popFifo s).port.request = s.port.request
      ∧ (popFifo s).port.bits = s.port.bits ∧ (popFifo s).port.response = s.port.response
      ∧ (popFifo s).port.snapRequest = s.port.snapRequest ∧ (popFifo s).port.snapshot = s.port.snapshot
      ∧ (popFifo s).port.atEnd = s.port.atEnd ∧ (popFifo s).pending = s.pending := ⟨rfl, rfl, rfl, rfl, rfl, rfl, rfl, rfl, rfl, rfl, rfl, rfl, rfl, rfl, rfl, rfl, rfl⟩

@[simp] theorem applyRecord_keeps (r : ConfigRecord) (polarity : Polarity) (steering : PerClass Steer) (s : State) :
    (applyRecord r polarity steering s).pins = s.pins
      ∧ (applyRecord r polarity steering s).mc.station = s.mc.station
      ∧ (applyRecord r polarity steering s).mc.identity = s.mc.identity
      ∧ (applyRecord r polarity steering s).mc.census = s.mc.census
      ∧ (applyRecord r polarity steering s).mc.retry = s.mc.retry
      ∧ (applyRecord r polarity steering s).mc.request = s.mc.request
      ∧ (applyRecord r polarity steering s).mc.lastResolution = s.mc.lastResolution
      ∧ (applyRecord r polarity steering s).mc.duplicate = s.mc.duplicate
      ∧ (applyRecord r polarity steering s).table = s.table
      ∧ (applyRecord r polarity steering s).alloc.share.held = s.alloc.share.held
      ∧ (applyRecord r polarity steering s).alloc.share.lastTx = s.alloc.share.lastTx
      ∧ (applyRecord r polarity steering s).alloc.share.demand = s.alloc.share.demand
      ∧ (applyRecord r polarity steering s).alloc.share.holdSeq = s.alloc.share.holdSeq
      ∧ (applyRecord r polarity steering s).alloc.share.claimCounter = s.alloc.share.claimCounter
      ∧ (applyRecord r polarity steering s).alloc.share.silence = s.alloc.share.silence
      ∧ (applyRecord r polarity steering s).alloc.share.failures = s.alloc.share.failures
      ∧ (applyRecord r polarity steering s).alloc.share.backoff = s.alloc.share.backoff
      ∧ (applyRecord r polarity steering s).alloc.claim = s.alloc.claim
      ∧ (applyRecord r polarity steering s).alloc.holdAttempt = s.alloc.holdAttempt
      ∧ (applyRecord r polarity steering s).outbox = s.outbox ∧ (applyRecord r polarity steering s).line = s.line
      ∧ (applyRecord r polarity steering s).time.tickDivider = s.time.tickDivider
      ∧ (applyRecord r polarity steering s).time.ms = s.time.ms
      ∧ (applyRecord r polarity steering s).time.leaseMatch = s.time.leaseMatch
      ∧ (applyRecord r polarity steering s).time.leasePost = s.time.leasePost
      ∧ (applyRecord r polarity steering s).time.boundaryDue = s.time.boundaryDue
      ∧ (applyRecord r polarity steering s).pilot.requested = s.pilot.requested
      ∧ (applyRecord r polarity steering s).pilot.stateCopy = s.pilot.stateCopy
      ∧ (applyRecord r polarity steering s).pilot.former = s.pilot.former
      ∧ (applyRecord r polarity steering s).pilot.faultIn = s.pilot.faultIn
      ∧ (applyRecord r polarity steering s).pilot.loadIn = s.pilot.loadIn
      ∧ (applyRecord r polarity steering s).pilot.mode = s.pilot.mode
      ∧ (applyRecord r polarity steering s).pilot.drive = s.pilot.drive
      ∧ (applyRecord r polarity steering s).pilot.duty = s.pilot.duty
      ∧ (applyRecord r polarity steering s).pilot.applied = s.pilot.applied
      ∧ (applyRecord r polarity steering s).pilot.phase = s.pilot.phase
      ∧ (applyRecord r polarity steering s).pilot.meter = s.pilot.meter
      ∧ (applyRecord r polarity steering s).pilot.periodDue = s.pilot.periodDue
      ∧ (applyRecord r polarity steering s).pilot.faultDue = s.pilot.faultDue
      ∧ (applyRecord r polarity steering s).events.active = s.events.active
      ∧ (applyRecord r polarity steering s).events.acked = s.events.acked
      ∧ (applyRecord r polarity steering s).events.popping = s.events.popping
      ∧ (applyRecord r polarity steering s).port = s.port ∧ (applyRecord r polarity steering s).pending = s.pending := 
    ⟨rfl, rfl, rfl, rfl, rfl, rfl, rfl, rfl, rfl, rfl, rfl, rfl, rfl, rfl, rfl, rfl, rfl, rfl, rfl, rfl,
    rfl, rfl, rfl, rfl, rfl, rfl, rfl, rfl, rfl, rfl, rfl, rfl, rfl, rfl, rfl, rfl, rfl, rfl, rfl, rfl,
    rfl, rfl, rfl, rfl⟩

@[simp] theorem beginJoin_keeps (s : State) :
    (beginJoin s).pins = s.pins ∧ (beginJoin s).mc.identity = s.mc.identity ∧ (beginJoin s).mc.census = s.mc.census
      ∧ (beginJoin s).mc.configured = s.mc.configured ∧ (beginJoin s).mc.duplicate = s.mc.duplicate
      ∧ (beginJoin s).table.nextSnapshot = s.table.nextSnapshot
      ∧ (beginJoin s).alloc.share.lastTx = s.alloc.share.lastTx
      ∧ (beginJoin s).alloc.share.floor = s.alloc.share.floor
      ∧ (beginJoin s).alloc.share.priority = s.alloc.share.priority
      ∧ (beginJoin s).alloc.share.demand = s.alloc.share.demand
      ∧ (beginJoin s).alloc.share.holdSeq = s.alloc.share.holdSeq
      ∧ (beginJoin s).alloc.holdAttempt = s.alloc.holdAttempt ∧ (beginJoin s).line.idle = s.line.idle
      ∧ (beginJoin s).line.bits = s.line.bits ∧ (beginJoin s).time = s.time
      ∧ (beginJoin s).pilot.faultIn = s.pilot.faultIn ∧ (beginJoin s).pilot.loadIn = s.pilot.loadIn
      ∧ (beginJoin s).pilot.mode = s.pilot.mode ∧ (beginJoin s).pilot.drive = s.pilot.drive
      ∧ (beginJoin s).pilot.duty = s.pilot.duty ∧ (beginJoin s).pilot.applied = s.pilot.applied
      ∧ (beginJoin s).pilot.phase = s.pilot.phase ∧ (beginJoin s).pilot.meter = s.pilot.meter
      ∧ (beginJoin s).pilot.fullScale = s.pilot.fullScale ∧ (beginJoin s).pilot.polarity = s.pilot.polarity
      ∧ (beginJoin s).pilot.periodDue = s.pilot.periodDue ∧ (beginJoin s).pilot.faultDue = s.pilot.faultDue
      ∧ (beginJoin s).events.filter = s.events.filter ∧ (beginJoin s).events.steering = s.events.steering
      ∧ (beginJoin s).events.popping = s.events.popping ∧ (beginJoin s).port = s.port
      ∧ (beginJoin s).pending = s.pending := by
  unfold beginJoin
  (repeat' split) <;> simp

@[simp] theorem actOnActive_keeps (s : State) :
    (actOnActive s).pins = s.pins ∧ (actOnActive s).mc.identity = s.mc.identity
      ∧ (actOnActive s).mc.census = s.mc.census ∧ (actOnActive s).mc.configured = s.mc.configured
      ∧ (actOnActive s).mc.duplicate = s.mc.duplicate ∧ (actOnActive s).table.nextSnapshot = s.table.nextSnapshot
      ∧ (actOnActive s).alloc.share.lastTx = s.alloc.share.lastTx
      ∧ (actOnActive s).alloc.share.floor = s.alloc.share.floor
      ∧ (actOnActive s).alloc.share.priority = s.alloc.share.priority
      ∧ (actOnActive s).alloc.share.demand = s.alloc.share.demand
      ∧ (actOnActive s).alloc.share.holdSeq = s.alloc.share.holdSeq
      ∧ (actOnActive s).alloc.holdAttempt = s.alloc.holdAttempt ∧ (actOnActive s).line.idle = s.line.idle
      ∧ (actOnActive s).line.bits = s.line.bits ∧ (actOnActive s).time = s.time
      ∧ (actOnActive s).pilot.faultIn = s.pilot.faultIn ∧ (actOnActive s).pilot.loadIn = s.pilot.loadIn
      ∧ (actOnActive s).pilot.mode = s.pilot.mode ∧ (actOnActive s).pilot.drive = s.pilot.drive
      ∧ (actOnActive s).pilot.duty = s.pilot.duty ∧ (actOnActive s).pilot.applied = s.pilot.applied
      ∧ (actOnActive s).pilot.phase = s.pilot.phase ∧ (actOnActive s).pilot.meter = s.pilot.meter
      ∧ (actOnActive s).pilot.fullScale = s.pilot.fullScale ∧ (actOnActive s).pilot.polarity = s.pilot.polarity
      ∧ (actOnActive s).pilot.periodDue = s.pilot.periodDue ∧ (actOnActive s).pilot.faultDue = s.pilot.faultDue
      ∧ (actOnActive s).events.filter = s.events.filter ∧ (actOnActive s).events.steering = s.events.steering
      ∧ (actOnActive s).events.popping = s.events.popping ∧ (actOnActive s).port = s.port
      ∧ (actOnActive s).pending = s.pending := by
  unfold actOnActive
  (repeat' split) <;> simp

@[simp] theorem cancelTaken_keeps (s : State) :
    (cancelTaken s).pins = s.pins ∧ (cancelTaken s).mc.station = s.mc.station
      ∧ (cancelTaken s).mc.identity = s.mc.identity ∧ (cancelTaken s).mc.census = s.mc.census
      ∧ (cancelTaken s).mc.retry = s.mc.retry ∧ (cancelTaken s).mc.configured = s.mc.configured
      ∧ (cancelTaken s).mc.duplicate = s.mc.duplicate ∧ (cancelTaken s).table = s.table
      ∧ (cancelTaken s).alloc = s.alloc ∧ (cancelTaken s).outbox = s.outbox ∧ (cancelTaken s).line = s.line
      ∧ (cancelTaken s).time = s.time ∧ (cancelTaken s).pilot = s.pilot
      ∧ (cancelTaken s).events.filter = s.events.filter ∧ (cancelTaken s).events.steering = s.events.steering
      ∧ (cancelTaken s).events.active = s.events.active ∧ (cancelTaken s).events.acked = s.events.acked
      ∧ (cancelTaken s).events.popping = s.events.popping ∧ (cancelTaken s).port = s.port
      ∧ (cancelTaken s).pending = s.pending := by
  unfold cancelTaken
  (repeat' split) <;> simp

@[simp] theorem actOnDetached_keeps (s : State) :
    (actOnDetached s).pins = s.pins ∧ (actOnDetached s).mc.identity = s.mc.identity
      ∧ (actOnDetached s).mc.census = s.mc.census ∧ (actOnDetached s).mc.configured = s.mc.configured
      ∧ (actOnDetached s).mc.duplicate = s.mc.duplicate ∧ (actOnDetached s).table.nextSnapshot = s.table.nextSnapshot
      ∧ (actOnDetached s).alloc.share.lastTx = s.alloc.share.lastTx
      ∧ (actOnDetached s).alloc.share.floor = s.alloc.share.floor
      ∧ (actOnDetached s).alloc.share.priority = s.alloc.share.priority
      ∧ (actOnDetached s).alloc.share.demand = s.alloc.share.demand
      ∧ (actOnDetached s).alloc.share.holdSeq = s.alloc.share.holdSeq
      ∧ (actOnDetached s).alloc.share.claimCounter = s.alloc.share.claimCounter
      ∧ (actOnDetached s).alloc.share.silence = s.alloc.share.silence
      ∧ (actOnDetached s).alloc.holdAttempt = s.alloc.holdAttempt ∧ (actOnDetached s).line.idle = s.line.idle
      ∧ (actOnDetached s).line.bits = s.line.bits ∧ (actOnDetached s).time = s.time
      ∧ (actOnDetached s).pilot.faultIn = s.pilot.faultIn ∧ (actOnDetached s).pilot.loadIn = s.pilot.loadIn
      ∧ (actOnDetached s).pilot.mode = s.pilot.mode ∧ (actOnDetached s).pilot.drive = s.pilot.drive
      ∧ (actOnDetached s).pilot.duty = s.pilot.duty ∧ (actOnDetached s).pilot.applied = s.pilot.applied
      ∧ (actOnDetached s).pilot.phase = s.pilot.phase ∧ (actOnDetached s).pilot.meter = s.pilot.meter
      ∧ (actOnDetached s).pilot.fullScale = s.pilot.fullScale ∧ (actOnDetached s).pilot.polarity = s.pilot.polarity
      ∧ (actOnDetached s).pilot.periodDue = s.pilot.periodDue ∧ (actOnDetached s).pilot.faultDue = s.pilot.faultDue
      ∧ (actOnDetached s).events.filter = s.events.filter ∧ (actOnDetached s).events.steering = s.events.steering
      ∧ (actOnDetached s).events.popping = s.events.popping ∧ (actOnDetached s).port = s.port
      ∧ (actOnDetached s).pending = s.pending := by
  unfold actOnDetached
  (repeat' split) <;> simp

@[simp] theorem dropByDemand_keeps (s : State) :
    (dropByDemand s).pins = s.pins ∧ (dropByDemand s).mc = s.mc ∧ (dropByDemand s).table = s.table
      ∧ (dropByDemand s).alloc.share.held = s.alloc.share.held
      ∧ (dropByDemand s).alloc.share.lastTx = s.alloc.share.lastTx
      ∧ (dropByDemand s).alloc.share.floor = s.alloc.share.floor
      ∧ (dropByDemand s).alloc.share.priority = s.alloc.share.priority
      ∧ (dropByDemand s).alloc.share.demand = s.alloc.share.demand
      ∧ (dropByDemand s).alloc.share.holdSeq = s.alloc.share.holdSeq
      ∧ (dropByDemand s).alloc.share.claimCounter = s.alloc.share.claimCounter
      ∧ (dropByDemand s).alloc.share.silence = s.alloc.share.silence
      ∧ (dropByDemand s).alloc.holdAttempt = s.alloc.holdAttempt ∧ (dropByDemand s).outbox.hold = s.outbox.hold
      ∧ (dropByDemand s).outbox.answers = s.outbox.answers ∧ (dropByDemand s).outbox.answerList = s.outbox.answerList
      ∧ (dropByDemand s).line.rx = s.line.rx ∧ (dropByDemand s).line.idle = s.line.idle
      ∧ (dropByDemand s).line.bits = s.line.bits ∧ (dropByDemand s).line.inbox = s.line.inbox
      ∧ (dropByDemand s).time = s.time ∧ (dropByDemand s).pilot = s.pilot
      ∧ (dropByDemand s).events.filter = s.events.filter ∧ (dropByDemand s).events.steering = s.events.steering
      ∧ (dropByDemand s).events.active = s.events.active ∧ (dropByDemand s).events.acked = s.events.acked
      ∧ (dropByDemand s).events.popping = s.events.popping ∧ (dropByDemand s).port = s.port
      ∧ (dropByDemand s).pending = s.pending := by
  unfold dropByDemand
  (repeat' split) <;> simp

@[simp] theorem followDemand_keeps (s : State) :
    (followDemand s).pins = s.pins ∧ (followDemand s).mc = s.mc ∧ (followDemand s).table.entries = s.table.entries
      ∧ (followDemand s).table.nextSnapshot = s.table.nextSnapshot
      ∧ (followDemand s).alloc.share.lastTx = s.alloc.share.lastTx
      ∧ (followDemand s).alloc.share.floor = s.alloc.share.floor
      ∧ (followDemand s).alloc.share.priority = s.alloc.share.priority
      ∧ (followDemand s).alloc.share.demand = s.alloc.share.demand
      ∧ (followDemand s).alloc.share.holdSeq = s.alloc.share.holdSeq
      ∧ (followDemand s).alloc.share.silence = s.alloc.share.silence
      ∧ (followDemand s).alloc.holdAttempt = s.alloc.holdAttempt ∧ (followDemand s).outbox.answers = s.outbox.answers
      ∧ (followDemand s).outbox.answerList = s.outbox.answerList ∧ (followDemand s).line.rx = s.line.rx
      ∧ (followDemand s).line.idle = s.line.idle ∧ (followDemand s).line.bits = s.line.bits
      ∧ (followDemand s).line.inbox = s.line.inbox ∧ (followDemand s).time = s.time
      ∧ (followDemand s).pilot.stateCopy = s.pilot.stateCopy ∧ (followDemand s).pilot.faultIn = s.pilot.faultIn
      ∧ (followDemand s).pilot.loadIn = s.pilot.loadIn ∧ (followDemand s).pilot.mode = s.pilot.mode
      ∧ (followDemand s).pilot.drive = s.pilot.drive ∧ (followDemand s).pilot.duty = s.pilot.duty
      ∧ (followDemand s).pilot.applied = s.pilot.applied ∧ (followDemand s).pilot.phase = s.pilot.phase
      ∧ (followDemand s).pilot.meter = s.pilot.meter ∧ (followDemand s).pilot.fullScale = s.pilot.fullScale
      ∧ (followDemand s).pilot.polarity = s.pilot.polarity ∧ (followDemand s).pilot.periodDue = s.pilot.periodDue
      ∧ (followDemand s).pilot.faultDue = s.pilot.faultDue ∧ (followDemand s).events.filter = s.events.filter
      ∧ (followDemand s).events.steering = s.events.steering ∧ (followDemand s).events.popping = s.events.popping
      ∧ (followDemand s).port = s.port ∧ (followDemand s).pending = s.pending := by
  unfold followDemand
  (repeat' split) <;> simp

@[simp] theorem actOnDemand_keeps (s : State) :
    (actOnDemand s).pins = s.pins ∧ (actOnDemand s).mc = s.mc ∧ (actOnDemand s).table.entries = s.table.entries
      ∧ (actOnDemand s).table.nextSnapshot = s.table.nextSnapshot
      ∧ (actOnDemand s).alloc.share.lastTx = s.alloc.share.lastTx
      ∧ (actOnDemand s).alloc.share.floor = s.alloc.share.floor
      ∧ (actOnDemand s).alloc.share.priority = s.alloc.share.priority
      ∧ (actOnDemand s).alloc.share.demand = s.alloc.share.demand
      ∧ (actOnDemand s).alloc.share.holdSeq = s.alloc.share.holdSeq
      ∧ (actOnDemand s).alloc.share.silence = s.alloc.share.silence
      ∧ (actOnDemand s).alloc.holdAttempt = s.alloc.holdAttempt ∧ (actOnDemand s).outbox.answers = s.outbox.answers
      ∧ (actOnDemand s).outbox.answerList = s.outbox.answerList ∧ (actOnDemand s).line.rx = s.line.rx
      ∧ (actOnDemand s).line.idle = s.line.idle ∧ (actOnDemand s).line.bits = s.line.bits
      ∧ (actOnDemand s).line.inbox = s.line.inbox ∧ (actOnDemand s).time = s.time
      ∧ (actOnDemand s).pilot.stateCopy = s.pilot.stateCopy ∧ (actOnDemand s).pilot.faultIn = s.pilot.faultIn
      ∧ (actOnDemand s).pilot.loadIn = s.pilot.loadIn ∧ (actOnDemand s).pilot.mode = s.pilot.mode
      ∧ (actOnDemand s).pilot.drive = s.pilot.drive ∧ (actOnDemand s).pilot.duty = s.pilot.duty
      ∧ (actOnDemand s).pilot.applied = s.pilot.applied ∧ (actOnDemand s).pilot.phase = s.pilot.phase
      ∧ (actOnDemand s).pilot.meter = s.pilot.meter ∧ (actOnDemand s).pilot.fullScale = s.pilot.fullScale
      ∧ (actOnDemand s).pilot.polarity = s.pilot.polarity ∧ (actOnDemand s).pilot.periodDue = s.pilot.periodDue
      ∧ (actOnDemand s).pilot.faultDue = s.pilot.faultDue ∧ (actOnDemand s).events.filter = s.events.filter
      ∧ (actOnDemand s).events.steering = s.events.steering ∧ (actOnDemand s).events.popping = s.events.popping
      ∧ (actOnDemand s).port = s.port ∧ (actOnDemand s).pending = s.pending := by
  unfold actOnDemand
  simp

@[simp] theorem withPending_keeps (s : State) (queue : List Instr) :
    (State.withPending s queue).pins = s.pins ∧ (State.withPending s queue).mc = s.mc
      ∧ (State.withPending s queue).table = s.table ∧ (State.withPending s queue).alloc = s.alloc
      ∧ (State.withPending s queue).outbox = s.outbox ∧ (State.withPending s queue).line = s.line
      ∧ (State.withPending s queue).time = s.time ∧ (State.withPending s queue).pilot = s.pilot
      ∧ (State.withPending s queue).events = s.events ∧ (State.withPending s queue).port = s.port := ⟨rfl, rfl, rfl, rfl, rfl, rfl, rfl, rfl, rfl, rfl⟩

end Sys2Proof.Machine
end

