-- ==== Sys2Proof/Tests/Slice0.lean ====
section
/-! SUPPORT. Tests: the checks of WellFormed, values the manual works out, and for each statement of
Certificates/Slice0/Obligations.lean that has hypotheses states that meet them, clause by clause. -/

open Sys2Proof Sys2Proof.Machine

namespace Sys2Proof.Tests

/-! ## Builders of small states -/

/-- A settled station 3 of capacity class 3 in a given state, the rest at reset values. -/
def base (st : StationState) : State :=
  refreshSums
    { State.reset with
      mc := { Membership.initial with
        station := st, identity := { number := 3, valid := true, capacityClass := 3, leaseSelect := 0 } }
      pilot := { PilotUnit.initial with stateCopy := st } }

/-- Own held, floor 50 and demand target. -/
def share (held demand : Nat) (s : State) : State :=
  { s with alloc := { s.alloc with share := { s.alloc.share with held := held, floor := 50, demand := demand } } }

def peer (i : Nat) (e : Entry) (s : State) : State :=
  { s with table := { s.table with entries := s.table.entries.set i e } }

def member (held : Nat) : Entry :=
  { Entry.empty with stored := { Stored.empty with status := .member, held := held, floor := 50, holdSeq := 7 } }

def marked (m : Earmark) (expiry : Nat) (e : Entry) : Entry :=
  { e with stored := { e.stored with earmark := some m }, expiry := expiry }

def aged (n : Nat) (e : Entry) : Entry := { e with age := n }
def suspected (e : Entry) : Entry := { e with suspect := true }
def silent (e : Entry) : Entry := { e with stored := { e.stored with status := .silent } }
def joiner (number : Byte) : Entry :=
  { Entry.empty with
    stored := { Stored.empty with
      status := .pendingJoin, floor := 50, earmark := some { kind := .floor, number := number, amount := 50 } } }

/-- An own claim of 100 under number 1. -/
def claimOf (kind : ClaimKind) (phase : Phase) : ClaimRecord :=
  { freshClaim kind 1 100 with phase := phase, roll := if phase = .sending then [] else [1] }

def claiming (c : ClaimRecord) (s : State) : State := { s with alloc := { s.alloc with claim := some c } }

/-- An attempt of two bytes from a slot, `n` of its 16 bits read back as sent. -/
def attempt (slot : SlotId) (n : Nat) (mismatch : Bool) : Attempt :=
  { bytes := [1, 2], slot := slot, sent := n, taken := n, mismatch := mismatch, stopped := false }

def tx (t : Transmitter) (s : State) : State := { s with line := { s.line with tx := t } }

def holdSlot (attempts : Nat) (s : State) : State :=
  { s with outbox := { s.outbox with
      hold := { occupancy := .filled, attempts := attempts, inFlight := s.line.tx.slot? == some .hold, resting := false } } }

def claimSlot (attempts : Nat) (s : State) : State :=
  { s with outbox := { s.outbox with
      claim := { occupancy := .filled, key := some 1, content := some .increase, attempts := attempts,
                 inFlight := s.line.tx.slot? == some .claim } } }

/-- An answer to claim 1 of station 1 in ANSWER slot 0. -/
def answer (a : Answer) : AnswerSlot :=
  { AnswerSlot.empty with occupancy := .filled, key := some (1, 1), content := some a, deadline := some 0 }

def answering (a : AnswerSlot) (s : State) : State :=
  { s with outbox := { s.outbox with answers := s.outbox.answers.set 0 a, answerList := [0] } }

def noted (a : HoldAttempt) (s : State) : State := { s with alloc := { s.alloc with holdAttempt := some a } }

def plainHold : HoldAttempt :=
  { held := 300, floor := 50, localFault := false, openClaim := none, commit := none, afterCut := true }

def due (b : Block) (s : State) : State := { s with time := { s.time with boundaryDue := [b] } }

/-- The frame at the head of those delivered, with the ANSWER slot its header reserved. -/
def heard (x : Nat) (b : FrameBody) (r : Option Nat) (s : State) : State :=
  { s with line := { s.line with inbox := [{ frame := { source := x, body := b }, reservation := r }] } }

def aHold (farewell : Bool) : HoldFields :=
  { seq := 9, held := 200, floor := 50, commit := none, farewell := farewell, localFault := false, openClaim := none }

def asking (s : State) : State := { s with port := { s.port with transaction := .request } }
def queued (q : QueuedRequest) (s : State) : State := { s with port := { s.port with fifo := [q] } }

/-- In RESPONSE with one response byte, owing an effect, SEL_N low. -/
def responding (e : EndEffect) (s : State) : State :=
  { s with pins := { s.pins with selN := false }, port := { s.port with transaction := .response, response := [1], atEnd := e } }

/-- Station 3 in ACTIVE holding 300 of 500 asked for, with station 1 a member holding 200. -/
def act : State := refreshSums (peer 1 (member 200) (share 300 500 (base .active)))

/-- `act` with its HOLD at the last bit of a commit attempt. -/
def committing : State :=
  noted { plainHold with held := 400, commit := some 1 }
    (holdSlot 0 (tx (.sending (attempt .hold 16 false)) (claiming { claimOf .increase .committing with inFlight := true } act)))

/-- `act` with its claim frame on the line, five bits of it taken. -/
def sendingClaim : State :=
  claimSlot 0 (tx (.sending (attempt .claim 5 false)) (claiming (claimOf .increase .sending) act))

/-- `act` with an answer on the line. -/
def sendingAnswer (c : Answer) (n : Nat) (mismatch expired : Bool) : State :=
  tx (.sending (attempt (.answer 0) n mismatch)) (answering { answer c with inFlight := true, expired := expired } act)

/-- The same for a join. -/
def joining : State :=
  noted { plainHold with held := 50, commit := some 1 }
    (holdSlot 0 (tx (.sending (attempt .hold 16 false))
      (claiming { claimOf .floor .committing with amount := 50, inFlight := true } (share 0 500 (base .joining)))))

/-- The kinds of the events that a state holds beyond those of another. -/
def raised (s t : State) : List EventKind := (t.events.queue.drop s.events.queue.length).map (·.kind)

/-! ## Well-formed commands -/

theorem test_wf_unknown_code : (Instr.unknownCommand 0x00).wf = true ∧ (Instr.unknownCommand 0x01).wf = false := by decide

theorem test_wf_boundary_order :
    (Instr.leaseBoundary [.outbox, .allocation]).wf = true ∧ (Instr.leaseBoundary [.outbox, .outbox]).wf = false := by decide

theorem test_wf_upsets :
    (Instr.tick (.issued [⟨1, Stored.empty⟩, ⟨2, Stored.empty⟩] [])).wf = true
      ∧ (Instr.tick (.issued [⟨1, Stored.empty⟩, ⟨1, Stored.empty⟩] [])).wf = false
      ∧ (Instr.tick (.issued [⟨1, { Stored.empty with held := 65536 }⟩] [])).wf = false
      ∧ (Instr.tick (.issued [⟨1, { Stored.empty with floor := 256 }⟩] [])).wf = false
      ∧ (Instr.tick (.issued [⟨1, { Stored.empty with priority := 256 }⟩] [])).wf = false
      ∧ (Instr.tick (.issued [⟨1, { Stored.empty with earmark := some ⟨.floor, 0, 65536⟩ }⟩] [])).wf = false := by decide

theorem test_wf_tick_blocks :
    (Instr.tick (.issued [] [.timeBase, .shareTable])).wf = true ∧ (Instr.tick (.taken [.allocation])).wf = true
      ∧ (Instr.tick (.issued [] [.timeBase, .timeBase])).wf = false
      ∧ (Instr.tick (.taken [.shareTable, .allocation, .shareTable])).wf = false := by decide

/-! ## Values the manual works out -/

/-- The check value of the bytes 01h, 00h (R109's example in section 5.3). -/
theorem test_check_value : checkValue [0x01, 0x00] = 0x0004 := by decide +kernel

/-- The HOLD of station 4 with sequence 17, held 300, floor 60 and no flags, up to its check value (section 12.1). -/
theorem test_hold_bytes :
    (Frame.bytes
      { source := 4
        body := .hold { aHold false with seq := 0x11, held := 300, floor := 60 } }).take 10
      = [0xAA, 0x2D, 0x16, 0x04, 0x11, 0x01, 0x2C, 0x3C, 0x00, 0x00] := by decide

/-- Backoffs of R65's table. -/
theorem test_backoffs : [backoffLength 0 1, backoffLength 7 3, backoffLength 23 4, backoffLength 23 15] = [4, 128, 768, 768] := by
  decide

/-- Switch points of R152. -/
theorem test_switch_points : [switchPoint 500, switchPoint 1] = [2048, 4] := by decide

/-- The sync pattern is AAh then 2Dh in the order their bits are sent (R102). -/
theorem test_sync_pattern : (lineBits [0xAA, 0x2D]).foldl (fun (w : Half) b => (w <<< 1) ||| (if b then 1 else 0)) 0 = syncPattern := by
  decide

/-! ## States that meet the hypotheses, by statement -/

theorem test_meets_O4 :
    (responding .hardReset act).mc.station ≠ .reset ∧ (responding .hardReset act).pins.selN = false
      ∧ (responding .hardReset act).port.transaction = .response ∧ (responding .hardReset act).port.atEnd = .hardReset := by
  decide

/-- With no internal reset left, with one that runs, with a cut mark still driven, outside RESET. -/
theorem test_meets_O5 :
    State.reset.mc.station = .reset ∧ State.reset.pins.internalReset = 0 ∧ State.reset.line.tx = .none ∧ ResetLaw State.reset
      ∧ (enterReset true 1 act).mc.station = .reset ∧ (enterReset true 1 act).pins.internalReset ≠ 0
      ∧ (enterReset true 0 sendingClaim).line.tx ≠ .none ∧ act.mc.station ≠ .reset := by
  unfold ResetLaw; decide

theorem test_meets_O6 :
    act.mc.station ≠ .reset ∧ State.reset.mc.station = .reset ∧ isPeer act 23 = true ∧ act.table.entries.length = 24
      ∧ act.time.tickDue = [] ∧ (∀ b ∈ TickBlock.all, (issueTick act).time.tickDue.contains b = true)
      ∧ (issueTick act).time.tickDue.Nodup
      ∧ act.time.tickDue.contains .timeBase = false := by
  decide

/-- Between the tick at the Share Table and the tick at the Allocation Engine and the Time Base (R137): an earmark's count has
been lowered, an answer's deadline and the millisecond count have not. -/
theorem test_tick_block_by_block :
    let s := tick (.issued [] [.shareTable])
      (answering { answer .assent with deadline := some 24 } (peer 1 (marked ⟨.increase, 1, 100⟩ 64 (member 200)) act))
    ((entryAt s 1).expiry = 63 ∧ (answerAt s 0).deadline = some 24 ∧ s.time.ms = 0)
      ∧ (answerAt (tick (.taken [.allocation]) s) 0).deadline = some 23 ∧ (tick (.taken [.allocation]) s).time.ms = 0
      ∧ (tick (.taken [.timeBase]) s).time.ms = 1 := by decide

/-- The hundredth tick of a 100 ms lease period, and the ninety-ninth. -/
theorem test_meets_O7 :
    act.time.tickDue = [] ∧ act.time.leaseMatch = 0 ∧ act.time.leasePost = 0 ∧ act.mc.identity.leaseSelect = 0 ∧ (99 + 1) % 100 = 0
      ∧ (98 + 1) % 100 ≠ 0 := by decide

theorem test_meets_O8 :
    act.pending = [] ∧ act.time.tickDivider < 4095 ∧ act.line.bits.pos + 1 < act.line.bits.length
      ∧ ({ act.line.bits with pos := 15 } : BitClock).length ≤ 15 + 1 ∧ 0 + 48 < 125 ∧ 125 ≤ 77 + 48
      ∧ ({ act.time with tickDivider := 4095 } : TimeBase).tickDivider = 4095
      ∧ ({ act.time with tickDivider := 4095 } : TimeBase).tickDue = []
      ∧ State.reset.pending = [] ∧ State.reset.mc.station = .reset
      ∧ (enterReset true 5 sendingClaim).line.tx = .marking (attempt .claim 5 false) 16 := by decide

/-- The period that brings a tick, in mid-bit and at the end of a bit time: the bit timing moves in it as in any other. -/
theorem test_meets_O8_tick :
    let s (pos : Nat) : State :=
      { act with time := { act.time with tickDivider := 4095 }
                 line := { act.line with bits := { act.line.bits with pos := pos } } }
    (s 0).pending = [] ∧ (s 0).mc.station ≠ .reset ∧ (s 0).line.bits.pos + 1 < (s 0).line.bits.length
      ∧ (s 15).line.bits.length ≤ (s 15).line.bits.pos + 1
      ∧ (oscPeriod (s 0)).line.bits.pos = 1 ∧ (oscPeriod (s 15)).line.bits.pos = 0
      ∧ (oscPeriod (s 15)).time.ms = 1 := by decide

/-- An ABSENT entry, a MEMBER that is released, one that falls SILENT, one that grows older; and a failed check. -/
theorem test_meets_O9 :
    (due .shareTable act).time.boundaryDue.contains .shareTable = true ∧ act.table.entries.length = 24
      ∧ suspectOnCheck act 2 = false ∧ (entryAt act 2).stored.status = .absent
      ∧ 7 ≤ (entryAt (peer 1 (aged 7 (member 200)) act) 1).age
      ∧ 3 ≤ (entryAt (peer 1 (aged 3 (member 200)) act) 1).age ∧ (entryAt (peer 1 (aged 3 (member 200)) act) 1).age < 7
      ∧ (entryAt act 1).stored.status = .member ∧ (entryAt act 1).age < 3
      ∧ suspectOnCheck (peer 1 { member 200 with parityGood := false } act) 1 = true ∧ isPeer act 1 = true
      ∧ isPeer act 3 = false := by decide

/-- A roll member that falls SILENT at the boundary, with the rest of the roll covered. -/
theorem test_meets_O9_roll :
    let s := due .shareTable (claiming (claimOf .increase .awaiting) (peer 1 (aged 3 (member 200)) act))
    FallsAtBoundary s 1 ∧ ¬ FallsAtBoundary s 2 ∧ s.alloc.claim = some (claimOf .increase .awaiting)
      ∧ 1 ∈ (claimOf .increase .awaiting).roll := by
  unfold FallsAtBoundary; decide

/-- The events of one boundary: a failed check ahead of the release of its entry, a MEMBER that falls SILENT, a failed check
alone; and one that clears OVERCOMMIT. -/
theorem test_meets_O9_events :
    let broken (n : Nat) : Entry := { aged n (member 200) with parityGood := false }
    let s := due .shareTable (peer 1 (broken 7) (peer 2 (aged 3 (member 100)) (peer 5 (broken 0) act)))
    let heavy := due .shareTable (peer 1 (aged 7 (member 1301)) act)
    let set := { heavy with table := { heavy.table with overcommit := true } }
    raised s (leaseBoundary [.shareTable] s) = [.parity, .peerAbsent, .peerSilent, .parity] ∧ sumHeld s ≤ capacity s
      ∧ ((List.range 24).foldl (fun u i => s.boundaryEvent i u) s.events).queue = (leaseBoundary [.shareTable] s).events.queue
      ∧ set.table.overcommit = true ∧ raised set (leaseBoundary [.shareTable] set) = [.peerAbsent, .overcommitClear] := by
  decide +kernel

theorem test_meets_O10 :
    (due .membership act).time.boundaryDue.contains .membership = true
      ∧ ({ Membership.initial with station := .census, census := 1 } : Membership).station = .census
      ∧ ({ Membership.initial with station := .waiting, retry := 3 } : Membership).retry = 3 := by decide

theorem test_meets_O11 :
    (due .allocation act).time.boundaryDue.contains .allocation = true ∧ act.mc.station = .active
      ∧ act.alloc.share.silence < 2 ∧ 2 ≤ ({ act.alloc.share with silence := 2 } : ShareRecord).silence
      ∧ (due .allocation (base .joining)).mc.station = .joining
      ∧ (due .outbox act).time.boundaryDue.contains .outbox = true ∧ act.time.boundaryDue.contains .outbox = false := by
  decide

/-- An earmark at 0 on a MEMBER's and on a joiner's entry, its ASSENT in slot 0; and one not yet due. -/
theorem test_meets_O12 :
    ∀ s ∈ [answering (answer .assent) (peer 1 (marked ⟨.increase, 1, 100⟩ 0 (member 200)) act),
        answering (answer .assent) (peer 1 (joiner 1) act)],
      isPeer s 1 = true ∧ s.table.entries.length = 24 ∧ s.outbox.answers.length = 4 ∧ (entryAt s 1).expiry = 0
        ∧ (entryAt s 1).stored.earmark.isSome = true ∧ answerFor s 1 1 = some 0
        ∧ (answerAt s 0).content = some .assent ∧ (attempt (.answer 0) 5 false).live = true := by decide

theorem test_meets_O13 :
    (∀ c ∈ [{ claimOf .increase .awaiting with window := 0 }, { claimOf .floor .awaiting with window := 0 }],
      c.phase = .awaiting ∧ c.window = 0 ∧ ∃ i ∈ c.roll, i ∉ c.assents)
    ∧ (∀ c ∈ [{ claimOf .increase .committing with deadline := 0 }, { claimOf .floor .committing with deadline := 0 }],
      c.phase = .committing ∧ c.deadline = 0 ∧ c.inFlight = false ∧ c.deadlinePassed = false)
    ∧ (base .joining).mc.station = .joining ∧ committing.alloc.claim.any (fun c => c.inFlight) = true
    ∧ SendsFrom (tx (.sending (attempt .hold 5 true)) committing) .hold (attempt .hold 5 true)
    ∧ committing.outbox.hold.attempts < 15 ∧ committing.alloc.share.held < committing.alloc.share.demand
    ∧ (share 300 300 committing).alloc.share.demand ≤ (share 300 300 committing).alloc.share.held := by
  unfold SendsFrom; decide

theorem test_meets_O14 :
    (∀ a ∈ [answer .assent, answer (.object .noRoom)],
      a.occupancy = .filled ∧ a.deadline = some 0 ∧ a.expired = false ∧ a.inFlight = false ∧ a.key = some (1, 1))
    ∧ (answering (answer .assent) act).outbox.answers.length = 4 ∧ (1 : Nat) < 24
    ∧ ({ answer .assent with inFlight := true } : AnswerSlot).inFlight = true ∧ AnswerSlot.empty.occupancy ≠ .filled := by
  decide

theorem test_meets_O15 :
    let s := { act with time := { act.time with watchdog := { interval := 1, lock := true, remaining := 0 } } }
    s.mc.station ≠ .reset ∧ s.time.watchdog.interval ≠ 0 ∧ s.time.watchdog.remaining = 0
      ∧ act.time.watchdog.interval = 0 := by decide

theorem act_outboxShape : OutboxShape act := by
  unfold OutboxShape
  and_intros
  · decide
  · decide
  · intro a h
    rw [List.eq_of_mem_replicate h]
    rfl
  · decide
  · decide
  · decide
  · intro j hj k _ _ h
    have none_keyed : ∀ j < 4, (answerAt act j).key.isSome = false := by decide
    rw [none_keyed j hj] at h
    contradiction
  · decide
  · decide

theorem act_attemptLaw : AttemptLaw act := by unfold AttemptLaw Attempt.Law; and_intros <;> decide

/-- A station that sends from a slot, its report open; and one whose attempt has been taken to its end. -/
theorem test_meets_O16 :
    OutboxShape sendingClaim ∧ AttemptLaw sendingClaim ∧ sendingClaim.table.entries.length = 24
      ∧ (attempt .claim 5 false).live = true ∧ (attempt .claim 16 false).live = false := by
  refine ⟨?_, ?_, by decide⟩
  · exact ⟨by decide, act_outboxShape.2⟩
  · unfold AttemptLaw Attempt.Law; and_intros <;> decide

/-- `act` with its HOLD on the line, five bits of it taken. -/
def sendingHold : State := noted plainHold (holdSlot 0 (tx (.sending (attempt .hold 5 false)) act))

/-- A HOLD attempt whose report is open, cut on entering a state that keeps no HOLD slot and one that refills it. -/
theorem test_meets_O16_hold :
    OutboxShape sendingHold ∧ AttemptLaw sendingHold ∧ sendingHold.table.entries.length = 24
      ∧ (attempt .hold 5 false).live = true
      ∧ ∀ new ∈ [StationState.detached, .waiting, .census, .fault, .joining, .leaving],
          (changeState new sendingHold).line.tx = .marking (attempt .hold 5 false) 16 := by
  refine ⟨⟨by decide, act_outboxShape.2⟩, ?_, by decide, by decide, by decide +kernel⟩
  unfold AttemptLaw Attempt.Law; and_intros <;> decide

/-- A state change that is reported alone, a SUSPECT entry of wrong parity among the others, and a taken request that the state
reached resolves. -/
theorem test_meets_O17 :
    NoCheckFails (peer 1 { suspected (member 200) with parityGood := false } act) ∧ act.alloc.claim = none
      ∧ act.mc.request.taken = false
      ∧ act.table.overcommit = false ∧ sumHeld act ≤ capacity act ∧ act.table.entries.length = 24
      ∧ sumHeld joining + joining.alloc.share.held ≤ capacity joining
      ∧ ({ first := some .active, taken := true, behind := true } : PendingRequest).taken = true := by
  unfold NoCheckFails; decide

/-- A claim open at a change of state is reported with its kind and STATE_CHANGE, ahead of it by the choice of log 7. -/
theorem test_meets_O17_claim :
    let value (kind : ClaimKind) (new : StationState) :=
      ((changeState new (claiming (claimOf kind .awaiting) act)).events.queue.drop act.events.queue.length).map
        (fun e => (e.kind, e.value))
    NoCheckFails (claiming (claimOf .floor .awaiting) act)
      ∧ value .increase .leaving = [(.claimAbandoned, some 0x010D), (.stateChanged, some 0x0607)]
      ∧ value .floor .detached = [(.claimAbandoned, some 0x000D), (.stateChanged, some 0x0608)]
      ∧ value .floor .joining = [(.stateChanged, some 0x0604)] := by
  unfold NoCheckFails; decide +kernel

theorem test_meets_O18 :
    act.table.overcommit = false ∧ capacity act < sumHeld (peer 1 (member 1301) act)
      ∧ sumHeld (peer 1 (member 1300) act) ≤ capacity act := by decide

/-- OVERCOMMIT set by one share too many, with an INCREASE claim open and own held above the floor: the cut clears it again;
by more than the cut makes good; and cleared at the capacity. -/
theorem test_meets_O18_events :
    let s (held : Nat) := claiming (claimOf .increase .sending) (peer 1 (member held) act)
    let full := { s 1300 with table := { (s 1300).table with overcommit := true } }
    (s 1301).table.overcommit = false ∧ capacity (s 1301) < sumHeld (s 1301)
      ∧ raised (s 1301) (endUpdate (some 1) (s 1301)) = [.overcommitSet, .claimAbandoned, .shareChanged, .overcommitClear]
      ∧ raised (s 1551) (endUpdate (some 1) (s 1551)) = [.overcommitSet, .claimAbandoned, .shareChanged]
      ∧ sumHeld full ≤ capacity full ∧ raised full (endUpdate none full) = [.overcommitClear] := by decide

/-- Every start condition holds with a room of 1 and fails with a room of 0. -/
theorem test_meets_O19 :
    mayStart (refreshSums (peer 1 (member 1299) act)) = true ∧ room (peer 1 (member 1299) act) = 1
      ∧ mayStart (refreshSums (peer 1 (member 1300) act)) = false ∧ (act.table.overcommit = true ↔ capacity act < sumHeld act) := by decide

/-- A backoff at 0 with every other start condition true, and with no room. -/
theorem test_meets_O19_backoff :
    let ended (s : State) : State := { s with alloc := { s.alloc with share := { s.alloc.share with backoff := some 0 } } }
    let s := ended (refreshSums (peer 1 (member 1299) act))
    s.alloc.share.backoff = some 0 ∧ s.mc.station = .active ∧ s.alloc.share.held < s.alloc.share.demand
      ∧ s.alloc.claim = none ∧ s.table.overcommit = false ∧ (∀ e ∈ views s, e.suspect = false)
      ∧ (∀ e ∈ views s, ∀ m ∈ e.stored.earmark, m.kind ≠ .floor) ∧ 1 ≤ s.table.sums.room
      ∧ ¬ 1 ≤ (ended (refreshSums (peer 1 (member 1300) act))).table.sums.room := by decide

/-- A period start due, with a change of the FAULT_IN sample waiting and without, and between two hand-overs. -/
theorem test_meets_O20 :
    let p := { act.pilot with periodDue := 1 }
    0 < p.periodDue ∧ p.faultDue = false ∧ ({ p with faultDue := true } : PilotUnit).faultDue = true ∧ p.former = none
      ∧ act.mc.station ≠ .reset ∧ act.pilot.periodDue = 0
      ∧ (changeState .fenced { act with pilot := p }).pilot.former = some (0, .active)
      ∧ act.pilot.faultDue = false := by decide +kernel

/-- Two ticks that the Pilot Unit takes late, with LOAD_IN asserted and a drive of 5: both reach the meter (R137, R156). -/
theorem test_ticks_taken_late :
    let p := { act.pilot with periodDue := 2, mode := .drive, drive := 5, requested := 5 }
    let start := pilotPeriodStart { faultIn := false, loadIn := true } none
    (start (start { act with pilot := p })).pilot.meter = 10 ∧ (start (start { act with pilot := p })).pilot.periodDue = 0 := by
  decide

/-- A FAULT_IN high at one tick only: each of the two changes is an event and changes the condition, in the step that takes its
sample (R150, R168), and the Allocation Engine takes it with the HOLD slot in the next. -/
theorem test_each_fault_change_is_handed_over :
    let start (f : Bool) := pilotPeriodStart { faultIn := f, loadIn := false } none
    let one := start true { act with pilot := { act.pilot with periodDue := 2 } }
    let two := start false one
    raised act one = [.faultInChanged] ∧ one.events.active.faultIn = true ∧ alertAsserted one.events = true
      ∧ one.outbox.hold.occupancy = .empty ∧ (faultInChange one).outbox.hold.occupancy = .filled
      ∧ raised one two = [.faultInChanged] ∧ two.events.active.faultIn = false ∧ two.outbox.hold.occupancy = .filled := by
  decide

/-- A boundary that falls while a block has still to take the one before (R141). -/
theorem test_boundaries_wait :
    ({ act.time with leaseMatch := 99, boundaryDue := [.outbox] } : TimeBase).leaseTick 0
      = { act.time with leaseMatch := 0, boundaryDue := [.outbox, .shareTable, .membership, .allocation, .outbox] } := by
  decide

/-- Duties of 1, 999 and 1000, on both sides of the switch point. -/
theorem test_meets_O21 :
    ∀ d ∈ [1, 999], (0 < d * 4096 / 1000 ∧ d * 4096 / 1000 ≤ 4095) ∧ act.pilot.phase < 4095 ∧ act.mc.station ≠ .reset := by
  decide

/-- A mark that runs; a claim frame, an answer, expired or not, an ordinary HOLD and a commit attempt, each with its report
open. -/
theorem test_meets_O22 :
    (tx (.marking (attempt .hold 5 false) 16) act).line.tx.slot? = none
      ∧ SendsFrom sendingClaim .claim (attempt .claim 5 false) ∧ (attempt .claim 5 false).live = true
      ∧ (∀ e ∈ [true, false], SendsFrom (sendingAnswer .assent 5 false e) (.answer 0) (attempt (.answer 0) 5 false)
          ∧ (answerAt (sendingAnswer .assent 5 false e) 0).expired = e)
      ∧ SendsFrom (holdSlot 0 (tx (.sending (attempt .hold 5 false)) act)) .hold (attempt .hold 5 false)
      ∧ act.alloc.claim = none
      ∧ SendsFrom (tx (.sending (attempt .hold 5 false)) committing) .hold (attempt .hold 5 false)
      ∧ committing.alloc.claim.any (fun c => c.inFlight) = true ∧ Settled (sendingAnswer .assent 5 false true)
      ∧ (sendingAnswer .assent 5 false true).table.overcommit = false
      ∧ (sendingAnswer .assent 5 false true).table.entries.length = 24 := by
  unfold SendsFrom Settled NoCheckFails; decide

/-- The line available at exactly the access gap, and one bit time short of it; each of the three kinds of slot to choose. -/
theorem test_meets_O23 :
    let open1 (s : State) : State := { s with line := { s.line with idle := 52 } }
    40 + 4 * act.mc.identity.number = 52 ∧ act.line.idle < 52
      ∧ chooseSlot (open1 (answering (answer .assent) (holdSlot 0 act))) = some (.answer 0)
      ∧ chooseSlot (open1 (holdSlot 0 (claimSlot 0 act))) = some .hold ∧ chooseSlot (open1 (claimSlot 0 act)) = some .claim
      ∧ chooseSlot (open1 act) = none ∧ lineAvailable (open1 act) = true ∧ act.line.bits.pos = 0
      ∧ act.line.bits.taken = false ∧ ({ act.line.bits with taken := true } : BitClock).taken = true := by decide

/-- No slot is eligible while the HOLD slot is FILLED and resting, or in flight, and the CLAIM slot empty or in flight. -/
theorem test_meets_O23_none :
    let s : State := { act with line := { act.line with idle := 52 } }
    let hold (h : HoldSlot) : State := { s with outbox := { s.outbox with hold := h } }
    chooseSlot (hold { freshHold with resting := true }) = none ∧ chooseSlot (hold { freshHold with inFlight := true }) = none
      ∧ chooseSlot (hold freshHold) = some .hold
      ∧ s.outbox.claim.occupancy ≠ .filled
      ∧ ({ freshClaimSlot .increase 1 with inFlight := true } : ClaimSlot).inFlight = true := by decide

/-- A commit attempt that starts: the claim commits in this state, and is not in flight. -/
theorem test_meets_O23_commit :
    let s := holdSlot 0 (claiming (claimOf .increase .committing) { act with line := { act.line with idle := 52 } })
    chooseSlot s = some .hold ∧ lineAvailable s = true ∧ (claimOf .increase .committing).CommitsIn s.mc.station
      ∧ (claimOf .increase .committing).inFlight = false ∧ s.outbox.hold.inFlight = false
      ∧ ¬ (claimOf .increase .awaiting).CommitsIn s.mc.station := by
  unfold ClaimRecord.CommitsIn; decide

theorem test_meets_O24 :
    act.alloc.claim = none ∧ (claimOf .increase .committing).CommitsIn .active
      ∧ (claimOf .floor .committing).CommitsIn .joining ∧ (claimOf .increase .awaiting).phase ≠ .committing ∧ (base .leaving).mc.station = .leaving
      ∧ (answerAt (answering (answer (.object .busy)) act) 0).content = some (.object .busy) := by
  unfold ClaimRecord.CommitsIn; decide

/-- Check bits that differ from the value of a shortest frame. -/
theorem test_meets_O26 :
    2 ≤ [0x30, (0x01 : Byte)].length ∧ [0x30, (0x01 : Byte)].length = 2 + (0x30 : Byte).toNat % 16
      ∧ (0x00 : Byte) ++ (0x00 : Byte) ≠ checkValue [0x30, 0x01] := by decide +kernel

theorem test_meets_O27 :
    Frame.wf { source := 23, body := .hold { aHold true with held := 6400, floor := 250, commit := some 255 } } = true
      ∧ Frame.wf { source := 24, body := .assent 23 0 } = false := by decide

theorem test_meets_O28 :
    act.mc.station ≠ .reset ∧ act.line.bits.taken = false ∧ act.line.rx.mode = .hunt ∧ act.line.rx.window ≠ 0x55B4
      ∧ ({ Receiver.hunting with window := 0x55B4 } : Receiver).window = 0x55B4
      ∧ ({ Receiver.hunting with mode := .header, bits := List.replicate 15 true } : Receiver).bits.length = 15
      ∧ ({ Receiver.hunting with mode := .skip, skipLeft := 1 } : Receiver).mode = .skip
      ∧ sendingClaim.line.tx = .sending (attempt .claim 5 false) ∧ (attempt .claim 5 false).live = true
      ∧ (attempt .claim 5 false).bitAt 5 = false ∧ State.reset.mc.station = .reset := by decide

/-- A mark in its last dominant bit time, in its end space before and after the middle, and past it. -/
theorem test_meets_O29 :
    ({ Receiver.hunting with window := 0x55B4 } : Receiver).synced = true ∧ Receiver.hunting.synced = false
      ∧ (tx (.sending { attempt .hold 16 false with bytes := [0xAA, 0x2D, 0x16] }) act).line.tx.slot? = some .hold
      ∧ ({ Receiver.hunting with mode := .skip } : Receiver).skipLeft = 0
      ∧ (attempt .hold 17 false).sent = 8 * (attempt .hold 17 false).bytes.length + 1
      ∧ (attempt .hold 16 false).sent = 8 * (attempt .hold 16 false).bytes.length
      ∧ (attempt .hold 15 false).sent < 8 * (attempt .hold 15 false).bytes.length
      ∧ act.line.bits.pos < 8 ∧ (enterReset true 5 sendingClaim).line.tx ≠ .none ∧ State.reset.line.tx = .none
      ∧ lineDe act = false ∧ lineDe sendingClaim = true := by decide

/-- A BAD header of each class, a complete CLAIM header of station 1, and the slots it meets. -/
theorem test_meets_O30 :
    judgeHeader (lineBits [0x60]) = .bad .format ∧ judgeHeader (lineBits [0x24, 24]) = .bad .source
      ∧ judgeHeader (lineBits [0x24, 1, 1]) = .complete 2 1 1 ∧ judgeHeader (lineBits [0x24, 1]) = .incomplete
      ∧ (answering (answer .assent) act).outbox.answers.findIdx? (fun a => a.key == some (1, 1)) = some 0
      ∧ act.outbox.answers.findIdx? (fun a => a.occupancy == .empty) = some 0 ∧ act.mc.identity.number ≠ 1
      ∧ (∀ a ∈ List.replicate 4 (answer .assent), a.key ≠ some (1, 2) ∧ a.occupancy ≠ .empty) := by decide

/-- A GOOD and a BAD verdict on frames that are in. -/
theorem test_meets_O31 :
    let f : Frame := { source := 1, body := .assent 3 1 }
    let bits := lineBits (f.bytes.drop 2) ++ [true]
    ({ Receiver.hunting with mode := .body, bits := bits } : Receiver).frameIn = true
      ∧ (verdictOf bits).frame? = some f ∧ verdictOf (bits.set 20 true) = .bad .check
      ∧ verdictOf (bits.dropLast ++ [false]) = .bad .ending := by decide +kernel

/-- A GOOD frame of the own number, on a station with nothing else to report. -/
theorem test_meets_O31_duplicate :
    (verdictOf (lineBits ((Frame.bytes { source := 3, body := .assent 1 1 }).drop 2) ++ [true])).frame?
        = some { source := act.mc.identity.number, body := .assent 1 1 }
      ∧ act.mc.station ≠ .monitor ∧ act.mc.duplicate = false ∧ Settled act ∧ act.table.overcommit = false
      ∧ act.table.entries.length = 24 ∧ act.alloc.claim = none ∧ act.mc.request.taken = false := by
  unfold Settled NoCheckFails; decide +kernel

theorem test_meets_O32 :
    let s := noted plainHold (holdSlot 0 (tx (.sending (attempt .hold 16 false)) act))
    s.mc.station = .active ∧ s.alloc.holdAttempt = some plainHold ∧ (s.table.overcommit = true ↔ capacity s < sumHeld s)
      ∧ SendsFrom s .hold (attempt .hold 16 false)
      ∧ (attempt .hold 16 false).taken = 8 * (attempt .hold 16 false).bytes.length ∧ s.alloc.claim = none := by
  unfold SendsFrom; decide

theorem test_meets_O33 :
    committing.mc.station = .active ∧ committing.table.overcommit = false
      ∧ committing.alloc.claim.any (fun c => c.kind == .increase && c.inFlight) = true
      ∧ SendsFrom committing .hold (attempt .hold 16 false)
      ∧ sumHeld committing + 100 ≤ capacity committing ∧ committing.alloc.holdAttempt.isSome = true := by
  unfold SendsFrom; decide

/-- A target at the sum of own held and the amount, one below it, and one below the floor. -/
theorem test_meets_O33_events :
    let s (target : Nat) := share 300 target committing
    raised (s 400) (attemptCompleted (s 400)) = [.claimCommitted]
      ∧ raised (s 399) (attemptCompleted (s 399)) = [.claimCommitted, .shareChanged]
      ∧ (attemptCompleted (s 0)).alloc.share.held = 50 := by decide

theorem test_meets_O34 :
    joining.mc.station = .joining ∧ joining.alloc.claim.any (fun c => c.kind == .floor && c.inFlight) = true
      ∧ SendsFrom joining .hold (attempt .hold 16 false) ∧ joining.alloc.holdAttempt.isSome = true
      ∧ (base .fenced).mc.station = .fenced := by
  unfold SendsFrom; decide

/-- A join's commit with the STATE_REQUEST that asked for it, the floor just within the capacity and just beyond it. -/
theorem test_meets_O34_events :
    let asked (held : Nat) : State := refreshSums (peer 1 (member held)
      { joining with mc := { joining.mc with request := { first := some .active, taken := true, behind := false } } })
    (asked 1550).table.overcommit = false
      ∧ sumHeld (asked 1550) + (asked 1550).alloc.share.floor ≤ capacity (asked 1550)
      ∧ raised (asked 1550) (attemptCompleted (asked 1550)) = [.claimCommitted, .stateChanged, .commandDone]
      ∧ ¬ sumHeld (asked 1551) + (asked 1551).alloc.share.floor ≤ capacity (asked 1551) := by decide

/-- An ANNOUNCE taken to its end whose slot has been emptied meanwhile, in a station with a silence counter of 1. -/
theorem test_meets_O34_announce :
    let a := { attempt .claim 16 false with bytes := [0xAA, 0x2D, 0x34], taken := 24 }
    let s := tx (.sending a) { base .waiting with alloc := { Allocation.initial with
      share := { Allocation.initial.share with silence := 1 } } }
    s.line.tx = .sending a ∧ a.taken = 8 * a.bytes.length ∧ inFlightAt s a.slot = false
      ∧ a.bytes[2]?.map (fun kl => kl.toNat / 16) = some 3 ∧ s.alloc.share.silence ≠ 0
      ∧ (attemptCompleted s).alloc.share.silence = 0 := by decide

/-- An attempt taken to its end whose slot has been emptied meanwhile. -/
theorem test_meets_O34_outlived :
    ∀ q ∈ [SlotId.hold, .claim], let s := noted plainHold (tx (.sending (attempt q 16 false)) act)
      s.line.tx = .sending (attempt q 16 false) ∧ inFlightAt s q = false ∧ s.alloc.holdAttempt = some plainHold := by decide

theorem test_meets_O35 :
    let s := claimSlot 0 (tx (.sending (attempt .claim 16 false)) (claiming (claimOf .increase .sending) act))
    s.alloc.claim = some (claimOf .increase .sending) ∧ anySuspect s = false
      ∧ anySuspect (peer 2 (suspected (member 1)) s) = true ∧ (s.table.overcommit = true ↔ capacity s < sumHeld s)
      ∧ SendsFrom s .claim (attempt .claim 16 false)
      ∧ SendsFrom (sendingAnswer .assent 16 false false) (.answer 0) (attempt (.answer 0) 16 false) := by
  unfold SendsFrom; decide

/-- The fifteenth and the sixteenth attempt of each kind of slot. -/
theorem test_meets_O36 :
    (attempt .claim 3 true).mismatch = true ∧ (claimSlot 14 act).outbox.claim.attempts < 15
      ∧ (claimSlot 15 (claiming (claimOf .increase .sending) act)).outbox.claim.attempts = 15
      ∧ (claimSlot 15 act).outbox.claim.key = some 1 ∧ (holdSlot 14 act).outbox.hold.attempts < 15
      ∧ (holdSlot 15 act).outbox.hold.attempts = 15 ∧ (base .leaving).mc.station = .leaving
      ∧ ({ answer (.object .busy) with attempts := 15 } : AnswerSlot).attempts = 15
      ∧ ({ answer (.object .busy) with expired := true } : AnswerSlot).expired = true
      ∧ act.table.overcommit = false ∧ sumHeld act ≤ capacity act ∧ act.alloc.claim = none
      ∧ (claimOf .increase .committing).deadlinePassed = false
      ∧ SendsFrom (claimSlot 14 (tx (.sending (attempt .claim 3 true)) act)) .claim (attempt .claim 3 true)
      ∧ SendsFrom (holdSlot 14 (tx (.sending (attempt .hold 3 true)) act)) .hold (attempt .hold 3 true)
      ∧ SendsFrom (sendingAnswer (.object .busy) 3 true false) (.answer 0) (attempt (.answer 0) 3 true)
      ∧ inFlightAt (tx (.sending (attempt .hold 3 true)) act) .hold = false := by
  unfold SendsFrom; decide

/-- The sixteenth attempt of an ASSENT whose earmark stands, of an ordinary HOLD and a commit HOLD in ACTIVE, and of a
farewell. -/
theorem test_meets_O36_exhausted :
    let s := refreshSums (tx (.sending (attempt (.answer 0) 3 true))
      (answering { answer .assent with inFlight := true, attempts := 15 } (peer 1 (joiner 1) act)))
    (SendsFrom s (.answer 0) (attempt (.answer 0) 3 true) ∧ (answerAt s 0).attempts = 15 ∧ (answerAt s 0).expired = false
        ∧ isPeer s 1 = true ∧ (entryAt s 1).stored.earmark = some ⟨.floor, 1, 50⟩
        ∧ (entryAt s 1).stored.status = .pendingJoin ∧ Settled s ∧ s.table.overcommit = false)
      ∧ SendsFrom (holdSlot 15 (tx (.sending (attempt .hold 3 true)) act)) .hold (attempt .hold 3 true)
      ∧ (holdSlot 15 (tx (.sending (attempt .hold 3 true)) committing)).alloc.claim.any (fun c => c.inFlight) = true
      ∧ committing.alloc.share.held < committing.alloc.share.demand
      ∧ (∀ st ∈ [StationState.leaving, .fenced],
          SendsFrom (holdSlot 15 (tx (.sending (attempt .hold 3 true)) (base st))) .hold (attempt .hold 3 true)
            ∧ (base st).alloc.claim = none ∧ Settled (base st) ∧ (base st).table.entries.length = 24
            ∧ (base st).table.overcommit = false) := by
  unfold SendsFrom Settled NoCheckFails; decide

/-- The sixteenth collision of a commit attempt whose deadline has passed, and of one whose demand target has dropped. -/
theorem test_meets_O36_commit :
    let late := { claimOf .increase .committing with inFlight := true, deadlinePassed := true }
    let s := holdSlot 15 (tx (.sending (attempt .hold 3 true)) (claiming late act))
    SendsFrom s .hold (attempt .hold 3 true) ∧ s.outbox.hold.attempts = 15 ∧ s.mc.station = .active
      ∧ s.alloc.claim = some late ∧ s.alloc.share.held < s.alloc.share.demand
      ∧ (share 300 300 s).alloc.share.demand ≤ (share 300 300 s).alloc.share.held := by
  unfold SendsFrom; decide

/-- The sixteenth attempt of an ANNOUNCE, and of the commit HOLD of a join. -/
theorem test_meets_O36_join :
    let s := tx (.sending (attempt .hold 3 true)) joining
    SendsFrom s .hold (attempt .hold 3 true) ∧ (holdSlot 15 s).outbox.hold.attempts = 15 ∧ s.mc.station = .joining
      ∧ (claimOf .floor .sending).kind = .floor
      ∧ ({ (claimSlot 15 (base .joining)).outbox.claim with content := some .floor } : ClaimSlot).key
          = some (claimOf .floor .sending).number
      ∧ Settled (base .joining) ∧ (base .joining).table.entries.length = 24 ∧ (base .joining).mc.request.taken = false := by
  unfold SendsFrom Settled NoCheckFails; decide

/-- A collision of an attempt whose OBJECT, fifteen attempts spent, has been rewritten as ASSENT: the new answer keeps its count,
at 0 as at 15, and goes only if it has expired. -/
theorem test_meets_O36_rewritten :
    let worn : AnswerSlot := { answer (.object .busy) with inFlight := true, attempts := 15 }
    let s := writeAnswer 0 1 1 .assent false (tx (.sending (attempt (.answer 0) 3 true)) (answering worn act))
    let t (a : AnswerSlot) := attemptCollided (answering a s)
    SendsFrom s (.answer 0) (attempt (.answer 0) 3 true) ∧ (answerAt s 0).rewritten = true ∧ (answerAt s 0).expired = false
      ∧ (answerAt s 0).inFlight = true ∧ answerAt (t (answerAt s 0)) 0 = { answer .assent with deadline := some 24 }
      ∧ (answerAt (t { answerAt s 0 with attempts := 15 }) 0).attempts = 15
      ∧ raised s (t { answerAt s 0 with attempts := 15 }) = []
      ∧ answerAt (t { answerAt s 0 with expired := true }) 0 = AnswerSlot.empty
      ∧ answerAt (t { answerAt s 0 with attempts := 15, rewritten := false }) 0 = AnswerSlot.empty := by
  unfold SendsFrom; decide +kernel

/-- A HOLD that commits the earmark on its entry, one that keeps it open, one that drops it. -/
theorem test_meets_O37 :
    let s := refreshSums
      (heard 1 (.hold (aHold false)) none (answering (answer .assent) (peer 1 (marked ⟨.increase, 1, 100⟩ 3 (member 201)) act)))
    (aHold false).farewell = false ∧ isPeer s 1 = true ∧ s.table.entries.length = 24 ∧ suspectOnCheck s 1 = false
      ∧ Settled s ∧ s.table.overcommit = false ∧ sumHeld s + (aHold false).held ≤ capacity s
      ∧ (aHold false).held < (entryAt s 1).stored.held ∧ answerFor s 1 1 = some 0
      ∧ allowanceFor { aHold false with commit := some 1 } (entryAt s 1).stored.earmark = 100 := by
  unfold Settled NoCheckFails; decide

/-- A HOLD of 200 more that just fits, and one that sets OVERCOMMIT, for a trusted entry and for a SUSPECT one. -/
theorem test_meets_O37_O38_overcommit :
    let s (other : Nat) (e : Entry) :=
      refreshSums (heard 1 (.hold (aHold false)) none (peer 1 e (peer 2 (member other) act)))
    let t (other : Nat) (e : Entry) := holdReceived (s other e)
    (s 1101 (member 100)).table.overcommit = false ∧ Settled (s 1101 (member 100))
      ∧ capacity act < sumHeld { s 1101 (member 100) with table := (t 1101 (member 100)).table }
      ∧ sumHeld { s 1100 (member 100) with table := (t 1100 (member 100)).table } ≤ capacity act
      ∧ raised (s 1101 (member 100)) (t 1101 (member 100))
          = [.peerOverdraw, .overcommitSet, .shareChanged, .overcommitClear]
      ∧ raised (s 1100 (member 100)) (t 1100 (member 100)) = [.peerOverdraw]
      ∧ ((t 1101 (member 100)).events.queue[1]?.bind (·.station)) = some 1
      ∧ capacity act < sumHeld
          { s 1101 (suspected (member 100)) with table := (t 1101 (suspected (member 100))).table }
      ∧ raised (s 1101 (suspected (member 100))) (t 1101 (suspected (member 100)))
          = [.overcommitSet, .shareChanged, .overcommitClear] := by
  unfold Settled NoCheckFails; decide +kernel

/-- A HOLD of 3300 from a member that held 3000, which fits only in the place of the old held; one taken while OVERCOMMIT is
set, which it clears if the sum then fits; and the same for a SUSPECT entry. -/
theorem test_meets_O37_O38_events :
    let big := { act with mc := { act.mc with identity := { act.mc.identity with capacityClass := 15 } } }
    let grown : HoldFields := { aHold false with held := 3300, localFault := true }
    let s (set : Bool) (other : Nat) (e : Entry) :=
      let u := refreshSums (heard 1 (.hold grown) none (peer 1 e (peer 2 (member other) big)))
      { u with table := { u.table with overcommit := set } }
    let kinds (set : Bool) (other : Nat) (e : Entry) := raised (s set other e) (holdReceived (s set other e))
    capacity big < sumHeld (s false 1700 (member 3000)) + 3300 ∧ Settled (s false 1700 (member 3000))
      ∧ sumHeld { s false 1700 (member 3000) with table := (holdReceived (s false 1700 (member 3000))).table } ≤ capacity big
      ∧ kinds false 1700 (member 3000) = [.peerOverdraw, .peerFault]
      ∧ kinds true 1700 (member 3000) = [.peerOverdraw, .peerFault, .overcommitClear]
      ∧ kinds true 2801 (member 3000) = [.peerOverdraw, .peerFault]
      ∧ kinds true 2800 (suspected (member 3000)) = [.overcommitClear]
      ∧ kinds true 2801 (suspected (member 3000)) = [] ∧ kinds false 2800 (suspected (member 3000)) = [] := by
  unfold Settled NoCheckFails; decide +kernel

theorem test_meets_O38 :
    let s := heard 1 (.hold (aHold false)) none (peer 1 { member 200 with parityGood := false } act)
    suspectOnCheck s 1 = true ∧ isPeer s 1 = true ∧ s.table.entries.length = 24 ∧ s.table.overcommit = false
      ∧ sumHeld s + 200 ≤ capacity s := by decide

theorem test_meets_O39 :
    let s := heard 1 (.hold (aHold true)) none (claiming (claimOf .increase .awaiting) act)
    (aHold true).farewell = true ∧ isPeer s 1 = true ∧ s.table.entries.length = 24
      ∧ (s.table.overcommit = true ↔ capacity s < sumHeld s) ∧ s.table.overcommit = false
      ∧ (entryAt s 1).stored.status ≠ .absent ∧ (entryAt s 2).stored.status = .absent
      ∧ (∀ i ∈ (claimOf .increase .awaiting).roll, i = 1 ∨ i ∈ (claimOf .increase .awaiting).assents)
      ∧ act.line.inbox = [] ∧ 1 ∈ (claimOf .increase .awaiting).roll
      ∧ ({ s.table with overcommit := true } : ShareTable).overcommit = true := by decide

/-- Each row of R72 in its turn. -/
theorem test_meets_O40 :
    announceRow act 2 50 4 0 = some .mismatch
      ∧ announceRow (peer 4 (suspected (member 1)) act) 2 50 3 0 = some .suspect
      ∧ announceRow (peer 4 (silent (member 1)) act) 2 50 3 0 = some .silentPeer
      ∧ announceRow (claiming (claimOf .increase .sending) act) 2 50 3 0 = some .busy
      ∧ announceRow act 2 1501 3 0 = some .floorsFull ∧ announceRow act 2 1500 3 0 = none
      ∧ ceilingFor act 2 50 = 50 + 1450 / 3 ∧ ceilingFor act 2 1500 < act.alloc.share.held
      ∧ NoCheckFails (peer 4 { suspected (member 1) with parityGood := false } act) ∧ sumHeld act ≤ capacity act
      ∧ (entryAt act 1).stored.status ≠ .absent ∧ (base .waiting).mc.station ≠ .active
      ∧ 2 ∈ ({ claimOf .increase .awaiting with roll := [2] } : ClaimRecord).roll := by
  unfold NoCheckFails; decide

/-- A check that fails at the decision on an ANNOUNCE: of another entry, after the joiner's return to ABSENT, and of the joiner's
own; with straps that agree and with straps that do not. -/
theorem test_meets_O40_parity :
    let broken : Entry := { member 1 with parityGood := false }
    let s (i : Nat) (cls : Nat) := heard 1 (.announce 5 50 1 cls 0) (some 0) (peer i broken act)
    let answerOf (i cls : Nat) := (answerAt (announceReceived (s i cls)) 0).content
    DecidedAt (s 4 3) 1 5 (some 0) 0 ∧ suspectOnCheck (s 4 3) 4 = true ∧ suspectOnCheck (s 1 3) 1 = true
      ∧ suspectOnCheck (s 4 3) 1 = false ∧ sumHeld (s 4 3) ≤ capacity (s 4 3) ∧ (s 4 3).table.overcommit = false
      ∧ raised (s 4 3) (announceReceived (s 4 3)) = [.peerRejoined, .parity]
      ∧ raised (s 1 3) (announceReceived (s 1 3)) = [.parity]
      ∧ answerOf 4 3 = some (.object .suspect) ∧ answerOf 1 3 = some (.object .suspect)
      ∧ answerOf 4 2 = some (.object .mismatch) ∧ raised (s 4 2) (announceReceived (s 4 2)) = [.parity] := by
  unfold DecidedAt
  decide +kernel

/-- The joiner's entry and the events beside an OBJECT: a MEMBER that rejoins, one whose straps differ, with an earmark of the
claim's number and with another's, a PENDING_JOIN entry that does not rejoin, and an ABSENT one; OVERCOMMIT set before. -/
theorem test_meets_O40_entry :
    let s (e : Entry) (cls : Nat) := refreshSums (heard 1 (.announce 5 50 1 cls 0) (some 0)
      (peer 1 e (peer 4 (silent (member 1)) act)))
    let mine : Entry := marked ⟨.increase, 5, 100⟩ 9 (member 200)
    let inOvercommit (s : State) := { s with table := { s.table with overcommit := true } }
    DecidedAt (s mine 3) 1 5 (some 0) 0 ∧ NoCheckFails (s mine 3)
      ∧ announceRow (s mine 3) 1 50 3 0 = some .silentPeer ∧ announceRow (s mine 2) 1 50 2 0 = some .mismatch
      ∧ entryAt (announceReceived (s mine 3)) 1
          = { Entry.empty with stored := { Stored.empty with holdSeq := 7 } }
      ∧ entryAt (announceReceived (s mine 2)) 1 = member 200
      ∧ (marked ⟨.increase, 6, 100⟩ 9 (member 200)).without 5 = marked ⟨.increase, 6, 100⟩ 9 (member 200)
      ∧ entryAt (announceReceived (s (joiner 5) 2)) 1 = Entry.empty
      ∧ raised (s mine 3) (announceReceived (s mine 3)) = [.peerRejoined]
      ∧ raised (s mine 2) (announceReceived (s mine 2)) = []
      ∧ raised (s Entry.empty 3) (announceReceived (s Entry.empty 3)) = []
      ∧ raised (inOvercommit (s mine 3)) (announceReceived (inOvercommit (s mine 3))) = [.peerRejoined, .overcommitClear] := by
  unfold DecidedAt NoCheckFails; decide +kernel

/-- A reserved slot that still holds the key, and one that has been emptied; no slot reserved, and the reserved slot taken
by another claim. -/
theorem test_meets_O40_slot :
    DecidedAt (answering { AnswerSlot.empty with occupancy := .reserved, key := some (2, 1) } act) 2 1 (some 0) 0
      ∧ DecidedAt act 2 1 (some 3) 3 ∧ NotDecided act 2 1 none
      ∧ NotDecided (answering (answer .assent) act) 2 1 (some 0) := by
  unfold DecidedAt NotDecided
  refine ⟨by decide, by decide, by decide, Or.inr ⟨by decide, ?_⟩⟩
  rintro k ⟨⟩
  decide

/-- A joiner whose floor asks for a cut, on an ABSENT entry and on one that starts anew, and one whose floor asks for none. -/
theorem test_meets_O40_squeeze :
    let s (j floor : Nat) := heard j (.announce 5 floor 1 3 0) (some 0) act
    act.table.overcommit = false ∧ announceRow (s 2 1500) 2 1500 3 0 = none ∧ announceRow (s 1 1550) 1 1550 3 0 = none
      ∧ raised (s 2 1500) (announceReceived (s 2 1500)) = [.squeezed]
      ∧ raised (s 1 1550) (announceReceived (s 1 1550)) = [.peerRejoined, .squeezed]
      ∧ raised (s 2 50) (announceReceived (s 2 50)) = [] := by decide +kernel

/-- Each row of R69 in its turn, at its boundary. -/
theorem test_meets_O41 :
    let s := refreshSums (share 300 300 act)
    Settled s ∧ claimBar s 2 = some .notMember
      ∧ claimBar (peer 4 (suspected (member 1)) s) 1 = some .suspect
      ∧ claimBar { s with table := { s.table with overcommit := true } } 1 = some .noRoom
      ∧ claimBar (peer 2 (joiner 1) s) 1 = some .busy ∧ claimBar s 1 = none
      ∧ roomWithout s 1 = 1100 ∧ roomWithout (claiming (claimOf .increase .awaiting) s) 1 = 1000
      ∧ (claimOf .increase .awaiting).kind = .increase ∧ s.alloc.share.priority < 1 ∧ 1 < s.mc.identity.number := by
  unfold Settled NoCheckFails; decide

/-- A check that fails at the decision on a CLAIM: of another entry, and of the source's own. -/
theorem test_meets_O41_parity :
    let broken : Entry := { member 1 with parityGood := false }
    let s (i : Nat) := heard 1 (.claim 5 10 2) (some 0) (peer i broken act)
    DecidedAt (s 4) 1 5 (some 0) 0 ∧ suspectOnCheck (s 4) 4 = true ∧ suspectOnCheck (s 4) 1 = false
      ∧ suspectOnCheck (s 1) 1 = true ∧ sumHeld (s 4) ≤ capacity (s 4) ∧ (s 4).table.overcommit = false
      ∧ (answerAt (claimReceived (s 4)) 0).content = some (.object .suspect)
      ∧ (answerAt (claimReceived (s 1)) 0).content = some (.object .notMember)
      ∧ raised (s 4) (claimReceived (s 4)) = [.parity] ∧ raised (s 1) (claimReceived (s 1)) = [.parity] := by
  unfold DecidedAt
  decide +kernel

/-- The source's entry beside each answer: an OBJECT of the first rows and NO_ROOM take the claim's earmark away, ASSENT and the
yield's ASSENT place it, and each leaves the priority of the CLAIM. -/
theorem test_meets_O41_entry :
    let mine : Entry := marked ⟨.increase, 5, 100⟩ 9 (member 200)
    let withPriority (e : Entry) : Entry := { e with stored := { e.stored with priority := 2 } }
    let s (amount : Nat) (u : State) := refreshSums (heard 1 (.claim 5 amount 2) (some 0) (peer 1 mine u))
    let after (amount : Nat) (u : State) := claimReceived (s amount u)
    let own := claiming (claimOf .increase .awaiting) act
    let higher := { own with alloc := { own.alloc with share := { own.alloc.share with priority := 3 } } }
    claimBar (s 10 (peer 2 (joiner 1) act)) 1 = some .busy ∧ claimBar (s 10 act) 1 = none
      ∧ entryAt (after 10 (peer 2 (joiner 1) act)) 1 = withPriority (member 200)
      ∧ entryAt (after 1101 act) 1 = withPriority (member 200)
      ∧ entryAt (after 1100 act) 1 = withPriority (marked ⟨.increase, 5, 1100⟩ 64 (member 200))
      ∧ entryAt (after 1100 own) 1 = withPriority (marked ⟨.increase, 5, 1100⟩ 64 (member 200))
      ∧ entryAt (after 1101 own) 1 = withPriority (member 200)
      ∧ raised (s 1101 own) (after 1101 own) = [.claimAbandoned] ∧ (after 1101 own).alloc.claim = none
      ∧ raised (s 1100 higher) (after 1100 higher) = [] ∧ (after 1100 higher).alloc = higher.alloc
      ∧ entryAt (after 1100 higher) 1 = withPriority (member 200) := by decide +kernel

theorem test_meets_O42 :
    let c := { claimOf .increase .awaiting with roll := [1, 5] }
    c.phase = .awaiting ∧ 1 ∈ c.roll ∧ 1 ∉ c.assents ∧ (∃ i ∈ c.roll, i ≠ 1 ∧ i ∉ c.assents)
      ∧ (∀ i ∈ (claimOf .increase .awaiting).roll, i = 1 ∨ i ∈ (claimOf .increase .awaiting).assents)
      ∧ (claimOf .increase .sending).phase ≠ .awaiting := by decide

theorem test_meets_O43 :
    let s := answering (answer .assent) (peer 1 (joiner 1) act)
    holdsEarmark s 1 1 = true ∧ answerFor s 1 1 = some 0 ∧ (∀ j < 4, j ≠ 0 → (answerAt s j).key ≠ some (1, 1))
      ∧ s.table.entries.length = 24 ∧ holdsEarmark act 3 1 = false ∧ answerFor act 3 1 = none
      ∧ (claiming (claimOf .floor .awaiting) (base .joining)).alloc.claim = some (claimOf .floor .awaiting)
      ∧ (claimOf .increase .awaiting).number = 1 ∧ (attempt (.answer 0) 5 false).live = true
      ∧ answerFor (answering (answer (.object .busy)) act) 1 1 = some 0
      ∧ holdsEarmark (answering (answer (.object .busy)) act) 1 1 = false ∧ act.alloc.claim = none := by decide

/-- What an OBJECT leaves of the claimant's entry: of a MEMBER with an INCREASE earmark, of one whose check fails, and of a
PENDING_JOIN one that is SUSPECT; the slot of another claim and the own share stay. -/
theorem test_meets_O43_entry :
    let mine : Entry := marked ⟨.increase, 5, 100⟩ 9 (member 200)
    let s (e : Entry) := refreshSums (heard 2 (.object 1 5 .noRoom) none
      (answering (answer .assent) (claiming (claimOf .increase .awaiting) (peer 1 e act))))
    let after (e : Entry) := objectReceived (s e)
    holdsEarmark (s mine) 1 5 = true ∧ answerFor (s mine) 1 5 = none ∧ sumHeld (s mine) ≤ capacity (s mine)
      ∧ entryAt (after mine) 1 = member 200 ∧ entryAt (after { mine with parityGood := false }) 1 = suspected (member 200)
      ∧ entryAt (after (suspected (joiner 5))) 1 = suspected Entry.empty
      ∧ raised (s mine) (after mine) = []
      ∧ raised (s { mine with parityGood := false }) (after { mine with parityGood := false }) = [.parity]
      ∧ (after mine).outbox.answers = (s mine).outbox.answers ∧ (after mine).alloc = (s mine).alloc := by decide +kernel

/-- The last bit but one and the last bit of a response of one byte. -/
theorem test_meets_O44 :
    ∀ e ∈ [EndEffect.none, .pop, .meterClear 5, .snapshotDelivered],
      (responding e act).port.transaction = .response ∧ (responding e act).pins.selN = false
        ∧ 7 < 8 * (responding e act).port.response.length ∧ 8 * (responding e act).port.response.length ≤ 8
        ∧ (responding e act).port.atEnd = e ∧ act.pins.selN = true ∧ act.port.transaction = .idle := by decide

/-- Bits taken from SDI: five of a first byte, a byte and three bits, and a request's but its last. -/
theorem test_transaction_bits :
    (act.port.shiftIn (List.replicate 5 false)).bits.length = 5
      ∧ act.port.shiftIn (portBits [0x12] ++ [true, false, true]) = { act.port with request := [0x12], bits := [true, false, true] }
      ∧ act.port.shiftIn (portBits [0x02, 0xFF]) = { act.port with bits := (portBits [0x02]).take 7 } := by decide

/-- A transaction that begins with bits given on SDI, and the bits of the next transaction left. -/
theorem test_transaction_sdi :
    (transactionStart { act with pins := { act.pins with sdi := [portBits [0x12] ++ [true], [false]] } }).port.request = [0x12]
      ∧ (transactionStart { act with pins := { act.pins with sdi := [portBits [0x12] ++ [true], [false]] } }).port.bits = [true]
      ∧ (transactionStart { act with pins := { act.pins with sdi := [portBits [0x12] ++ [true], [false]] } }).pins.sdi
        = [[false]] := by decide

/-- A request heard from its first bit on, and one of which a byte and a bit have been taken; one that is not heard in RESET,
out of a transaction, and where another has begun. -/
theorem test_meets_O45 :
    (∀ b ∈ [[1], [2], [3], [4], [5], [9], [7, 23], [8, 1]], Hears (asking act) b)
      ∧ Hears { asking act with port := { (asking act).port with request := [0x12], bits := [false] } } [0x12, 0, 5]
      ∧ (asking act).outbox.answers.length = 4 ∧ (23 : Byte).toNat < 24
      ∧ (asking act).port.snapshot = none ∧ (keepCopy (asking act)).port.snapshot.isSome = true := by
  unfold Hears; decide

/-- Four ANSWER slots, an event at the head of the queue, and the bytes of it, of a MEMBER entry and of the status record. -/
theorem test_meets_O45_records :
    let s := raise .faultInChanged none none (some 1) act
    s.outbox.answers = [AnswerSlot.empty, AnswerSlot.empty, AnswerSlot.empty, AnswerSlot.empty]
      ∧ headBytes s.events = [1, 0, 25, 0x15, 0, 0, 0, 1, 0, 0]
      ∧ (marked ⟨.increase, 1, 300⟩ 64 (member 500)).bytes = [2, 1, 0xF4, 50, 0, 7, 0, 0, 0, 2, 1, 1, 0x2C, 64]
      ∧ (statusBytes s).take 16 = [3, 1, 3, 6, 0x40, 0, 6, 0, 0, 0, 0xFF, 0xFF, 0, 0, 1, 0x2C]
      ∧ (statusBytes s).drop 72 = [0, 0, 1, 1, 0, 0, 0, 0, 0, 0, 0, 0, 0xFF, 0xFF, 0, 0, 0, 0, 0, 0, 0, 0, 0, 0] := by
  decide +kernel

theorem test_meets_O46 :
    (∀ b ∈ [[10], [7, 24], [8, 2], [0x11, 3]], Hears (asking act) b) ∧ (0x0A : Byte) ∉ requestCodes
      ∧ 24 ≤ (24 : Byte).toNat ∧ ¬ Hears act [1] ∧ ¬ Hears State.reset [1]
      ∧ ¬ Hears { asking act with port := { (asking act).port with bits := [true] } } [1] := by
  unfold Hears; decide

/-- The bytes of a claim record with stations 0, 9 and 23 on its roll. -/
theorem test_claim_record_bytes :
    claimBytes (some { claimOf .increase .awaiting with roll := [0, 9, 23], assents := [9] })
      = [1, 1, 1, 0, 100, 1, 0x80, 2, 1, 0, 2, 0, 0, 24, 48, 3, 1, 0] := by decide

theorem test_meets_O47 :
    Hears (asking act) [6] ∧ ({ act.port with snapRequest := .started } : Port).snapRequest = .started ∧ act.port.snapRequest = .none
      ∧ (keepCopy act).port.snapRequest = .ready ∧ (keepCopy act).port.snapshot.isSome = true
      ∧ act.table.entries.length = 24 ∧ sumHeld act ≤ capacity act ∧ isPeer act 3 = false := by
  unfold Hears; decide

/-- A FIFO of seven and of eight, with and without a DEMAND; each shape of the pending-request record. -/
theorem test_meets_O48 :
    (List.replicate 7 (QueuedRequest.stateRequest .active)).length < 8
      ∧ (∀ q ∈ List.replicate 8 (QueuedRequest.stateRequest .active), q.isDemand = false)
      ∧ (∃ q ∈ [QueuedRequest.demand 5], q.isDemand = true) ∧ act.mc.request.first = none
      ∧ ({ first := some .active, taken := true, behind := false } : PendingRequest).behind = false
      ∧ Hears (asking act) [0x12, 0, 5] ∧ Hears (asking act) [0x11, 2]
      ∧ Hears (asking act) (0x10 :: recordBytes ⟨0, 0, 100, 0, 0, 0, 0⟩) := by
  unfold Hears; decide

theorem test_meets_O49 :
    (0x0A : Byte) ∉ requestCodes ∧ [(0x05 : Byte)] <+: [0x05] ∧ requestOf [0x05] = some .eventPop := by decide

/-- A record at the ends of its ranges, one beyond each end, and the lock set. -/
theorem test_meets_O50 :
    let r : ConfigRecord :=
      { floor := 250, priority := 3, fullScale := 6400, polarity := 1, watchdog := 0, filter := 0x7F, steering := 0x2AAA }
    (recordInRange r).isSome = true ∧ recordInRange { r with floor := 251 } = none
      ∧ recordInRange { r with priority := 4 } = none ∧ recordInRange { r with fullScale := 6401 } = none
      ∧ recordInRange { r with fullScale := 99 } = none ∧ recordInRange { r with polarity := 2 } = none
      ∧ recordInRange { r with steering := 0x3000 } = none
      ∧ (queued (.configure r) (base .offline)).port.fifo = [.configure r] ∧ (base .offline).mc.station = .offline := by
  decide

theorem test_meets_O51 :
    (queued (.stateRequest .active) (base .fenced)).port.fifo = [.stateRequest .active]
      ∧ (base .waiting).alloc.claim = none ∧ Settled (base .waiting) ∧ (base .waiting).table.overcommit = false
      ∧ (base .fenced).mc.configured = false ∧ (base .monitor).mc.request.taken = false
      ∧ (∀ n ∈ [1, 2], let s := queued (.stateRequest .active) (base .offline)
          let c := { s with mc := { s.mc with configured := true, census := n } }
          c.port.fifo = [.stateRequest .active] ∧ c.mc.station = .offline ∧ c.mc.configured = true ∧ c.mc.census = n) := by
  unfold Settled NoCheckFails; decide

theorem test_meets_O52 :
    (queued (.demand 6401) act).port.fifo = [.demand 6401] ∧ 6400 < (6401 : Half).toNat ∧ (6400 : Half).toNat ≤ 6400
      ∧ (300 : Half).toNat ≤ act.alloc.share.held ∧ (299 : Half).toNat < act.alloc.share.held
      ∧ (act.table.overcommit = true ↔ capacity act < sumHeld act) := by decide

/-- A target at own held and one below it, with an INCREASE claim open, and one below the floor with OVERCOMMIT set. -/
theorem test_meets_O52_events :
    let s (target : Half) := queued (.demand target) (claiming (claimOf .increase .awaiting) act)
    let full := { queued (.demand 49) (peer 1 (member 1550) act) with
      table := { (peer 1 (member 1550) act).table with overcommit := true } }
    raised (s 300) (demandTaken (s 300)) = [.commandDone, .claimAbandoned]
      ∧ raised (s 299) (demandTaken (s 299)) = [.commandDone, .claimAbandoned, .shareChanged]
      ∧ raised (s 301) (demandTaken (s 301)) = [.commandDone]
      ∧ (full.table.overcommit = true ↔ capacity full < sumHeld full)
      ∧ raised full (demandTaken full) = [.commandDone, .shareChanged, .overcommitClear] := by decide

def entry (kind : EventKind) : Event :=
  { seq := 0, kind := kind, station := none, claim := none, value := none, time := 0, lossBefore := false }

/-- An event unit that holds `n` entries of a kind. -/
def holding (kind : EventKind) (n : Nat) : EventUnit := { EventUnit.initial with queue := List.replicate n (entry kind) }

/-- An event taken with 63 and with 64 entries queued, at sequence number 255, and of a class that is refused. -/
theorem test_meets_O54_take :
    let u (n : Nat) : EventUnit := { holding .parity n with nextSeq := 255 }
    let deaf : EventUnit := { u 63 with filter := { (u 63).filter with table := false } }
    let take (u : EventUnit) := u.take .parity (some 1) none none 7
    (u 63).filter.get EventKind.parity.cls = true ∧ deaf.filter.get EventKind.parity.cls = false
      ∧ (take (u 63)).queue.length = 64 ∧ (take (u 63)).queue.head?.map (·.lossBefore) = some false
      ∧ (take (u 64)).queue.length = 64 ∧ (take (u 64)).queue.head?.map (·.lossBefore) = some true
      ∧ (take (u 64)).queue.getLast?.map (·.seq) = some 255 ∧ (take (u 64)).nextSeq = 0 ∧ take deaf = deaf := by
  decide +kernel

/-- ATTN_N and ALERT_N by the class of an entry, at 31 and at 32 entries, and by a condition acknowledged and not. -/
theorem test_meets_O54_lines :
    let u (kind : EventKind) (n : Nat) := holding kind n
    let fenced (u : EventUnit) : EventUnit := { u with active := { u.active with fenced := true } }
    attnAsserted (u .commandDone 31) = false ∧ attnAsserted (u .commandDone 32) = true
      ∧ attnAsserted (u .peerSilent 1) = true ∧ alertAsserted (u .peerSilent 1) = false
      ∧ alertAsserted (u .parity 1) = true ∧ attnAsserted (u .parity 31) = false
      ∧ alertAsserted (fenced (u .parity 0)) = true ∧ alertAsserted (fenced (u .parity 0)).acknowledge = false
      ∧ State.reset.mc.station = .reset ∧ attnAsserted State.reset.events = false := by decide

/-- The laws hold of an ACTIVE station with a member beside it, which takes a step. -/
theorem test_meets_O54_to_O59 :
    (EventLaw act ∧ ConditionLaw act ∧ DriveLaw act ∧ HoldingLaw act ∧ SumsLaw act ∧ OutboxLaw act ∧ RequestLaw act
      ∧ CountLaw act ∧ ResetLaw act ∧ ShapeLaw act) ∧ ∃ t, step act = .next t := by
  refine ⟨⟨?_, ?_, ?_, ⟨?_, ?_, ?_⟩, ?_, ⟨?_, ?_, act_outboxShape, act_attemptLaw, ?_⟩, ?_, ?_, ?_, ?_⟩, _, rfl⟩
  all_goals
    first
    | decide
    | unfold EventLaw; and_intros <;> decide
    | unfold ConditionLaw AlertSet.within; decide
    | unfold DriveLaw; decide
    | unfold ShareLaw; and_intros <;> decide
    | exact (by decide : act.mc.station ≠ .joining)
    | exact fun h => absurd h (by decide)
    | unfold SlotLaw; decide
    | exact (rfl : act.outbox.claim = ClaimSlot.empty)
    | unfold SumsLaw; decide
    | unfold RequestLaw; decide
    | unfold CountLaw; decide
    | unfold ShapeLaw; decide

/-- Own held after a command. -/
def heldAfter (c : Instr) (s : State) : Nat :=
  match exec c s with
  | .next t => t.alloc.share.held
  | .fault _ | .refused _ => 0

theorem test_meets_O60 :
    heldAfter .attemptCompleted committing = 400 ∧ heldAfter .attemptCompleted joining = 50 := by decide

end Sys2Proof.Tests
end

section
/-! PROOFS. The bits and bytes of the feeder line (R101) and the check value (R109). -/

namespace Sys2Proof.Machine

/-! ## Bytes as line bits, and back -/

/-- The number that `byteOfBits` reads off the line has each bit at its place in line order. -/
theorem testBit_lsbNumber (bs : List Bool) (i : Nat) :
    (bs.foldr (fun (b : Bool) n => 2 * n + b.toNat) 0).testBit i = bs.getD i false := by
  induction bs generalizing i with
  | nil => simp
  | cons b bs ih =>
    rw [List.foldr_cons, ← Nat.bit_val]
    cases i with
    | zero => simp
    | succ i => simpa [Nat.testBit_bit_succ] using ih i

theorem getLsbD_byteOfBits (bs : List Bool) (i : Nat) :
    (byteOfBits bs).getLsbD i = (decide (i < 8) && bs.getD i false) := by
  rw [← testBit_lsbNumber]
  exact BitVec.getLsbD_ofNat ..

theorem bitsLsb_eq_map (b : Byte) : bitsLsb b = (List.range 8).map b.getLsbD := rfl

@[simp] theorem length_bitsLsb (b : Byte) : (bitsLsb b).length = 8 := rfl

@[simp] theorem byteOfBits_bitsLsb (b : Byte) : byteOfBits (bitsLsb b) = b := by
  refine BitVec.eq_of_getLsbD_eq fun i hi => ?_
  have bit_in_order : (bitsLsb b).getD i false = b.getLsbD i := by simp [bitsLsb_eq_map, hi]
  rw [getLsbD_byteOfBits, bit_in_order, decide_eq_true hi, Bool.true_and]

@[simp] theorem lineBits_cons (b : Byte) (bytes : List Byte) : lineBits (b :: bytes) = bitsLsb b ++ lineBits bytes := rfl

@[simp] theorem lineBits_append (xs ys : List Byte) : lineBits (xs ++ ys) = lineBits xs ++ lineBits ys :=
  List.flatMap_append

@[simp] theorem length_lineBits (bytes : List Byte) : (lineBits bytes).length = 8 * bytes.length := by
  induction bytes with
  | nil => rfl
  | cons b bytes ih => simp [ih]; omega

/-- Whatever follows them, the bits of some bytes are read back as those bytes. -/
theorem bytesOfBits_lineBits_append (bytes : List Byte) (rest : List Bool) :
    bytesOfBits bytes.length (lineBits bytes ++ rest) = bytes := by
  induction bytes with
  | nil => rfl
  | cons b bytes ih =>
    rw [List.length_cons, bytesOfBits, lineBits_cons, List.append_assoc, List.take_left' (length_bitsLsb b),
      List.drop_left' (length_bitsLsb b), byteOfBits_bitsLsb, ih]

theorem drop_lineBits_append (bytes : List Byte) (rest : List Bool) :
    (lineBits bytes ++ rest).drop (8 * bytes.length) = rest :=
  List.drop_left' (length_lineBits bytes)

theorem byteOfBits_take_lineBits_append {bytes : List Byte} (rest : List Bool) (hne : bytes ≠ []) :
    byteOfBits ((lineBits bytes ++ rest).take 8) = bytes.headD 0 := by
  obtain ⟨b, bytes, rfl⟩ := List.exists_cons_of_ne_nil hne
  rw [lineBits_cons, List.append_assoc, List.take_left' (length_bitsLsb b), byteOfBits_bitsLsb, List.headD_cons]

/-! ## A 16-bit number as two bytes, high byte first -/

theorem halfBytes_toNat (v : Half) : halfBytes v.toNat = [v.extractLsb' 8 8, v.extractLsb' 0 8] := by
  have high : byteOf (v.toNat / 256) = v.extractLsb' 8 8 := by
    simp [byteOf, BitVec.extractLsb', Nat.shiftRight_eq_div_pow]
  have low : byteOf v.toNat = v.extractLsb' 0 8 := by
    simp [byteOf, BitVec.extractLsb']
  rw [halfBytes, high, low]

theorem append_eq_of_halfBytes {hi lo : Byte} {v : Half} (h : [hi, lo] = halfBytes v.toNat) : hi ++ lo = v := by
  rw [halfBytes_toNat] at h
  obtain ⟨rfl, rfl⟩ : hi = v.extractLsb' 8 8 ∧ lo = v.extractLsb' 0 8 := by simpa using h
  exact (BitVec.extractLsb'_append_extractLsb'_eq_extractLsb' rfl).trans BitVec.extractLsb'_eq_self

/-! ## The check register -/

/-- One bit of the check register, its most significant bit written as bit 15. -/
theorem checkBit_eq (r : Half) (bit : Bool) :
    checkBit r bit = if r.getLsbD 15 != bit then (r <<< 1) ^^^ 0x8005#16 else r <<< 1 := by
  rw [checkBit, BitVec.msb_eq_getLsbD_last]
  rfl

theorem checkValue_append_singleton (bytes : List Byte) (b : Byte) :
    checkValue (bytes ++ [b]) = (List.range 8).foldl (fun r i => checkBit r (b.getLsbD i)) (checkValue bytes) := by
  have last_byte : checkValue (bytes ++ [b]) = (bitsLsb b).foldl checkBit (checkValue bytes) := by
    simp [checkValue, lineBits]
  rw [last_byte, bitsLsb_eq_map, List.foldl_map]

/-! ## The verdict on received check bits -/

/-- Where the kind-and-length byte gives the length of the bytes before the check field, the receiver computes its check
value over exactly those bytes and compares it with the next two (R102, R109). -/
theorem verdictOf_bad_check {covered : List Byte} {hi lo : Byte} (rest : List Bool)
    (hlen : covered.length = 2 + lengthOf (covered.headD 0)) (hne : [hi, lo] ≠ halfBytes (checkValue covered).toNat) :
    verdictOf (lineBits (covered ++ [hi, lo]) ++ rest) = .bad .check := by
  have nonempty : covered ≠ [] := List.ne_nil_of_length_pos (by omega)
  have after_covered : lineBits (covered ++ [hi, lo]) ++ rest = lineBits covered ++ (lineBits [hi, lo] ++ rest) := by
    simp
  have computed : bytesOfBits covered.length (lineBits covered ++ (lineBits [hi, lo] ++ rest)) = covered :=
    bytesOfBits_lineBits_append ..
  have sent : bytesOfBits 2 (lineBits [hi, lo] ++ rest) = [hi, lo] := bytesOfBits_lineBits_append [hi, lo] rest
  simp only [verdictOf, after_covered, byteOfBits_take_lineBits_append _ nonempty, ← hlen, computed, drop_lineBits_append,
    sent]
  exact if_pos hne

/-! ## The check value, sent and compared -/

/-- Settles O26: the register bit by bit from `checkBit_eq`, the frame's end from `halfBytes_toNat`, and the verdict from
`verdictOf_bad_check`. -/
theorem checkValueIsTheStatedRegister : Obligations.CheckValueIsTheStatedRegister := by
  refine ⟨rfl, fun bytes b => ?_, fun f => ⟨?_, ?_⟩, fun covered hi lo rest _ hlen hne => ?_⟩
  · simp only [checkValue_append_singleton, checkBit_eq]
  · rw [Frame.bytes, halfBytes_toNat]
  · rw [Frame.checked, Nat.mul_comm]
    rfl
  · exact verdictOf_bad_check rest hlen fun hsent => hne (append_eq_of_halfBytes hsent)

end Sys2Proof.Machine
end

section
/-! PROOFS. The wave on PILOT (R152): the level as mode, duty, polarity and phase give it, and one OSC_IN period of it. -/

namespace Sys2Proof.Machine

/-! ## The rows of the wave -/

/-- PILOT carries the level `high` where it is active, and the other one at rest: `high` is the active level of the applied
polarity. -/
theorem pilotPin_of_polarity {high : Bool} {s : State} (hpol : high = (s.pilot.applied == .inverted)) :
    pilotPin s = if s.pilot.active then high else !high := by
  subst hpol
  unfold pilotPin
  cases s.pilot.applied <;> cases s.pilot.active <;> rfl

theorem pilotPin_eq_active {high : Bool} {s : State} (hpol : high = (s.pilot.applied == .inverted))
    (hact : s.pilot.active = true) : pilotPin s = high := by
  rw [pilotPin_of_polarity hpol, if_pos hact]

theorem pilotPin_eq_rest {high : Bool} {s : State} (hpol : high = (s.pilot.applied == .inverted))
    (hrest : s.pilot.active = false) : pilotPin s = !high := by
  rw [pilotPin_of_polarity hpol, hrest, if_neg Bool.false_ne_true]

theorem PilotUnit.active_idle {p : PilotUnit} (h : p.mode = .idle) : p.active = false := by
  rw [PilotUnit.active, h]

theorem PilotUnit.active_fence {p : PilotUnit} (h : p.mode = .fence) : p.active = true := by
  rw [PilotUnit.active, h]

/-- In DRIVE the pin is active at the full duty, and at any duty below the switch point. -/
theorem PilotUnit.active_drive_iff {p : PilotUnit} (h : p.mode = .drive) :
    p.active = true ↔ p.duty = 1000 ∨ p.phase < p.duty * 4096 / 1000 := by
  rw [PilotUnit.active, h, switchPoint]
  simp

theorem PilotUnit.active_drive_eq_false_iff {p : PilotUnit} (h : p.mode = .drive) :
    p.active = false ↔ p.duty ≠ 1000 ∧ p.duty * 4096 / 1000 ≤ p.phase := by
  rw [← Bool.not_eq_true, PilotUnit.active_drive_iff h, not_or, Nat.not_lt]

/-! ## One OSC_IN period of the Pilot Unit -/

/-- The tick issued is due at the Pilot Unit beside those it has still to take (R151; log 4). -/
@[simp] theorem issueTick_pilot (s : State) :
    (issueTick s).pilot = { s.pilot with periodDue := s.pilot.periodDue + 1 } := rfl

/-- Issuing a tick is one more period start that the Pilot Unit has still to take (R137, R151), and nothing else to it: the
storage failures of the millisecond and the blocks that take the tick leave it as it was. -/
theorem tick_issued_pilot (upsets : List Upset) (blocks : List TickBlock) {s : State} (h : s.mc.station ≠ .reset) :
    (tick (.issued upsets blocks) s).pilot = { s.pilot with periodDue := s.pilot.periodDue + 1 } := by
  simp [tick, h]

/-- One OSC_IN period outside RESET (R136, R152): the phase count rises up to its top, and where the period brings a tick, a
period start is due. -/
theorem oscPeriod_pilot {s : State} (h : s.mc.station ≠ .reset) :
    (oscPeriod s).pilot =
      { s.pilot with
        phase := min (s.pilot.phase + 1) 4095
        periodDue := if 4096 ≤ s.time.tickDivider + 1 then s.pilot.periodDue + 1 else s.pilot.periodDue } := by
  have running : (runningPeriod s).mc.station ≠ .reset := h
  rw [oscPeriod, if_neg h, Config.tickPeriods]
  split
  case isTrue => exact tick_issued_pilot [] TickBlock.all running
  case isFalse => rfl

/-! ## Mode, duty, polarity and phase on the pin -/

/-- Settles O21: each row of the wave from what `PilotUnit.active` says of its mode, and the phase count from
`oscPeriod_pilot`. -/
theorem pilotPinCarriesModeAndDuty : Obligations.PilotPinCarriesModeAndDuty := by
  refine ⟨fun high s hpol => ⟨fun hidle => ?_, fun hfence => ?_, fun hdrive hzero => ?_, fun hdrive hfull => ?_,
    fun hdrive hlow hhigh => ⟨fun hbelow => ?_, fun hpast => ?_⟩⟩, fun s hrun hphase => ?_⟩
  · exact pilotPin_eq_rest hpol (PilotUnit.active_idle hidle)
  · exact pilotPin_eq_active hpol (PilotUnit.active_fence hfence)
  · exact pilotPin_eq_rest hpol ((PilotUnit.active_drive_eq_false_iff hdrive).2 (by omega))
  · exact pilotPin_eq_active hpol ((PilotUnit.active_drive_iff hdrive).2 (Or.inl hfull))
  · exact pilotPin_eq_active hpol ((PilotUnit.active_drive_iff hdrive).2 (Or.inr hbelow))
  · exact pilotPin_eq_rest hpol ((PilotUnit.active_drive_eq_false_iff hdrive).2 ⟨by omega, hpast⟩)
  · rw [oscPeriod_pilot hrun]
    exact ⟨Nat.min_eq_left hphase, rfl, rfl, rfl⟩

end Sys2Proof.Machine
end

section
/-! PROOFS. A step as a function (log 1, log 2): every command answers a next state, and a law is kept by every step
once it is
kept by each command and by one OSC_IN period. -/

namespace Sys2Proof.Machine

/-! ## The state that a command leads to -/

/-- The state that a command leads to; `exec_eq_effect` ties it to `exec`. -/
def effect (c : Instr) (s : State) : State :=
  match c with
  | .rstNAsserted => rstNAsserted s
  | .powerUp => powerUp s
  | .resetEnd straps => resetEnd straps s
  | .cutMarkEnd => cutMarkEnd s
  | .tick event => tick event s
  | .leaseBoundary order => leaseBoundary order s
  | .earmarkExpiry station => earmarkExpiry station s
  | .responseWindowPassed => responseWindowPassed s
  | .commitDeadlinePassed => commitDeadlinePassed s
  | .backoffEnd => backoffEnd s
  | .answerDeadline slot => answerDeadline slot s
  | .watchdogExpired => watchdogExpired s
  | .pilotPeriodStart levels between => pilotPeriodStart levels between s
  | .faultInChange => faultInChange s
  | .txInhibitAsserted => txInhibitAsserted s
  | .txInhibitDeasserted => txInhibitDeasserted s
  | .lineOffer => lineOffer s
  | .attemptCompleted => attemptCompleted s
  | .attemptCollided => attemptCollided s
  | .frameHeader => frameHeader s
  | .skipEnd => skipEnd s
  | .frameVerdict => frameVerdict s
  | .holdReceived => holdReceived s
  | .farewellReceived => farewellReceived s
  | .announceReceived => announceReceived s
  | .claimReceived => claimReceived s
  | .assentReceived => assentReceived s
  | .objectReceived => objectReceived s
  | .transactionStart => transactionStart s
  | .transactionEnd shifted => transactionEnd shifted s
  | .unknownCommand code => decoded (.unknownCommand code) (unknownCommand code) s
  | .status => decoded .status statusRequest s
  | .feed => decoded .feed feed s
  | .ackAlert => decoded .ackAlert ackAlert s
  | .eventPeek => decoded .eventPeek eventPeek s
  | .eventPop => decoded .eventPop eventPop s
  | .snapshot => decoded .snapshot snapshotRequest s
  | .snapshotTaken => snapshotTaken s
  | .entryRead n => decoded (.entryRead n) (entryRead n) s
  | .meterRead flag => decoded (.meterRead flag) (meterRead flag) s
  | .hardReset => decoded .hardReset hardReset s
  | .configure record => decoded (.configure record) (configureArrives record) s
  | .stateRequest target => decoded (.stateRequest target) (stateRequestArrives target) s
  | .demand target => decoded (.demand target) (demandArrives target) s
  | .configureTaken => configureTaken s
  | .stateRequestActiveTaken => stateRequestActiveTaken s
  | .stateRequestDetachedTaken => stateRequestDetachedTaken s
  | .demandTaken => demandTaken s
  | .syncPatternMatch => syncPatternMatch s
  | .lineBitTaken recessive => lineBitTaken recessive s
  | .lineRxEdge => lineRxEdge s

theorem exec_eq_effect (c : Instr) (s : State) : exec c s = .next (effect c s) := by cases c <;> rfl

theorem effect_eq_of_exec {c : Instr} {s t : State} (h : exec c s = .next t) : effect c s = t :=
  Host.Outcome.next.inj ((exec_eq_effect c s).symm.trans h)

theorem step_nil {s : State} (h : s.pending = []) : step s = .next (oscPeriod s) := by rw [step, h]

theorem step_cons {s : State} {c : Instr} {rest : List Instr} (h : s.pending = c :: rest) :
    step s = exec c (s.withPending rest) := by rw [step, h]

/-- A law that the commands and the OSC_IN period keep, and that does not read the queue, is kept by every step. -/
theorem step_keeps {P : State → Prop} (queue : ∀ s rest, P s → P (s.withPending rest))
    (period : ∀ s, P s → P (oscPeriod s)) (command : ∀ c s, P s → P (effect c s)) (s t : State) (hs : P s)
    (h : step s = .next t) : P t := by
  cases hp : s.pending with
  | nil =>
    rw [step_nil hp] at h
    exact Host.Outcome.next.inj h ▸ period s hs
  | cons c rest =>
    rw [step_cons hp] at h
    exact effect_eq_of_exec h ▸ command c _ (queue s rest hs)

/-- Settles O1. -/
theorem stepRunsTheFrontCommand : Obligations.StepRunsTheFrontCommand := fun _ _ _ => step_cons rfl

end Sys2Proof.Machine
end

section
/-! PROOFS. Laws that every elementary update keeps: one induction over the operations of the station, shared by all
laws that
no operation breaks on its way. -/

namespace Sys2Proof.Machine

/-! ## The elementary updates -/

/-- The ranges of the Line Interface's counts (R100, R107, R110). -/
def LineInterface.Counts (l : LineInterface) : Prop :=
  l.idle ≤ 255 ∧ l.rx.skipLeft ≤ 97 ∧ l.bits.acc < 125 ∧ (l.bits.length = 16 ∨ l.bits.length = 17)
    ∧ l.bits.pos < l.bits.length

/-- The ranges of the Time Base's counts (R136, R140, R142). -/
def TimeBase.Counts (t : TimeBase) : Prop :=
  t.tickDivider < 4096 ∧ t.leaseMatch < 100 ∧ t.leasePost < 10 ∧ t.watchdog.interval ≤ 255
    ∧ t.watchdog.remaining ≤ 10 * t.watchdog.interval ∧ (t.watchdog.lock = true ↔ t.watchdog.interval ≠ 0)

/-- The ranges of the Pilot Unit's counts (R148, R151). -/
def PilotUnit.Counts (p : PilotUnit) : Prop :=
  p.phase < 4096 ∧ p.duty ≤ 1000 ∧ 100 ≤ p.fullScale ∧ p.fullScale ≤ 6400

/-- `P` is kept by every elementary update of the state but a change of station state and of the join-retry count.
Each field is
one kind of update that the operations are made of, with what it is sure to leave as it was. -/
structure StableCore (P : State → Prop) : Prop where
  raise : ∀ {s} kind station claim value, P s → P (raise kind station claim value s)
  table : ∀ {s} (t : ShareTable), t.entries.length = s.table.entries.length → t.overcommit = s.table.overcommit → P s →
    P { s with table := t }
  alloc : ∀ {s} (a : Allocation), a.share.held = s.alloc.share.held → a.share.lastTx = s.alloc.share.lastTx →
    a.share.demand = s.alloc.share.demand → P s → P { s with alloc := a }
  held : ∀ {s} n, n ≤ s.alloc.share.held → P s → P (setHeld n s)
  drive : ∀ {s}, P s → P (recomputeDrive s)
  outbox : ∀ {s} (o : Outbox), P s → P { s with outbox := o }
  line : ∀ {s} (l : LineInterface), (s.line.Counts → l.Counts) → P s → P { s with line := l }
  pins : ∀ {s} (p : Pins), P s → P { s with pins := p }
  port : ∀ {s} (p : Port), p.fifo = s.port.fifo → P s → P { s with port := p }
  time : ∀ {s} (t : TimeBase), (s.time.Counts → t.Counts) → (s.time.tickDue.Nodup → t.tickDue.Nodup) → P s →
    P { s with time := t }
  pilot : ∀ {s} (p : PilotUnit), p.requested = s.pilot.requested → p.stateCopy = s.pilot.stateCopy →
    p.faultIn = s.pilot.faultIn → p.faultDue = s.pilot.faultDue → (s.pilot.Counts → p.Counts) → P s →
      P { s with pilot := p }
  faultTaken : ∀ {s}, P s → P (recomputeDrive { s with pilot := { s.pilot with faultDue := false } })
  mc : ∀ {s} (m : Membership), m.station = s.mc.station → m.duplicate = s.mc.duplicate → m.request = s.mc.request →
    m.retry = s.mc.retry → (s.mc.census ≤ 2 → m.census ≤ 2) → P s → P { s with mc := m }
  events : ∀ {s} (u : EventUnit), u.queue = s.events.queue → u.nextSeq = s.events.nextSeq → u.active = s.events.active →
    u.acked = s.events.acked → P s → P { s with events := u }
  acknowledge : ∀ {s}, P s → P { s with events := s.events.acknowledge }
  finishPop : ∀ {s}, P s → P { s with events := s.events.finishPop }
  suspectPresent : ∀ {s} b, P s → P (setCondition .suspectPresent b s)
  overcommit : ∀ {s} b, P s → P (markOvercommit b s)
  duplicate : ∀ {s}, P s → P (markDuplicate s)
  request : ∀ {s}, s.mc.request.taken = true → P s → P (setRequest s.mc.request.next s)
  period : ∀ {s} levels between, s.pilot.faultDue = false → P s → P (startPeriod levels between s)

/-- `P` is kept by every elementary update, and by these as wholes: a change of station state, the raising of the
join-retry count
with the join that it brings (R36), the share record's part of a HOLD completion (R85), the taking of a DEMAND (R80). -/
structure Stable (P : State → Prop) : Prop where
  core : StableCore P
  change : ∀ {s} new, new ≠ .reset → P s → P (changeState new s)
  retry : ∀ {s}, P s → P (joinIfDue (raiseRetry s))
  note : ∀ {s} a, P s → P (noteHold a s)
  demand : ∀ {s} target, P s → P (takeDemand target s)

/-- `P` is kept by the commits of the own claim (R34, R59), in which alone own held rises. -/
structure Commits (P : State → Prop) : Prop where
  increase : ∀ {s} c, P s → P (commitIncrease c s)
  join : ∀ {s} c, P s → P (commitJoin c s)

variable {P : State → Prop} {s : State}

theorem foldl_stable {α : Type} {f : State → α → State} (hf : ∀ s a, P s → P (f s a)) (l : List α) (h : P s) :
    P (l.foldl f s) := by
  induction l generalizing s with
  | nil => exact h
  | cons a l ih => exact ih (hf s a h)

/-! ## Counts that move -/

theorem BitClock.start_counts (b : BitClock) (h : b.acc < 125) :
    b.start.acc < 125 ∧ (b.start.length = 16 ∨ b.start.length = 17) ∧ b.start.pos < b.start.length := by
  unfold BitClock.start
  split <;> dsimp only <;> omega

theorem LineInterface.nextBit_counts (l : LineInterface) (h : l.Counts) : l.nextBit.Counts :=
  ⟨h.1, h.2.1, BitClock.start_counts _ h.2.2.1⟩

theorem LineInterface.untaken_counts (l : LineInterface) (h : l.Counts) : l.untaken.Counts := by
  unfold LineInterface.untaken
  split
  · exact l.nextBit_counts h
  · exact h

theorem LineInterface.edge_counts (l : LineInterface) (h : l.Counts) : l.edge.Counts := by
  unfold LineInterface.edge
  split
  · exact l.nextBit_counts h
  · exact ⟨h.1, h.2.1, BitClock.start_counts _ h.2.2.1⟩

theorem LineInterface.period_counts (l : LineInterface) (h : l.Counts) : l.period.Counts := by
  unfold LineInterface.period
  split
  · exact l.nextBit_counts h
  · rename_i hlast
    obtain ⟨idle, skip, acc, length, _⟩ := h
    exact ⟨idle, skip, acc, length, Nat.lt_of_not_le hlast⟩

theorem LineInterface.release_counts (l : LineInterface) (h : l.Counts) : l.release.Counts := by
  unfold LineInterface.release
  split <;> exact h

theorem idleAfter_le (idle : Nat) (recessive : Bool) (mode : RxMode) (tx : Transmitter) :
    idleAfter idle recessive mode tx ≤ 255 := by
  unfold idleAfter
  split
  · exact Nat.min_le_right _ _
  · exact Nat.zero_le _

theorem Receiver.takeBit_skipLeft_le (r : Receiver) (recessive : Bool) (tx : Transmitter) :
    (r.takeBit recessive tx).skipLeft ≤ r.skipLeft := by
  unfold Receiver.takeBit
  split
  · exact Nat.le_refl _
  · exact Nat.sub_le _ _
  · exact Nat.le_refl _
  · exact Nat.le_refl _

theorem Receiver.afterSync_skipLeft (r : Receiver) (tx : Transmitter) : (r.afterSync tx).skipLeft = r.skipLeft := by
  unfold Receiver.afterSync
  split <;> rfl

theorem LineInterface.takeBit_counts (recessive : Bool) (l : LineInterface) (h : l.Counts) :
    (l.takeBit recessive).Counts := by
  obtain ⟨_, skip, acc, length, pos⟩ := h
  refine ⟨idleAfter_le .., ?_, acc, length, ?_⟩
  · have := Receiver.takeBit_skipLeft_le (l.rx.afterSync l.tx) recessive (l.tx.compare recessive)
    rw [Receiver.afterSync_skipLeft] at this
    exact Nat.le_trans this skip
  · simp only [LineInterface.takeBit, BitClock.take]
    omega

theorem timeBase_leaseTick_counts (lease : Nat) (t : TimeBase) (hp : t.leasePost < 10) :
    (t.leaseTick lease).leaseMatch < 100 ∧ (t.leaseTick lease).leasePost < 10 := by
  have postscaler : postscalerCount lease ≤ 10 := by unfold postscalerCount; split <;> decide
  unfold TimeBase.leaseTick
  split
  · exact ⟨‹_›, hp⟩
  split
  · dsimp only; omega
  · dsimp only; omega

theorem timeBase_tick_counts {lease : Nat} (t : TimeBase) (h : t.Counts) : (t.tick lease).Counts := by
  obtain ⟨divider, _, hp, interval, remaining, lock⟩ := h
  obtain ⟨hm', hp'⟩ := timeBase_leaseTick_counts lease t hp
  have divider' : (t.leaseTick lease).tickDivider < 4096 := by simpa using divider
  refine ⟨divider', hm', hp', ?_⟩
  simp only [TimeBase.tick, Watchdog.tick]
  split
  · exact ⟨interval, remaining, lock⟩
  · exact ⟨interval, Nat.le_trans (Nat.sub_le _ _) remaining, lock⟩

theorem Watchdog.configured_counts (w : Watchdog) (interval : Byte)
    (h : w.interval ≤ 255 ∧ w.remaining ≤ 10 * w.interval ∧ (w.lock = true ↔ w.interval ≠ 0)) :
    (w.configured interval).interval ≤ 255 ∧ (w.configured interval).remaining ≤ 10 * (w.configured interval).interval
      ∧ ((w.configured interval).lock = true ↔ (w.configured interval).interval ≠ 0) := by
  unfold Watchdog.configured
  split
  · exact h
  · rename_i hne
    have hpos : interval.toNat ≠ 0 := fun h0 => hne (BitVec.eq_of_toNat_eq h0)
    exact ⟨Nat.le_of_lt_succ interval.isLt, Nat.le_refl _, by simp [hpos]⟩

theorem recordInRange_fullScale {r : ConfigRecord} {p : Polarity × PerClass Steer} (h : recordInRange r = some p) :
    100 ≤ r.fullScale.toNat ∧ r.fullScale.toNat ≤ 6400 := by
  unfold recordInRange at h
  split at h
  · rename_i hr
    exact hr.2.2
  · simp at h

/-! ## The shared operations (Machine/Ops.lean) -/

section
variable (hP : StableCore P)
include hP

theorem modEntry_stable (i : Nat) (f : Entry → Entry) (h : P s) : P (modEntry i f s) :=
  hP.table _ (List.length_modify ..) rfl h

theorem checkParity_stable (i : Nat) (h : P s) : P (checkParity i s) := by
  unfold checkParity
  split
  · exact hP.raise _ _ _ _ (modEntry_stable hP _ _ h)
  · exact h

theorem checkAllParity_stable (h : P s) : P (checkAllParity s) :=
  foldl_stable (fun _ i => checkParity_stable hP i) _ h

theorem removeEarmark_stable (i : Nat) (h : P s) : P (removeEarmark i s) := by
  unfold removeEarmark
  split
  · exact modEntry_stable hP _ _ (checkParity_stable hP _ h)
  · exact h

theorem removeAllEarmarks_stable (h : P s) : P (removeAllEarmarks s) :=
  foldl_stable (fun _ i => removeEarmark_stable hP i) _ h

theorem cutAttempt_stable (slot : SlotId) (h : P s) : P (cutAttempt slot s) := hP.line _ id h

theorem emptyHold_stable (h : P s) : P (emptyHold s) := cutAttempt_stable hP _ (hP.outbox _ h)

theorem emptyClaim_stable (h : P s) : P (emptyClaim s) := cutAttempt_stable hP _ (hP.outbox _ h)

theorem emptyAnswer_stable (k : Nat) (h : P s) : P (emptyAnswer k s) := cutAttempt_stable hP _ (hP.outbox _ h)

theorem refillHold_stable (h : P s) : P (refillHold s) := cutAttempt_stable hP _ (hP.outbox _ h)

theorem withdrawAssent_stable (x : Nat) (n : Byte) (h : P s) : P (withdrawAssent x n s) := by
  unfold withdrawAssent
  split
  · split
    · exact emptyAnswer_stable hP _ h
    · exact h
  · exact h

theorem dropEarmark_stable (x : Nat) (h : P s) : P (dropEarmark x s) := by
  unfold dropEarmark
  split
  · split
    · exact withdrawAssent_stable hP _ _ (removeEarmark_stable hP _ h)
    · exact h
  · exact h

theorem dropSlotEarmark_stable (k : Nat) (h : P s) : P (dropSlotEarmark k s) := by
  unfold dropSlotEarmark
  split
  · split
    · exact removeEarmark_stable hP _ h
    · exact h
  · exact h

theorem dropReservations_stable (h : P s) : P (dropReservations s) := hP.line _ id h

theorem discardAnswers_stable (h : P s) : P (discardAnswers s) :=
  dropReservations_stable hP (foldl_stable (fun _ k h => emptyAnswer_stable hP k (dropSlotEarmark_stable hP k h)) _ h)

theorem requestHold_stable (h : P s) : P (requestHold s) := by
  unfold requestHold
  split
  · exact hP.outbox _ h
  · exact h

theorem setShare_stable (r : ShareRecord) (hh : r.held = s.alloc.share.held) (hl : r.lastTx = s.alloc.share.lastTx)
    (hd : r.demand = s.alloc.share.demand) (h : P s) : P (setShare r s) := hP.alloc _ hh hl hd h

theorem setClaim_stable (c : Option ClaimRecord) (h : P s) : P (setClaim c s) := hP.alloc _ rfl rfl rfl h

theorem countFailure_stable (h : P s) : P (countFailure s) := setShare_stable hP _ rfl rfl rfl h

theorem lowerHeld_stable (n : Nat) (hn : n ≤ s.alloc.share.held) (h : P s) : P (lowerHeld n s) :=
  requestHold_stable hP (hP.raise _ _ _ _ (hP.held _ hn h))

theorem decrease_stable (h : P s) : P (decrease s) := by
  unfold decrease
  split
  · rename_i hlow
    exact lowerHeld_stable hP _ (Nat.max_le.2 ⟨Nat.le_of_lt hlow.2.1, Nat.le_of_lt hlow.2.2⟩) h
  · exact h

theorem removeClaim_stable (h : P s) : P (removeClaim s) := emptyClaim_stable hP (setClaim_stable hP _ h)

theorem countIf_stable (b : Bool) (h : P s) : P (countIf b s) := by
  unfold countIf
  split
  · exact countFailure_stable hP h
  · exact h

theorem abandonClaim_stable (reason : EndReason) (h : P s) : P (abandonClaim reason s) := by
  unfold abandonClaim
  split
  · exact h
  · exact countIf_stable hP _ (removeClaim_stable hP (hP.raise _ _ _ _ h))

theorem abandonIncrease_stable (reason : EndReason) (h : P s) : P (abandonIncrease reason s) := by
  unfold abandonIncrease
  split
  · exact abandonClaim_stable hP _ h
  · exact h

theorem enterCommitting_stable (h : P s) : P (enterCommitting s) := requestHold_stable hP (setClaim_stable hP _ h)

theorem commitIfCovered_stable (h : P s) : P (commitIfCovered s) := by
  unfold commitIfCovered
  split
  · exact enterCommitting_stable hP h
  · exact h

theorem strikeOff_stable (i : Nat) (h : P s) : P (strikeOff i s) := by
  unfold strikeOff
  split
  · exact commitIfCovered_stable hP (setClaim_stable hP _ h)
  · exact h

theorem report_stable (r : Resolution) (h : P s) : P (report r s) :=
  hP.raise _ _ _ _ (hP.mc _ rfl rfl rfl rfl id h)

theorem resolveFirst_stable (result : CommandResult) (ht : s.mc.request.taken = true) (h : P s) :
    P (resolveFirst result s) := report_stable hP _ (hP.request ht h)

theorem resolveReached_stable (h : P s) : P (resolveReached s) := by
  unfold resolveReached
  split
  · rename_i ht
    split
    iterate 5 exact resolveFirst_stable hP _ ht h
    exact h
  · exact h

theorem refreshSums_stable (h : P s) : P (refreshSums s) := hP.table _ rfl rfl h

theorem clearOvercommit_stable (h : P s) : P (clearOvercommit s) := hP.raise _ _ _ _ (hP.overcommit _ h)

theorem clearIfFits_stable (h : P s) : P (clearIfFits s) := by
  unfold clearIfFits
  split
  · exact clearOvercommit_stable hP h
  · exact h

theorem cutToFloor_stable (h : P s) : P (cutToFloor s) := by
  unfold cutToFloor
  split
  · rename_i hover
    exact lowerHeld_stable hP _ (Nat.le_of_lt hover.2) h
  · exact h

theorem setOvercommit_stable (source : Option Nat) (h : P s) : P (setOvercommit source s) :=
  clearIfFits_stable hP (refreshSums_stable hP (cutToFloor_stable hP (abandonIncrease_stable hP _
    (hP.raise _ _ _ _ (hP.overcommit _ h)))))

theorem settleOvercommit_stable (source : Option Nat) (h : P s) : P (settleOvercommit source s) := by
  unfold settleOvercommit
  split
  · exact setOvercommit_stable hP _ h
  · split
    · exact clearOvercommit_stable hP h
    · exact h

theorem settle_stable (source : Option Nat) (h : P s) : P (settle source s) :=
  settleOvercommit_stable hP _ (hP.suspectPresent _ (refreshSums_stable hP h))

theorem openClaim_stable (kind : ClaimKind) (amount : Nat) (h : P s) : P (openClaim kind amount s) :=
  hP.outbox (openClaim kind amount s).outbox (hP.alloc (s := s) (openClaim kind amount s).alloc rfl rfl rfl h)

theorem tryStart_stable (h : P s) : P (tryStart s) := by
  unfold tryStart
  split
  · exact refreshSums_stable hP (openClaim_stable hP _ _ h)
  · exact h

theorem endUpdate_stable (source : Option Nat) (h : P s) : P (endUpdate source s) :=
  tryStart_stable hP (settle_stable hP _ h)

theorem endIfChanged_stable (before : State) (h : P s) : P (endIfChanged before s) := by
  unfold endIfChanged
  split
  · exact endUpdate_stable hP _ h
  · exact h

theorem discardSlots_stable (new : StationState) (h : P s) : P (discardSlots new s) := by
  have emptied := emptyClaim_stable hP (discardAnswers_stable hP h)
  unfold discardSlots
  split
  · exact h
  · exact refillHold_stable hP emptied
  · exact refillHold_stable hP emptied
  · exact emptyHold_stable hP emptied

theorem abandonOutside_stable (new : StationState) (h : P s) : P (abandonOutside new s) := by
  unfold abandonOutside
  split
  · exact h
  · exact abandonClaim_stable hP _ h

theorem dropEarmarksLeaving_stable (old new : StationState) (h : P s) : P (dropEarmarksLeaving old new s) := by
  unfold dropEarmarksLeaving
  split
  · exact removeAllEarmarks_stable hP h
  · exact h

theorem heldForState_stable (new : StationState) (h : P s) : P (heldForState new s) := by
  unfold heldForState
  split
  · exact hP.drive h
  · exact hP.held _ (Nat.zero_le _) h

theorem keepFormer_stable (before : State) (h : P s) : P (keepFormer before s) :=
  hP.pilot _ rfl rfl rfl rfl id h

theorem clearSilence_stable (h : P s) : P (clearSilence s) := setShare_stable hP _ rfl rfl rfl h

theorem dropByDemand_stable (h : P s) : P (dropByDemand s) := by
  unfold dropByDemand
  split
  · exact abandonClaim_stable hP _ h
  · exact h

/-- What follows the write of the demand target. -/
theorem actOnDemand_stable (h : P s) : P (actOnDemand s) := by
  refine endUpdate_stable hP _ ?_
  unfold followDemand
  split
  · exact hP.drive (decrease_stable hP (dropByDemand_stable hP h))
  · exact h

theorem takeDemand_stable (written : ∀ d, P s → P (setShare { s.alloc.share with demand := d } s)) (target : Half)
    (h : P s) : P (takeDemand target s) := by
  unfold takeDemand
  split
  · exact report_stable hP _ h
  · exact actOnDemand_stable hP (report_stable hP _ (written _ h))

theorem changeState_stable (station : ∀ s new, new ≠ .reset → P s → P (setStation new s))
    (retry : ∀ s n, P s → P { s with mc := { s.mc with retry := n } }) (new : StationState) (hnew : new ≠ .reset) (h : P s) :
    P (changeState new s) := by
  refine settle_stable hP _ (resolveReached_stable hP ?_)
  have held := keepFormer_stable hP s (heldForState_stable hP new (dropEarmarksLeaving_stable hP s.mc.station new
    (discardSlots_stable hP new (station _ new hnew (hP.raise .stateChanged none none
      (some (joined s.mc.station.code new.code)) (abandonOutside_stable hP new h))))))
  unfold clearRetry
  split
  · exact retry _ _ held
  · exact held

/-- A law kept by changes of state and by the raising of the count is kept by the join that it may bring. -/
theorem joinIfDue_stable (change : ∀ s new, new ≠ .reset → P s → P (changeState new s)) (h : P s) : P (joinIfDue s) := by
  have joined : P (enterJoining s) :=
    openClaim_stable hP _ _ (clearSilence_stable hP (change s .joining (by decide) h))
  unfold joinIfDue
  (repeat' split)
  · exact joined
  · exact h
  · exact joined
  · exact h
  · exact h

/-- A law that reads nothing of the own records, of the drive level and of the join-retry count, and that the write
of the station
state keeps, is kept by all. -/
theorem StableCore.stable (station : ∀ s new, new ≠ .reset → P s → P (setStation new s))
    (retry : ∀ s n, P s → P { s with mc := { s.mc with retry := n } })
    (alloc : ∀ s a, P s → P { s with alloc := a }) : Stable P where
  core := hP
  change := changeState_stable hP station retry
  retry h := by
    refine joinIfDue_stable hP (fun s => changeState_stable hP station retry) ?_
    unfold raiseRetry
    split
    · exact retry _ _ h
    · exact h
  note _ h := hP.drive (alloc _ _ h)
  demand target h := takeDemand_stable hP (fun _ => alloc _ _) target h

/-- Such a law is also kept by the commits. -/
theorem StableCore.commits (station : ∀ s new, new ≠ .reset → P s → P (setStation new s))
    (retry : ∀ s n, P s → P { s with mc := { s.mc with retry := n } })
    (alloc : ∀ s a, P s → P { s with alloc := a }) : Commits P where
  increase _ h := decrease_stable hP (removeClaim_stable hP (alloc _ _ (hP.raise _ _ _ _ (hP.drive (alloc _ _ h)))))
  join _ h := changeState_stable hP station retry _ (by decide)
    (removeClaim_stable hP (hP.raise _ _ _ _ (alloc _ _ h)))

end

/-! ## Changes of station state, and the ends of the own claim -/

section
variable (hP : Stable P)
include hP

theorem enterJoining_stable (h : P s) : P (enterJoining s) :=
  openClaim_stable hP.core _ _ (clearSilence_stable hP.core (hP.change _ (by decide) h))

theorem afterClaim_stable (kind : ClaimKind) (state : StationState) (hstate : state ≠ .reset) (h : P s) :
    P (afterClaim kind state s) := by
  cases kind
  case increase => exact countFailure_stable hP.core h
  case floor => exact hP.change _ hstate h

theorem failClaim_stable (reason : EndReason) (objector : Option Nat) (h : P s) : P (failClaim reason objector s) := by
  unfold failClaim
  split
  · exact h
  · exact afterClaim_stable hP _ _ (by split <;> decide) (removeClaim_stable hP.core (hP.core.raise _ _ _ _ h))

theorem lapseClaim_stable (h : P s) : P (lapseClaim s) := by
  unfold lapseClaim
  split
  · exact h
  · exact afterClaim_stable hP _ _ (by decide) (removeClaim_stable hP.core (hP.core.raise _ _ _ _ h))

/-! ## Attempts and their outcomes (Machine/Outcomes.lean) -/

theorem beginSending_stable (slot : SlotId) (f : Frame) (h : P s) : P (beginSending slot f s) :=
  hP.core.line _ (fun ⟨_, counts⟩ => ⟨Nat.zero_le _, counts⟩) h

theorem startAttempt_stable (slot : SlotId) (h : P s) : P (startAttempt slot s) := by
  cases slot
  case hold => exact endIfChanged_stable hP.core _ (beginSending_stable hP _ _
      (hP.core.outbox _ (hP.core.alloc _ rfl rfl rfl h)))
  case claim =>
    simp only [startAttempt, startClaim]
    split
    · exact beginSending_stable hP _ _ (hP.core.outbox _ h)
    · exact h
  case answer k =>
    simp only [startAttempt, startAnswer]
    split
    · exact beginSending_stable hP _ _ (hP.core.outbox _ h)
    · exact h

theorem shedCheck_stable (a : HoldAttempt) (h : P s) : P (shedCheck a s) := by
  unfold shedCheck
  split
  · exact hP.core.outbox _ h
  · split
    · exact requestHold_stable hP.core h
    · exact h

theorem owedCommit_stable (h : P s) : P (owedCommit s) := by
  unfold owedCommit
  split
  · exact requestHold_stable hP.core h
  · exact h

theorem staleCheck_stable (a : HoldAttempt) (h : P s) : P (staleCheck a s) := by
  unfold staleCheck
  split
  · exact requestHold_stable hP.core h
  · exact h

theorem holdChecks_stable (a : HoldAttempt) (h : P s) : P (holdChecks a s) :=
  staleCheck_stable hP _ (owedCommit_stable hP (shedCheck_stable hP _ h))

theorem holdFollows_stable (hc : Commits P) (a : HoldAttempt) (h : P s) : P (holdFollows a s) := by
  unfold holdFollows
  split
  · exact hP.change _ (by decide) h
  · split
    · exact holdChecks_stable hP _ (hc.increase _ h)
    · exact holdChecks_stable hP _ h
  · exact holdChecks_stable hP _ h
  · split
    · exact holdChecks_stable hP _ (hc.join _ h)
    · exact h
  · exact h

theorem holdCompleted_stable (hc : Commits P) (h : P s) : P (holdCompleted s) := by
  unfold holdCompleted
  split
  · exact endUpdate_stable hP.core _ (holdFollows_stable hP hc _ (emptyHold_stable hP.core (hP.note _ h)))
  · exact emptyHold_stable hP.core h

theorem holdOutlived_stable (h : P s) : P (holdOutlived s) := by
  unfold holdOutlived
  split
  · exact endUpdate_stable hP.core _ (hP.note _ h)
  · exact h

theorem announceSent_stable (kind : ClaimKind) (h : P s) : P (announceSent kind s) := by
  cases kind
  case floor => exact clearSilence_stable hP.core h
  case increase => exact h

theorem takeRoll_stable (c : ClaimRecord) (h : P s) : P (takeRoll c s) := by
  unfold takeRoll
  split
  · exact failClaim_stable hP _ _ h
  · exact commitIfCovered_stable hP.core (setClaim_stable hP.core _ h)

theorem claimCompleted_stable (h : P s) : P (claimCompleted s) := by
  unfold claimCompleted
  split
  · exact emptyClaim_stable hP.core h
  · exact endUpdate_stable hP.core _ (takeRoll_stable hP _ (announceSent_stable hP _ (emptyClaim_stable hP.core h)))

theorem claimOutlived_stable (a : Attempt) (h : P s) : P (claimOutlived a s) := by
  unfold claimOutlived
  split
  · exact endIfChanged_stable hP.core _ (clearSilence_stable hP.core h)
  · exact h

theorem slotCompleted_stable (hc : Commits P) (a : Attempt) (h : P s) : P (slotCompleted a s) := by
  unfold slotCompleted
  split <;> split
  · exact holdCompleted_stable hP hc h
  · exact holdOutlived_stable hP h
  · exact claimCompleted_stable hP h
  · exact claimOutlived_stable hP _ h
  · exact emptyAnswer_stable hP.core _ h
  · exact h

theorem restOrDrop_stable (h : P s) : P (restOrDrop s) := by
  unfold restOrDrop
  split
  · exact hP.core.outbox _ h
  · exact hP.change _ (by decide) (emptyHold_stable hP.core h)
  · exact emptyHold_stable hP.core h

theorem settleFailedCommit_stable (c : ClaimRecord) (h : P s) : P (settleFailedCommit c s) := by
  unfold settleFailedCommit
  split
  · split
    · exact lapseClaim_stable hP h
    · exact abandonClaim_stable hP.core _ h
  · exact lapseClaim_stable hP h
  · exact abandonClaim_stable hP.core _ h
  · exact h

theorem settleCommit_stable (h : P s) : P (settleCommit s) := by
  unfold settleCommit
  split
  · exact h
  · split
    · exact settleFailedCommit_stable hP _ (setClaim_stable hP.core _ h)
    · exact h

theorem exhaustHold_stable (collided : Bool) (h : P s) : P (exhaustHold collided s) := by
  unfold exhaustHold
  split
  · exact restOrDrop_stable hP (hP.core.raise _ _ _ _ h)
  · exact h

theorem holdFailed_stable (collided : Bool) (h : P s) : P (holdFailed collided s) :=
  endIfChanged_stable hP.core _ (settleCommit_stable hP (exhaustHold_stable hP _ (hP.core.outbox _ h)))

theorem claimFailed_stable (collided : Bool) (h : P s) : P (claimFailed collided s) := by
  have counted : P (countClaim collided s) := hP.core.outbox _ h
  unfold claimFailed exhaustClaim
  split
  · exact endUpdate_stable hP.core _ (failClaim_stable hP _ _ (hP.core.raise _ _ _ _ (emptyClaim_stable hP.core counted)))
  · exact counted

theorem dropAnswer_stable (k reason : Nat) (h : P s) : P (dropAnswer k reason s) :=
  endIfChanged_stable hP.core _ (emptyAnswer_stable hP.core _ (dropSlotEarmark_stable hP.core _ (hP.core.raise _ _ _ _ h)))

theorem reportAnswer_stable (k : Nat) (charged : Bool) (h : P s) : P (reportAnswer k charged s) := by
  have counted : P (countAnswer k charged s) := hP.core.outbox _ h
  unfold reportAnswer exhaustAnswer
  split
  · exact dropAnswer_stable hP _ _ counted
  · split
    · exact dropAnswer_stable hP _ _ (hP.core.raise _ _ _ _ counted)
    · exact counted

theorem slotFailed_stable (collided : Bool) (slot : SlotId) (h : P s) : P (slotFailed collided slot s) := by
  cases slot <;> unfold slotFailed <;> dsimp only <;> split
  · exact holdFailed_stable hP _ h
  · exact h
  · exact claimFailed_stable hP _ h
  · exact h
  · exact reportAnswer_stable hP _ _ h
  · exact h

/-! ## Frames taken (Machine/Receive.lean) -/

theorem popInbox_stable (h : P s) : P (popInbox s) := hP.core.line _ id h

theorem raiseIf_stable (b : Bool) (kind : EventKind) (station : Option Nat) (claim : Option Byte) (value : Option Half)
    (h : P s) : P (raiseIf b kind station claim value s) := by
  unfold raiseIf
  split
  · exact hP.core.raise _ _ _ _ h
  · exact h

theorem holdEvents_stable (x : Nat) (f : HoldFields) (e : Entry) (h : P s) : P (holdEvents x f e s) :=
  raiseIf_stable hP _ _ _ _ _ (raiseIf_stable hP _ _ _ _ _ (raiseIf_stable hP _ _ _ _ _ h))

theorem endBackoffIf_stable (fell : Bool) (h : P s) : P (endBackoffIf fell s) := by
  unfold endBackoffIf
  split
  · exact setShare_stable hP.core _ rfl rfl rfl h
  · exact h

theorem withdrawFor_stable (x : Nat) (m : Option Earmark) (h : P s) : P (withdrawFor x m s) := by
  unfold withdrawFor
  split
  · exact withdrawAssent_stable hP.core _ _ h
  · exact h

theorem takeHold_stable (x : Nat) (f : HoldFields) (h : P s) : P (takeHold x f s) := by
  have checked := checkParity_stable hP.core x h
  unfold takeHold holdChecked
  split
  · exact endUpdate_stable hP.core _ (withdrawFor_stable hP _ _ (modEntry_stable hP.core _ _ checked))
  · exact endUpdate_stable hP.core _ (endBackoffIf_stable hP _ (withdrawFor_stable hP _ _ (holdEvents_stable hP _ _ _
      (modEntry_stable hP.core _ _ checked))))

theorem takeFarewell_stable (x : Nat) (h : P s) : P (takeFarewell x s) := by
  have checked := checkParity_stable hP.core x h
  unfold takeFarewell farewellChecked
  split
  · exact endUpdate_stable hP.core _ checked
  · exact endUpdate_stable hP.core _ (endBackoffIf_stable hP _ (withdrawFor_stable hP _ _ (strikeOff_stable hP.core _
      (hP.core.raise _ _ _ _ (modEntry_stable hP.core _ _ checked)))))

theorem writeAnswer_stable (k x : Nat) (n : Byte) (a : Answer) (shed : Bool) (h : P s) : P (writeAnswer k x n a shed s) :=
  hP.core.outbox _ h

theorem dropEarmarkOf_stable (x : Nat) (n : Byte) (h : P s) : P (dropEarmarkOf x n s) := by
  unfold dropEarmarkOf
  split
  · exact dropEarmark_stable hP.core _ h
  · exact h

theorem objectTo_stable (k x : Nat) (n : Byte) (reason : ObjectReason) (h : P s) : P (objectTo k x n reason s) :=
  writeAnswer_stable hP _ _ _ _ _ (dropEarmarkOf_stable hP _ _ h)

theorem withdrawEarlier_stable (x : Nat) (n : Byte) (h : P s) : P (withdrawEarlier x n s) := by
  unfold withdrawEarlier
  split
  · split
    · exact h
    · exact withdrawAssent_stable hP.core _ _ h
  · exact h

theorem assentTo_stable (k x : Nat) (n : Byte) (amount : Nat) (h : P s) : P (assentTo k x n amount s) :=
  writeAnswer_stable hP _ _ _ _ _ (modEntry_stable hP.core _ _ (withdrawEarlier_stable hP _ _ h))

theorem answerByRoom_stable (k x : Nat) (n : Byte) (amount : Nat) (h : P s) : P (answerByRoom k x n amount s) := by
  unfold answerByRoom
  split
  · exact assentTo_stable hP _ _ _ _ h
  · exact objectTo_stable hP _ _ _ _ h

theorem answerClaim_stable (k x : Nat) (n : Byte) (amount priority : Nat) (h : P s) :
    P (answerClaim k x n amount priority s) := by
  have object := fun reason => objectTo_stable hP k x n reason h
  unfold answerClaim
  split
  · exact object _
  split
  · exact object _
  split
  · exact object _
  split
  · exact object _
  split
  · exact assentTo_stable hP _ _ _ _ h
  split
  · exact answerByRoom_stable hP _ _ _ _ (abandonClaim_stable hP.core _ h)
  · exact object _

theorem shed_stable (j : Nat) (n : Byte) (floor : Nat) (h : P s) : P (shed j n floor s) := by
  unfold shed
  split
  · rename_i hmust
    have cut := hP.core.held (ceiling s floor) (Nat.le_of_lt (of_decide_eq_true hmust)) h
    exact requestHold_stable hP.core (hP.core.alloc _ rfl rfl rfl (hP.core.raise _ _ _ _ cut))
  · exact h

theorem answerAnnounce_stable (k j : Nat) (n : Byte) (floor priority cls lease : Nat) (h : P s) :
    P (answerAnnounce k j n floor priority cls lease s) := by
  have object := fun reason => objectTo_stable hP k j n reason h
  unfold answerAnnounce
  split
  · exact object _
  split
  · exact object _
  split
  · exact object _
  split
  · exact object _
  split
  · exact object _
  · exact writeAnswer_stable hP _ _ _ _ _ (modEntry_stable hP.core _ _ (shed_stable hP _ _ _ h))

theorem takeAnnounce_stable (j : Nat) (n : Byte) (cls lease : Nat) (h : P s) : P (takeAnnounce j n cls lease s) := by
  have checked := checkParity_stable hP.core j h
  unfold takeAnnounce rejoin
  split
  · exact strikeOff_stable hP.core _ (withdrawFor_stable hP _ _
        (modEntry_stable hP.core _ _ (hP.core.raise _ _ _ _ checked)))
  · exact checked

theorem takeClaim_stable (x priority : Nat) (h : P s) : P (takeClaim x priority s) := by
  have checked := checkParity_stable hP.core x h
  unfold takeClaim notePriority
  split
  · exact modEntry_stable hP.core _ _ checked
  · exact checked

theorem decideAnswer_stable (slot : Option Nat) {answer : Nat → State → State} (hanswer : ∀ k s, P s → P (answer k s))
    (h : P s) : P (decideAnswer slot answer s) := by
  unfold decideAnswer
  split
  · split
    · exact hanswer _ _ (checkAllParity_stable hP.core h)
    · exact h
  · exact h

theorem takeAssent_stable (x target : Nat) (n : Byte) (h : P s) : P (takeAssent x target n s) := by
  unfold takeAssent
  split
  · split
    · exact commitIfCovered_stable hP.core (setClaim_stable hP.core _ h)
    · exact h
  · exact h

theorem withdrawAnswer_stable (x : Nat) (n : Byte) (h : P s) : P (withdrawAnswer x n s) := by
  unfold withdrawAnswer
  split
  · exact emptyAnswer_stable hP.core _ h
  · exact h

theorem failNamed_stable (x target : Nat) (n : Byte) (r : ObjectReason) (h : P s) : P (failNamed x target n r s) := by
  unfold failNamed
  split
  · exact failClaim_stable hP _ _ h
  · exact h

theorem holdReceived_stable (h : P s) : P (holdReceived s) := by
  unfold holdReceived
  split
  · split
    · exact h
    · exact takeHold_stable hP _ _ (popInbox_stable hP h)
  · exact h

theorem farewellReceived_stable (h : P s) : P (farewellReceived s) := by
  unfold farewellReceived
  split
  · split
    · exact takeFarewell_stable hP _ (popInbox_stable hP h)
    · exact h
  · exact h

theorem announceReceived_stable (h : P s) : P (announceReceived s) := by
  unfold announceReceived
  split
  · exact endUpdate_stable hP.core _ (decideAnswer_stable hP _ (fun k _ => answerAnnounce_stable hP k _ _ _ _ _ _)
      (takeAnnounce_stable hP _ _ _ _ (popInbox_stable hP h)))
  · exact h

theorem claimReceived_stable (h : P s) : P (claimReceived s) := by
  unfold claimReceived
  split
  · exact endUpdate_stable hP.core _ (decideAnswer_stable hP _ (fun k _ => answerClaim_stable hP k _ _ _ _)
      (takeClaim_stable hP _ _ (popInbox_stable hP h)))
  · exact h

theorem assentReceived_stable (h : P s) : P (assentReceived s) := by
  unfold assentReceived
  split
  · exact endUpdate_stable hP.core _ (takeAssent_stable hP _ _ _ (popInbox_stable hP h))
  · exact h

theorem objectReceived_stable (h : P s) : P (objectReceived s) := by
  unfold objectReceived
  split
  · exact endUpdate_stable hP.core _ (failNamed_stable hP _ _ _ _ (withdrawAnswer_stable hP _ _ (dropEarmarkOf_stable hP _ _
      (popInbox_stable hP h))))
  · exact h

/-! ## Time (Machine/Time.lean, Machine/Clock.lean) -/

theorem blockTick_stable (b : TickBlock) (h : P s) : P (blockTick b s) := by
  cases b
  case shareTable => exact hP.core.table _ (List.length_map ..) rfl h
  case allocation =>
    have counted := hP.core.alloc (s := s) (blockTick .allocation s).alloc rfl rfl rfl h
    exact hP.core.outbox (blockTick .allocation s).outbox counted
  case timeBase =>
    exact hP.core.time _ (timeBase_tick_counts _) (by simp [TimeBase.tick]) h

theorem takeTick_stable (b : TickBlock) (h : P s) : P (takeTick b s) := by
  unfold takeTick
  split
  · exact blockTick_stable hP _ (hP.core.time _ id (List.Nodup.erase _) h)
  · exact h

theorem takeTicks_stable (blocks : List TickBlock) (h : P s) : P (takeTicks blocks s) :=
  foldl_stable (fun _ b => takeTick_stable hP b) _ h

theorem upset_stable (u : Upset) (h : P s) : P (upset u s) := by
  unfold upset
  split
  · exact modEntry_stable hP.core _ _ h
  · exact h

theorem issueTick_stable (h : P s) : P (issueTick s) := by
  have issued := hP.core.time (s := s) (issueTick s).time (fun ⟨_, counts⟩ => ⟨Nat.zero_lt_succ _, counts⟩)
    (fun _ => (by decide : TickBlock.all.Nodup)) h
  exact hP.core.pilot (s := { s with time := (issueTick s).time }) (issueTick s).pilot rfl rfl rfl rfl id issued

theorem tick_stable (event : TickEvent) (h : P s) : P (tick event s) := by
  unfold tick
  split
  · exact h
  · split
    · exact takeTicks_stable hP _ (issueTick_stable hP (foldl_stable (fun _ u => upset_stable hP u) _
        (takeTicks_stable hP _ h)))
    · exact takeTicks_stable hP _ h

theorem releaseEntry_stable (i : Nat) (e : Entry) (h : P s) : P (releaseEntry i e s) :=
  strikeOff_stable hP.core _ (withdrawFor_stable hP _ _ (modEntry_stable hP.core _ _ (hP.core.raise _ _ _ _ h)))

theorem silenceEntry_stable (i : Nat) (e : Entry) (h : P s) : P (silenceEntry i e s) :=
  strikeOff_stable hP.core _ (hP.core.raise _ _ _ _ (modEntry_stable hP.core _ _ h))

theorem ageEntry_stable (i : Nat) (h : P s) : P (ageEntry i s) := by
  have checked := checkParity_stable hP.core i h
  unfold ageEntry
  split
  · unfold ageBy
    split
    · split
      · exact releaseEntry_stable hP _ _ checked
      split
      · exact silenceEntry_stable hP _ _ checked
      · exact modEntry_stable hP.core _ _ checked
    · exact checked
  · exact h

theorem tableBoundary_stable (h : P s) : P (tableBoundary s) :=
  endUpdate_stable hP.core _ (foldl_stable (fun _ i => ageEntry_stable hP i) _ h)

theorem raiseCensus_stable (h : P s) : P (raiseCensus s) :=
  hP.core.mc _ rfl rfl rfl rfl (fun _ => Nat.min_le_right _ _) h

theorem allocationBoundary_stable (h : P s) : P (allocationBoundary s) := by
  have raised : P (raiseSilence s) := setShare_stable hP.core _ rfl rfl rfl h
  unfold allocationBoundary
  split
  · refine endUpdate_stable hP.core _ ?_
    unfold fenceIfSilent
    split
    · exact hP.change _ (by decide) (requestHold_stable hP.core raised)
    · exact requestHold_stable hP.core raised
  · exact endUpdate_stable hP.core _ raised
  · exact h

theorem outboxBoundary_stable (h : P s) : P (outboxBoundary s) := by
  unfold outboxBoundary
  split
  · exact hP.core.outbox _ h
  · exact h

theorem takeBoundary_stable (b : Block) (h : P s) : P (takeBoundary b s) := by
  unfold takeBoundary
  split
  · have taken : P { s with time := { s.time with boundaryDue := s.time.boundaryDue.erase b } } := hP.core.time _ id id h
    cases b
    case shareTable => exact tableBoundary_stable hP taken
    case membership => exact hP.retry (raiseCensus_stable hP taken)
    case allocation => exact allocationBoundary_stable hP taken
    case outbox => exact outboxBoundary_stable hP taken
  · exact h

theorem leaseBoundary_stable (order : List Block) (h : P s) : P (leaseBoundary order s) :=
  foldl_stable (fun _ b => takeBoundary_stable hP b) _ h

theorem earmarkExpiry_stable (i : Nat) (h : P s) : P (earmarkExpiry i s) := by
  unfold earmarkExpiry
  split
  · exact endUpdate_stable hP.core _ (dropEarmark_stable hP.core _ h)
  · exact h

theorem responseWindowPassed_stable (h : P s) : P (responseWindowPassed s) := by
  unfold responseWindowPassed
  split
  · exact endUpdate_stable hP.core _ (failClaim_stable hP _ _ h)
  · exact h

theorem commitDeadlinePassed_stable (h : P s) : P (commitDeadlinePassed s) := by
  unfold commitDeadlinePassed
  split
  · split
    · split
      · exact setClaim_stable hP.core _ h
      · exact endUpdate_stable hP.core _ (lapseClaim_stable hP h)
    · exact h
  · exact h

theorem backoffEnd_stable (h : P s) : P (backoffEnd s) := by
  unfold backoffEnd
  split
  · have cleared := setShare_stable hP.core { s.alloc.share with backoff := none } rfl rfl rfl h
    unfold startByItself
    split
    · exact settle_stable hP.core _ (tryStart_stable hP.core cleared)
    · exact cleared
  · exact h

theorem answerDeadline_stable (k : Nat) (h : P s) : P (answerDeadline k s) := by
  unfold answerDeadline
  split
  · split
    · exact hP.core.outbox _ h
    · exact dropAnswer_stable hP _ _ h
  · exact h

theorem restartWatchdog_stable (h : P s) : P (restartWatchdog s) :=
  hP.core.time _ (fun ⟨d, m, p, i, _, l⟩ => ⟨d, m, p, i, Nat.le_refl _, l⟩) id h

theorem fenceUnfed_stable (h : P s) : P (fenceUnfed s) := by
  unfold fenceUnfed
  split
  iterate 3 exact endUpdate_stable hP.core _ (hP.change _ (by decide) h)
  exact h

theorem watchdogExpired_stable (h : P s) : P (watchdogExpired s) := by
  unfold watchdogExpired
  split
  · exact restartWatchdog_stable hP (fenceUnfed_stable hP (hP.core.raise _ _ _ _ h))
  · exact h

theorem oscPeriod_stable (h : P s) : P (oscPeriod s) := by
  have timed := hP.core.line (s := s) s.line.period (LineInterface.period_counts _) h
  have running : P (runningPeriod s) := hP.core.pilot (s := { s with line := s.line.period })
      (runningPeriod s).pilot rfl rfl rfl rfl
    (fun ⟨_, counts⟩ => ⟨Nat.lt_succ_of_le (Nat.min_le_right _ _), counts⟩) timed
  unfold oscPeriod
  split
  · unfold resetPeriod
    refine hP.core.line _ ?_ (hP.core.pins (resetPeriod s).pins h)
    split
    · exact id
    · exact fun counts => LineInterface.release_counts _ (LineInterface.period_counts _ counts)
  · split
    · exact tick_stable hP _ running
    · rename_i hbelow
      refine hP.core.time _ (fun ⟨_, counts⟩ => ⟨?_, counts⟩) id running
      have hlt : ¬ 4096 ≤ s.time.tickDivider + 1 := hbelow
      exact Nat.lt_of_not_le hlt

/-! ## The Pilot Unit (Machine/Pilot.lean) -/

theorem faultInChange_stable (h : P s) : P (faultInChange s) := by
  unfold faultInChange
  split
  · have recomputed := hP.core.faultTaken h
    unfold requestActiveHold
    split
    · exact requestHold_stable hP.core recomputed
    · exact recomputed
  · exact h

theorem pilotPeriodStart_stable (levels : LoadLevels) (between : Option Handover) (h : P s) :
    P (pilotPeriodStart levels between s) := by
  unfold pilotPeriodStart
  split
  · rename_i hdue
    exact hP.core.period _ _ (faultInChange_faultDue s hdue.1) (faultInChange_stable hP h)
  · exact h

/-! ## The Line Interface (Machine/Line.lean) -/

theorem lineBitTaken_stable (recessive : Bool) (h : P s) : P (lineBitTaken recessive s) := by
  unfold lineBitTaken
  split
  · exact h
  · exact hP.core.line _ (fun counts => LineInterface.takeBit_counts _ _ (LineInterface.untaken_counts _ counts)) h

theorem lineRxEdge_stable (h : P s) : P (lineRxEdge s) := by
  unfold lineRxEdge
  split
  · split
    · exact h
    · exact hP.core.line _ (fun counts => LineInterface.release_counts _ (LineInterface.edge_counts _ counts)) h
  · exact hP.core.line _ (LineInterface.edge_counts _) h

theorem syncPatternMatch_stable (h : P s) : P (syncPatternMatch s) := by
  unfold syncPatternMatch
  split
  · exact hP.core.line _ (fun ⟨_, counts⟩ => ⟨Nat.zero_le _, counts⟩) h
  · exact h

theorem noteReservation_stable (k : Nat) (h : P s) : P (noteReservation k s) := hP.core.line _ id h

theorem reserveAnswer_stable (kind x : Nat) (n : Byte) (h : P s) : P (reserveAnswer kind x n s) := by
  unfold reserveAnswer
  split
  · exact noteReservation_stable hP _ h
  · split
    · exact noteReservation_stable hP _ (hP.core.outbox _ h)
    · exact hP.core.raise _ _ _ _ h

theorem raiseFrameBad_stable (ownMark : Bool) (station : Option Nat) (c : BadClass) (h : P s) :
    P (raiseFrameBad ownMark station c s) := by
  unfold raiseFrameBad
  split
  · exact h
  · exact hP.core.raise _ _ _ _ h

theorem frameHeader_stable (h : P s) : P (frameHeader s) := by
  have body : P (enterBody s) := hP.core.line _ id h
  unfold frameHeader
  split
  · split
    · exact h
    · exact raiseFrameBad_stable hP _ _ _
        (hP.core.line _ (fun ⟨_, _, counts⟩ => ⟨Nat.zero_le _, Nat.sub_le _ _, counts⟩) h)
    · split
      · exact reserveAnswer_stable hP _ _ _ body
      · exact body
  · exact h

theorem toHunt_stable (h : P s) : P (toHunt s) :=
  hP.core.line _ (fun ⟨_, _, counts⟩ => ⟨Nat.zero_le _, Nat.zero_le _, counts⟩) h

theorem skipEnd_stable (h : P s) : P (skipEnd s) := by
  unfold skipEnd
  split
  · exact toHunt_stable hP h
  · exact h

theorem releaseReservation_stable (r : Option Nat) (h : P s) : P (releaseReservation r s) := by
  unfold releaseReservation
  split
  · split
    · exact emptyAnswer_stable hP.core _ h
    · exact h
  · exact h

theorem takeDuplicate_stable (kind : Nat) (h : P s) : P (takeDuplicate kind s) := by
  unfold takeDuplicate
  split
  · exact h
  · have marked := fun kind station claim value => hP.core.duplicate (hP.core.raise kind station claim value h)
    unfold toFault
    split
    · exact marked _ _ _ _
    · exact hP.change _ (by decide) (marked _ _ _ _)

theorem deliver_stable (f : Frame) (r : Option Nat) (h : P s) : P (deliver f r s) := hP.core.line _ id h

theorem goodFrame_stable (f : Frame) (cls : Option FrameClass) (r : Option Nat) (h : P s) : P (goodFrame f cls r s) := by
  unfold goodFrame
  split
  · exact h
  split
  · split
    · exact deliver_stable hP _ _ (hP.core.raise _ _ _ _ h)
    · exact takeDuplicate_stable hP _ h
  · exact deliver_stable hP _ _ h

theorem frameVerdict_stable (h : P s) : P (frameVerdict s) := by
  unfold frameVerdict
  split
  · unfold judgeFrame
    split
    · exact raiseFrameBad_stable hP _ _ _ (releaseReservation_stable hP _ (toHunt_stable hP h))
    · exact goodFrame_stable hP _ _ _ (toHunt_stable hP h)
  · exact h

theorem lineOffer_stable (h : P s) : P (lineOffer s) := by
  unfold lineOffer
  split
  · split
    · exact startAttempt_stable hP _ (hP.core.line _ (LineInterface.untaken_counts _) h)
    · exact h
  · exact h

theorem endAttempt_stable (h : P s) : P (endAttempt s) := by
  refine hP.core.line _ ?_ h
  rintro ⟨idle, skip, clock⟩
  refine ⟨idle, skip, ?_⟩
  split
  · exact clock
  · exact BitClock.start_counts _ clock.1

theorem attemptCompleted_stable (hc : Commits P) (h : P s) : P (attemptCompleted s) := by
  unfold attemptCompleted
  split
  · split
    · exact slotCompleted_stable hP hc _ (endAttempt_stable hP h)
    · exact h
  · exact h

theorem attemptCollided_stable (h : P s) : P (attemptCollided s) := by
  unfold attemptCollided
  split
  · split
    · exact slotFailed_stable hP _ _ (endAttempt_stable hP h)
    · exact h
  · exact h

theorem cutMarkEnd_stable (h : P s) : P (cutMarkEnd s) := by
  unfold cutMarkEnd
  split
  · exact endAttempt_stable hP h
  · exact h

theorem txInhibitAsserted_stable (h : P s) : P (txInhibitAsserted s) := by
  have inhibited : P (setInhibit true s) := hP.core.pins _ h
  unfold txInhibitAsserted
  split
  · split
    · exact slotFailed_stable hP _ _ (hP.core.line _ id inhibited)
    · exact inhibited
  · exact inhibited

/-! ## Reset end (Machine/Reset.lean) -/

theorem resetEnd_stable (straps : Straps) (h : P s) : P (resetEnd straps s) := by
  have released : P (releaseRstN s) := hP.core.pins _ h
  unfold resetEnd
  split
  · split
    · refine hP.change _ (by split <;> decide) ?_
      have latched := hP.core.mc (s := releaseRstN s) (latch straps (releaseRstN s)).mc rfl rfl rfl rfl id released
      have begun := hP.core.line (s := { releaseRstN s with mc := (latch straps (releaseRstN s)).mc })
        (latch straps (releaseRstN s)).line
        (fun ⟨idle, skip, _⟩ => ⟨idle, skip, BitClock.start_counts _ (by decide)⟩) latched
      exact hP.core.port
        (s := { releaseRstN s with
          mc := (latch straps (releaseRstN s)).mc
          line := (latch straps (releaseRstN s)).line })
        (latch straps (releaseRstN s)).port rfl begun
    · exact released
  · exact h

/-! ## The Local Port (Machine/Port.lean) -/

theorem transactionStart_stable (h : P s) : P (transactionStart s) := by
  have passed : P (passSdi (setSelect false s)) := hP.core.pins _ (hP.core.pins _ h)
  unfold transactionStart
  split
  · unfold beginRequest
    split
    · exact hP.core.port _ (by simp) passed
    · exact passed
  · exact h

theorem toIdle_stable (h : P s) : P (toIdle s) := hP.core.port _ rfl h

theorem wholeEffect_stable (e : EndEffect) (h : P s) : P (wholeEffect e s) := by
  cases e
  case none => exact h
  case pop => exact hP.core.finishPop h
  case meterClear => exact hP.core.pilot _ rfl rfl rfl rfl id h
  case snapshotDelivered => exact hP.core.port _ rfl h
  case hardReset => exact h

theorem brokenEffect_stable (e : EndEffect) (h : P s) : P (brokenEffect e s) := by
  cases e
  case pop => exact hP.core.events _ rfl rfl rfl rfl h
  all_goals exact h

theorem transactionEnd_stable (hreset : ∀ s rstN internal, P s → P (enterReset rstN internal s)) (shifted : Nat) (h : P s) :
    P (transactionEnd shifted s) := by
  have raised : P (setSelect true s) := hP.core.pins _ h
  unfold transactionEnd
  split
  · exact h
  unfold endTransaction
  split
  · exact raised
  split
  · unfold endResponse
    split
    · exact hreset _ _ _ raised
    split
    · exact toIdle_stable hP (wholeEffect_stable hP _ raised)
    · exact toIdle_stable hP (brokenEffect_stable hP _ raised)
  · exact toIdle_stable hP raised

theorem respond_stable (command : Byte) (r : ResponseCode) (data : List Byte) (atEnd : EndEffect) (h : P s) :
    P (respond command r data atEnd s) := hP.core.port _ rfl h

/-- A law that the work of a request keeps is kept by its decode. -/
theorem decoded_stable (c : Instr) {act : State → State} (hact : ∀ s, P s → P (act s)) (h : P s) :
    P (decoded c act s) := by
  unfold decoded
  split
  · exact hact _ (hP.core.port _ rfl h)
  · exact h

theorem feed_stable (h : P s) : P (feed s) := by
  refine respond_stable hP _ _ _ _ ?_
  split
  · exact h
  · exact restartWatchdog_stable hP h

theorem snapshotRequest_stable (h : P s) : P (snapshotRequest s) := by
  unfold snapshotRequest
  split
  · refine respond_stable hP _ _ _ _ ?_
    split
    · exact hP.core.port _ rfl h
    · exact h
  · exact respond_stable hP _ _ _ _ h
  · exact respond_stable hP _ _ _ _ h

theorem entryRead_stable (n : Byte) (h : P s) : P (entryRead n s) := by
  unfold entryRead
  split
  · exact respond_stable hP _ _ _ _ h
  split
  · exact respond_stable hP _ _ _ _ h
  · exact respond_stable hP _ _ _ _ h

theorem meterRead_stable (flag : Byte) (h : P s) : P (meterRead flag s) := by
  unfold meterRead
  split
  · exact respond_stable hP _ _ _ _ h
  split
  · exact respond_stable hP _ _ _ _ h
  · exact respond_stable hP _ _ _ _ h

theorem keepCopy_stable (h : P s) : P (keepCopy s) := by
  have numbered := hP.core.table (s := s) (keepCopy s).table rfl rfl h
  exact hP.core.port (s := { s with table := (keepCopy s).table }) (keepCopy s).port rfl numbered

theorem snapshotTaken_stable (h : P s) : P (snapshotTaken s) := by
  unfold snapshotTaken
  split
  · exact tryStart_stable hP.core (keepCopy_stable hP (settle_stable hP.core _ (checkAllParity_stable hP.core h)))
  · exact h

/-! ## A CONFIGURE applied (Machine/Queue.lean) -/

theorem applyRecord_stable {r : ConfigRecord} {polarity : Polarity} {steering : PerClass Steer}
    (hr : 100 ≤ r.fullScale.toNat ∧ r.fullScale.toNat ≤ 6400) (h : P s) : P (applyRecord r polarity steering s) := by
  have marked := hP.core.mc (s := s) (applyRecord r polarity steering s).mc rfl rfl rfl rfl id h
  have shared := hP.core.alloc (s := { s with mc := (applyRecord r polarity steering s).mc })
    (applyRecord r polarity steering s).alloc rfl rfl rfl marked
  have piloted := hP.core.pilot
    (s := { s with
      mc := (applyRecord r polarity steering s).mc
      alloc := (applyRecord r polarity steering s).alloc })
    (applyRecord r polarity steering s).pilot rfl rfl rfl rfl (fun ⟨ph, du, _⟩ => ⟨ph, du, hr⟩) shared
  have timed := hP.core.time
    (s := { s with
      mc := (applyRecord r polarity steering s).mc
      alloc := (applyRecord r polarity steering s).alloc
      pilot := (applyRecord r polarity steering s).pilot })
    (applyRecord r polarity steering s).time
    (fun ⟨d, m, p, counts⟩ => ⟨d, m, p, Watchdog.configured_counts _ _ counts⟩) id piloted
  exact hP.core.events
    (s := { s with
      mc := (applyRecord r polarity steering s).mc
      alloc := (applyRecord r polarity steering s).alloc
      pilot := (applyRecord r polarity steering s).pilot
      time := (applyRecord r polarity steering s).time })
    (applyRecord r polarity steering s).events rfl rfl rfl rfl timed

theorem takeConfigure_stable (r : ConfigRecord) (h : P s) : P (takeConfigure r s) := by
  unfold takeConfigure
  split
  · split
    · exact report_stable hP.core _ h
    · rename_i hr
      split
      · exact report_stable hP.core _ h
      · exact endUpdate_stable hP.core _ (report_stable hP.core _ (applyRecord_stable hP (recordInRange_fullScale hr) h))
  · exact report_stable hP.core _ h

end

end Sys2Proof.Machine
end

section
/-! PROOFS. The laws that every elementary update keeps are kept by every command and by every step: the command
queue (log 1),
the event queue and the alert conditions (R160 to R170), the pending requests (R45, R182). -/

namespace Sys2Proof.Machine

variable {P : State → Prop} {s : State} {c : Instr}

/-! ## The commands, by what they write -/

/-- The commands that lead to RESET, or may (R25, R190). -/
def mayReset : Instr → Bool
  | .rstNAsserted | .powerUp | .transactionEnd _ => true
  | _ => false

/-- The commands that write the FIFO or the pending-request record: the arrivals and the takings of the queued requests
(R45, R182, R183). -/
def movesRequests : Instr → Bool
  | .configure _ | .stateRequest _ | .demand _ | .configureTaken | .stateRequestActiveTaken | .stateRequestDetachedTaken
  | .demandTaken => true
  | _ => false

/-- A law that the elementary updates and the commands of the queued requests keep is kept by every command that does
not lead
to RESET; only the completion of an attempt commits a claim. -/
theorem effect_stable_of_running (hP : Stable P) (hcommit : c = .attemptCompleted → Commits P)
    (hqueue : ∀ c s, movesRequests c = true → P s → P (effect c s)) (hc : mayReset c = false) (h : P s) :
        P (effect c s) := by
  cases c
  case rstNAsserted => simp [mayReset] at hc
  case powerUp => simp [mayReset] at hc
  case transactionEnd => simp [mayReset] at hc
  case resetEnd straps => exact resetEnd_stable hP straps h
  case cutMarkEnd => exact cutMarkEnd_stable hP h
  case tick event => exact tick_stable hP event h
  case leaseBoundary order => exact leaseBoundary_stable hP order h
  case earmarkExpiry station => exact earmarkExpiry_stable hP station h
  case responseWindowPassed => exact responseWindowPassed_stable hP h
  case commitDeadlinePassed => exact commitDeadlinePassed_stable hP h
  case backoffEnd => exact backoffEnd_stable hP h
  case answerDeadline slot => exact answerDeadline_stable hP slot h
  case watchdogExpired => exact watchdogExpired_stable hP h
  case pilotPeriodStart levels between => exact pilotPeriodStart_stable hP levels between h
  case faultInChange => exact faultInChange_stable hP h
  case txInhibitAsserted => exact txInhibitAsserted_stable hP h
  case txInhibitDeasserted => exact hP.core.pins _ h
  case lineOffer => exact lineOffer_stable hP h
  case attemptCompleted => exact attemptCompleted_stable hP (hcommit rfl) h
  case attemptCollided => exact attemptCollided_stable hP h
  case frameHeader => exact frameHeader_stable hP h
  case skipEnd => exact skipEnd_stable hP h
  case frameVerdict => exact frameVerdict_stable hP h
  case holdReceived => exact holdReceived_stable hP h
  case farewellReceived => exact farewellReceived_stable hP h
  case announceReceived => exact announceReceived_stable hP h
  case claimReceived => exact claimReceived_stable hP h
  case assentReceived => exact assentReceived_stable hP h
  case objectReceived => exact objectReceived_stable hP h
  case transactionStart => exact transactionStart_stable hP h
  case unknownCommand code => exact decoded_stable hP _ (fun s h => respond_stable hP _ _ _ _ h) h
  case status => exact decoded_stable hP _ (fun s h => respond_stable hP _ _ _ _ h) h
  case feed => exact decoded_stable hP _ (fun s h => feed_stable hP h) h
  case ackAlert => exact decoded_stable hP _ (fun s h => respond_stable hP _ _ _ _ (hP.core.acknowledge h)) h
  case eventPeek => exact decoded_stable hP _ (fun s h => respond_stable hP _ _ _ _ h) h
  case eventPop => exact decoded_stable hP _ (fun s h => respond_stable hP _ _ _ _ (hP.core.events _ rfl rfl rfl rfl h)) h
  case snapshot => exact decoded_stable hP _ (fun s h => snapshotRequest_stable hP h) h
  case snapshotTaken => exact snapshotTaken_stable hP h
  case entryRead n => exact decoded_stable hP _ (fun s h => entryRead_stable hP n h) h
  case meterRead flag => exact decoded_stable hP _ (fun s h => meterRead_stable hP flag h) h
  case hardReset => exact decoded_stable hP _ (fun s h => respond_stable hP _ _ _ _ h) h
  case configure record => exact hqueue _ _ rfl h
  case stateRequest target => exact hqueue _ _ rfl h
  case demand target => exact hqueue _ _ rfl h
  case configureTaken => exact hqueue _ _ rfl h
  case stateRequestActiveTaken => exact hqueue _ _ rfl h
  case stateRequestDetachedTaken => exact hqueue _ _ rfl h
  case demandTaken => exact hqueue _ _ rfl h
  case syncPatternMatch => exact syncPatternMatch_stable hP h
  case lineBitTaken recessive => exact lineBitTaken_stable hP recessive h
  case lineRxEdge => exact lineRxEdge_stable hP h

/-- A law that also the entry to RESET keeps is kept by every command. -/
theorem effect_stable (hP : Stable P) (hcommit : c = .attemptCompleted → Commits P)
    (hreset : ∀ s rstN internal, P s → P (enterReset rstN internal s))
    (hqueue : ∀ c s, movesRequests c = true → P s → P (effect c s)) (h : P s) : P (effect c s) := by
  by_cases hc : mayReset c = false
  · exact effect_stable_of_running hP hcommit hqueue hc h
  · cases c
    case rstNAsserted => exact hreset _ _ _ h
    case powerUp => exact hreset _ _ _ h
    case transactionEnd shifted => exact transactionEnd_stable hP hreset shifted h
    all_goals exact absurd rfl hc

/-- Such a law is kept by every step, if it does not read the command queue. -/
theorem step_stable (hP : Stable P) (hcommit : Commits P) (queue : ∀ s rest, P s → P (s.withPending rest))
    (hreset : ∀ s rstN internal, P s → P (enterReset rstN internal s))
    (hqueue : ∀ c s, movesRequests c = true → P s → P (effect c s)) {s t : State} (h : P s) (hstep : step s = .next t) :
    P t :=
  step_keeps queue (fun _ => oscPeriod_stable hP) (fun _ _ => effect_stable hP (fun _ => hcommit) hreset hqueue) s t h hstep

/-! ## Laws that do not read the requests -/

/-- `P` reads neither the port nor the pending-request record. -/
structure FreeOfRequests (P : State → Prop) : Prop where
  port : ∀ {s} (p : Port), P s → P (setPort p s)
  request : ∀ {s} (r : PendingRequest), P s → P (setRequest r s)

section
variable (hfree : FreeOfRequests P)
include hfree

theorem placeStateRequest_free (t : Target) (r : PendingRequest) (h : P s) : P (placeStateRequest t r s) := by
  unfold placeStateRequest
  split
  · exact hfree.port _ (hfree.request _ (hfree.port _ h))
  · exact hfree.port _ h

theorem demandArrives_free (target : Half) (h : P s) : P (demandArrives target s) := by
  unfold demandArrives
  split
  · exact hfree.port _ (hfree.port _ h)
  split
  · exact hfree.port _ (hfree.port _ h)
  · exact hfree.port _ h

theorem configureArrives_free (record : ConfigRecord) (h : P s) : P (configureArrives record s) := by
  unfold configureArrives
  split
  · exact hfree.port _ (hfree.port _ h)
  · exact hfree.port _ h

variable (hP : Stable P)
include hP

theorem resolveFirst_free (result : CommandResult) (h : P s) : P (resolveFirst result s) :=
  report_stable hP.core _ (hfree.request _ h)

theorem stateRequestArrives_free (target : Byte) (h : P s) : P (stateRequestArrives target s) := by
  unfold stateRequestArrives
  dsimp only
  split
  · exact hfree.port _ h
  · exact placeStateRequest_free hfree _ _ h
  · split
    · exact hfree.port _ h
    split
    · exact placeStateRequest_free hfree _ _ h
    · exact hfree.port _ (hfree.request _ (report_stable hP.core _ (hfree.port _ h)))
  · exact hfree.port _ h
  · exact hfree.port _ h

theorem actOnActive_free (h : P s) : P (actOnActive s) := by
  unfold actOnActive beginJoin
  split
  iterate 3
    split
    · split
      · exact enterJoining_stable hP h
      · exact hP.change _ (by decide) h
    · exact resolveFirst_free hfree hP _ h
  · exact resolveFirst_free hfree hP _ h
  · exact resolveFirst_free hfree hP _ h

theorem cancelTaken_free (h : P s) : P (cancelTaken s) := by
  unfold cancelTaken
  split
  · exact resolveFirst_free hfree hP _ h
  · exact h

theorem actOnDetached_free (h : P s) : P (actOnDetached s) := by
  unfold actOnDetached
  split
  iterate 6 exact hP.change _ (by decide) h
  iterate 5 exact resolveFirst_free hfree hP _ h

/-- A law that reads neither the port nor the record is kept by the commands of the queued requests. -/
theorem movesRequests_free (c : Instr) (hc : movesRequests c = true) (h : P s) : P (effect c s) := by
  cases c
  case configure record => exact decoded_stable hP _ (fun s => configureArrives_free hfree record) h
  case stateRequest target => exact decoded_stable hP _ (fun s => stateRequestArrives_free hfree hP target) h
  case demand target => exact decoded_stable hP _ (fun s => demandArrives_free hfree target) h
  case configureTaken =>
    simp only [effect, configureTaken]
    split
    · split
      · exact h
      · exact takeConfigure_stable hP _ (hfree.port _ h)
    · exact h
  case stateRequestActiveTaken =>
    simp only [effect, stateRequestActiveTaken]
    split
    · split
      · exact h
      · exact actOnActive_free hfree hP (hfree.request _ (hfree.port _ h))
    · exact h
  case stateRequestDetachedTaken =>
    simp only [effect, stateRequestDetachedTaken]
    split
    · split
      · exact h
      · exact actOnDetached_free hfree hP (hfree.request _ (cancelTaken_free hfree hP (hfree.port _ h)))
    · exact h
  case demandTaken =>
    simp only [effect, demandTaken]
    split
    · split
      · exact h
      · exact hP.demand _ (hfree.port _ h)
    · exact h
  all_goals cases hc

end

/-! ## The command queue -/

theorem stableCore_pending (q : List Instr) : StableCore (fun s => s.pending = q) where
  raise _ _ _ _ h := h
  table _ _ _ h := h
  alloc _ _ _ _ h := h
  held _ _ h := h
  drive h := h
  outbox _ h := h
  line _ _ h := h
  pins _ h := h
  port _ _ h := h
  time _ _ _ h := h
  pilot _ _ _ _ _ _ h := h
  faultTaken h := h
  mc _ _ _ _ _ _ h := h
  events _ _ _ _ _ h := h
  acknowledge h := h
  finishPop h := h
  suspectPresent _ h := h
  overcommit _ h := h
  duplicate h := h
  request _ h := h
  period _ _ _ h := by simpa [startPeriod] using h

theorem stable_pending (q : List Instr) : Stable (fun s => s.pending = q) :=
  (stableCore_pending q).stable (fun _ _ _ h => h) (fun _ _ h => h) (fun _ _ h => h)

theorem commits_pending (q : List Instr) : Commits (fun s => s.pending = q) :=
  (stableCore_pending q).commits (fun _ _ _ h => h) (fun _ _ h => h) (fun _ _ h => h)

theorem free_pending (q : List Instr) : FreeOfRequests (fun s => s.pending = q) := ⟨fun _ h => h, fun _ h => h⟩

/-- No command writes the queue. -/
@[simp] theorem effect_pending (c : Instr) (s : State) : (effect c s).pending = s.pending :=
  effect_stable (stable_pending s.pending) (fun _ => commits_pending _) (fun _ _ _ h => h)
    (fun c _ hc => movesRequests_free (free_pending _) (stable_pending _) c hc) rfl

/-- Settles O2. -/
theorem everyCommandAnswersAndKeepsTheQueue : Obligations.EveryCommandAnswersAndKeepsTheQueue :=
  fun c s => ⟨effect c s, exec_eq_effect c s, effect_pending c s⟩

end Sys2Proof.Machine
end

section
/-! PROOFS. The event queue and the alert conditions (spec/09): what the Event Unit's own operations keep, and what
the station
keeps of them. -/

namespace Sys2Proof.Machine

/-! ## The queue (R160, R165, R166) -/

/-- An entry carries the sequence number after another's (R161). -/
def Event.Follows (a b : Event) : Prop := b.seq = a.seq + 1

/-- The law of an event queue with a next sequence number; `eventLaw_iff` ties it to `EventLaw`. -/
structure QueueLaw (queue : List Event) (next : Byte) : Prop where
  bound : queue.length ≤ 64
  chain : queue.IsChain Event.Follows
  last : ∀ e ∈ queue.getLast?, next = e.seq + 1
  marks : ∀ e ∈ queue.tail, e.lossBefore = false

theorem isChain_iff_zip_tail {α : Type} {R : α → α → Prop} (l : List α) :
    l.IsChain R ↔ ∀ p ∈ l.zip l.tail, R p.1 p.2 := by
  induction l with
  | nil => simp
  | cons a l ih =>
    cases l with
    | nil => simp
    | cons b l =>
      rw [List.isChain_cons_cons, ih]
      simp

theorem eventLaw_iff (s : State) : EventLaw s ↔ QueueLaw s.events.queue s.events.nextSeq := by
  constructor
  · rintro ⟨bound, chain, last, marks⟩
    exact ⟨bound, (isChain_iff_zip_tail _).2 chain, last, marks⟩
  · rintro ⟨bound, chain, last, marks⟩
    exact ⟨bound, (isChain_iff_zip_tail _).1 chain, last, marks⟩

variable {queue : List Event} {next : Byte}

theorem queueLaw_nil (next : Byte) : QueueLaw [] next := ⟨by decide, by simp, by simp, by simp⟩

theorem QueueLaw.tail (h : QueueLaw queue next) : QueueLaw queue.tail next := by
  refine ⟨?_, h.chain.tail, ?_, fun e he => h.marks e (List.mem_of_mem_tail he)⟩
  · simp only [List.length_tail]
    have := h.bound
    omega
  · intro e he
    refine h.last e ?_
    match queue, he with
    | _ :: _ :: _, he => simpa using he

theorem QueueLaw.remark {head : Event} {rest : List Event} (b : Bool) (h : QueueLaw (head :: rest) next) :
    QueueLaw ({ head with lossBefore := b } :: rest) next := by
  obtain ⟨bound, chain, last, marks⟩ := h
  cases rest with
  | nil => exact ⟨bound, by simp, by simpa using last, marks⟩
  | cons second rest => exact ⟨bound, by simpa [Event.Follows] using chain, by simpa using last, marks⟩

theorem QueueLaw.append {e : Event} (h : QueueLaw queue next) (hroom : queue.length < 64) (hseq : e.seq = next)
    (hmark : e.lossBefore = false) : QueueLaw (queue ++ [e]) (next + 1) := by
  refine ⟨by simpa using hroom, ?_, by simp [hseq], ?_⟩
  · refine List.isChain_append.2 ⟨h.chain, by simp, fun a ha b hb => ?_⟩
    obtain rfl : e = b := by simpa using hb
    rw [Event.Follows, hseq, h.last a ha]
  · cases queue with
    | nil => simp
    | cons head rest =>
      intro a ha
      rcases List.mem_append.1 ha with ha | ha
      · exact h.marks a ha
      · obtain rfl : a = e := by simpa using ha
        exact hmark

/-- The append of an event with the next sequence number, a full queue's head discarded (R165), keeps the law. -/
theorem appendEvent_queueLaw {e : Event} (h : QueueLaw queue next) (hseq : e.seq = next) (hmark : e.lossBefore = false) :
    QueueLaw (appendEvent queue e) (next + 1) := by
  unfold appendEvent
  split
  · exact h.append ‹_› hseq hmark
  · have hroom : queue.tail.length < 64 := by
      rw [List.length_tail]
      exact lt_of_lt_of_le (Nat.sub_lt (by simp_all [Config.queueDepth]; omega) Nat.one_pos) h.bound
    have appended := h.tail.append hroom hseq hmark
    split
    · simp_all
    · rename_i heq
      exact (heq ▸ appended).remark true

theorem EventUnit.take_queueLaw {u : EventUnit} (kind : EventKind) (station : Option Nat) (claim : Option Byte)
    (value : Option Half) (time : Half) (h : QueueLaw u.queue u.nextSeq) :
    QueueLaw (u.take kind station claim value time).queue (u.take kind station claim value time).nextSeq := by
  unfold EventUnit.take
  split
  · exact appendEvent_queueLaw h rfl rfl
  · exact h

theorem EventUnit.finishPop_queueLaw {u : EventUnit} (h : QueueLaw u.queue u.nextSeq) :
    QueueLaw u.finishPop.queue u.finishPop.nextSeq := by
  unfold EventUnit.finishPop
  split
  · rename_i n head rest _ hq
    rw [hq] at h
    split
    · exact h.tail
    split
    · exact h.remark false
    · simpa [hq] using h
  · exact h

theorem stableCore_eventLaw : StableCore (fun s => QueueLaw s.events.queue s.events.nextSeq) where
  raise _ _ _ _ h := EventUnit.take_queueLaw _ _ _ _ _ h
  table _ _ _ h := h
  alloc _ _ _ _ h := h
  held _ _ h := h
  drive h := h
  outbox _ h := h
  line _ _ h := h
  pins _ h := h
  port _ _ h := h
  time _ _ _ h := h
  pilot _ _ _ _ _ _ h := h
  faultTaken h := h
  mc _ _ _ _ _ _ h := h
  events _ hq hn _ _ h := by rw [hq, hn]; exact h
  acknowledge h := h
  finishPop h := EventUnit.finishPop_queueLaw h
  suspectPresent _ h := h
  overcommit _ h := h
  duplicate h := h
  request _ h := h
  period levels between _ h := by
    unfold startPeriod handFaultIn
    split
    · exact h
    · exact EventUnit.take_queueLaw _ _ _ _ _ h

theorem stable_eventLaw : Stable (fun s => QueueLaw s.events.queue s.events.nextSeq) :=
  stableCore_eventLaw.stable (fun _ _ _ h => h) (fun _ _ h => h) (fun _ _ h => h)

theorem commits_eventLaw : Commits (fun s => QueueLaw s.events.queue s.events.nextSeq) :=
  stableCore_eventLaw.commits (fun _ _ _ h => h) (fun _ _ h => h) (fun _ _ h => h)

theorem free_eventLaw : FreeOfRequests (fun s => QueueLaw s.events.queue s.events.nextSeq) := ⟨fun _ h => h, fun _ h => h⟩

theorem step_eventLaw {s t : State} (h : EventLaw s) (hstep : step s = .next t) : EventLaw t := by
  rw [eventLaw_iff] at h ⊢
  exact step_stable stable_eventLaw commits_eventLaw (fun _ _ h => h) (fun _ _ _ _ => queueLaw_nil 0)
    (fun c _ hc => movesRequests_free free_eventLaw stable_eventLaw c hc) h hstep

/-! ## The alert conditions (R168, R169) -/

theorem AlertSet.within_put {a b : AlertSet} (c : AlertCondition) (v : Bool) (h : a.within b) :
    (if v then a else a.put c false).within (b.put c v) := by
  obtain ⟨overcommit, fenced, fault, duplicate, suspectPresent, faultIn⟩ := h
  cases v <;> cases c <;> simp_all [AlertSet.within, AlertSet.put]

theorem AlertSet.within_union {a b : AlertSet} (h : a.within b) : (a.union b).within b := by
  obtain ⟨overcommit, fenced, fault, duplicate, suspectPresent, faultIn⟩ := h
  simp only [AlertSet.within, AlertSet.union, Bool.or_eq_true]
  exact ⟨Or.rec overcommit id, Or.rec fenced id, Or.rec fault id, Or.rec duplicate id, Or.rec suspectPresent id,
    Or.rec faultIn id⟩

/-- What `ConditionLaw` says but for SUSPECT_PRESENT, which the end of an update settles. -/
def OwnerLaw (s : State) : Prop :=
  s.events.active.overcommit = s.table.overcommit ∧ s.events.active.fenced = (s.mc.station == .fenced)
    ∧ s.events.active.fault = (s.mc.station == .fault) ∧ s.events.active.duplicate = s.mc.duplicate
    ∧ s.events.active.faultIn = s.pilot.faultIn ∧ s.events.acked.within s.events.active

theorem conditionLaw_iff (s : State) : ConditionLaw s ↔ OwnerLaw s ∧ s.events.active.suspectPresent = anySuspect s := by
  unfold ConditionLaw OwnerLaw
  tauto

theorem stableCore_ownerLaw : StableCore OwnerLaw where
  raise _ _ _ _ h := by simpa [OwnerLaw, raise] using h
  table t _ ho h := by
    obtain ⟨overcommit, rest⟩ := h
    exact ⟨overcommit.trans ho.symm, rest⟩
  alloc _ _ _ _ h := h
  held _ _ h := h
  drive h := h
  outbox _ h := h
  line _ _ h := h
  pins _ h := h
  port _ _ h := h
  time _ _ _ h := h
  faultTaken h := h
  pilot p _ _ hf _ _ h := by
    obtain ⟨overcommit, fenced, fault, duplicate, faultIn, within⟩ := h
    exact ⟨overcommit, fenced, fault, duplicate, faultIn.trans hf.symm, within⟩
  mc m hs hd _ _ _ h := by
    obtain ⟨overcommit, fenced, fault, duplicate, rest⟩ := h
    exact ⟨overcommit, by rw [hs]; exact fenced, by rw [hs]; exact fault, by rw [hd]; exact duplicate, rest⟩
  events u _ _ ha hk h := by
    unfold OwnerLaw
    rw [ha, hk]
    exact h
  acknowledge h := by
    obtain ⟨overcommit, fenced, fault, duplicate, faultIn, within⟩ := h
    exact ⟨overcommit, fenced, fault, duplicate, faultIn, AlertSet.within_union within⟩
  finishPop h := by
    have keeps : ∀ u : EventUnit, u.finishPop.active = u.active ∧ u.finishPop.acked = u.acked := by
      intro u
      unfold EventUnit.finishPop
      (repeat' split) <;> simp
    unfold OwnerLaw
    rw [(keeps _).1, (keeps _).2]
    exact h
  suspectPresent b h := by
    obtain ⟨overcommit, fenced, fault, duplicate, faultIn, within⟩ := h
    exact ⟨overcommit, fenced, fault, duplicate, faultIn, AlertSet.within_put .suspectPresent b within⟩
  overcommit b h := by
    obtain ⟨overcommit, fenced, fault, duplicate, faultIn, within⟩ := h
    exact ⟨rfl, fenced, fault, duplicate, faultIn, AlertSet.within_put .overcommit b within⟩
  duplicate h := by
    obtain ⟨overcommit, fenced, fault, duplicate, faultIn, within⟩ := h
    exact ⟨overcommit, fenced, fault, rfl, faultIn, AlertSet.within_put .duplicate true within⟩
  request _ h := h
  period levels between _ h := by
    obtain ⟨overcommit, fenced, fault, duplicate, faultIn, within⟩ := h
    unfold startPeriod handFaultIn
    split
    · rename_i hsame
      exact ⟨overcommit, fenced, fault, duplicate, faultIn.trans hsame.symm, within⟩
    · simp only [OwnerLaw, setCondition, raise, EventUnit.take_keeps]
      exact ⟨overcommit, fenced, fault, duplicate, rfl, AlertSet.within_put .faultIn _ within⟩

theorem setStation_ownerLaw (new : StationState) (s : State) (h : OwnerLaw s) : OwnerLaw (setStation new s) := by
  obtain ⟨overcommit, fenced, fault, duplicate, faultIn, within⟩ := h
  exact ⟨overcommit, rfl, rfl, duplicate, faultIn,
    AlertSet.within_put .fault (new == .fault) (AlertSet.within_put .fenced (new == .fenced) within)⟩

theorem stable_ownerLaw : Stable OwnerLaw :=
  stableCore_ownerLaw.stable (fun s new _ => setStation_ownerLaw new s) (fun _ _ h => h) (fun _ _ h => h)

theorem commits_ownerLaw : Commits OwnerLaw :=
  stableCore_ownerLaw.commits (fun s new _ => setStation_ownerLaw new s) (fun _ _ h => h) (fun _ _ h => h)

theorem free_ownerLaw : FreeOfRequests OwnerLaw := ⟨fun _ h => h, fun _ h => h⟩

theorem enterReset_ownerLaw (rstN : Bool) (internal : Nat) (s : State) : OwnerLaw (enterReset rstN internal s) :=
  ⟨rfl, rfl, rfl, rfl, rfl, by simp [AlertSet.within, enterReset, State.reset, EventUnit.initial, AlertSet.empty]⟩

theorem step_ownerLaw {s t : State} (h : OwnerLaw s) (hstep : step s = .next t) : OwnerLaw t :=
  step_stable stable_ownerLaw commits_ownerLaw (fun _ _ h => h) (fun _ _ _ _ => enterReset_ownerLaw _ _ _)
    (fun c _ hc => movesRequests_free free_ownerLaw stable_ownerLaw c hc) h hstep

end Sys2Proof.Machine
end

section
/-! PROOFS. The commands that leave the table, the own records, the station state and the drive as they were: those
of the bit
timing and the receiver, and those of the port before a request is taken. -/

namespace Sys2Proof.Machine

/-- From `s` to `t` the Share Table, the Allocation Engine, the station state and identity, the drive level and the sample of
FAULT_IN, and the active alert conditions are the same. -/
structure Untouched (s t : State) : Prop where
  table : t.table = s.table
  alloc : t.alloc = s.alloc
  station : t.mc.station = s.mc.station
  identity : t.mc.identity = s.mc.identity
  requested : t.pilot.requested = s.pilot.requested
  stateCopy : t.pilot.stateCopy = s.pilot.stateCopy
  faultIn : t.pilot.faultIn = s.pilot.faultIn
  faultDue : t.pilot.faultDue = s.pilot.faultDue
  active : t.events.active = s.events.active

theorem Untouched.refl (s : State) : Untouched s s := ⟨rfl, rfl, rfl, rfl, rfl, rfl, rfl, rfl, rfl⟩

theorem Untouched.trans {s t u : State} (h : Untouched s t) (h' : Untouched t u) : Untouched s u where
  table := h'.table.trans h.table
  alloc := h'.alloc.trans h.alloc
  station := h'.station.trans h.station
  identity := h'.identity.trans h.identity
  requested := h'.requested.trans h.requested
  stateCopy := h'.stateCopy.trans h.stateCopy
  faultIn := h'.faultIn.trans h.faultIn
  faultDue := h'.faultDue.trans h.faultDue
  active := h'.active.trans h.active

/-- The commands of the bit timing, of the receiver before the verdict, and of the port before a request is taken. -/
def quiet : Instr → Bool
  | .cutMarkEnd | .txInhibitDeasserted | .frameHeader | .skipEnd | .transactionStart | .unknownCommand _ | .status | .feed
  | .ackAlert | .eventPeek | .eventPop | .snapshot | .entryRead _ | .meterRead _ | .hardReset | .configure _
  | .stateRequest _ | .demand _ | .syncPatternMatch | .lineBitTaken _ | .lineRxEdge => true
  | _ => false

variable {s : State}

theorem setLine_untouched (l : LineInterface) (s : State) : Untouched s (setLine l s) :=
    ⟨rfl, rfl, rfl, rfl, rfl, rfl, rfl, rfl, rfl⟩

theorem setPort_untouched (p : Port) (s : State) : Untouched s (setPort p s) := ⟨rfl, rfl, rfl, rfl, rfl, rfl, rfl, rfl, rfl⟩

theorem setOutbox_untouched (o : Outbox) (s : State) : Untouched s (setOutbox o s) :=
  ⟨rfl, rfl, rfl, rfl, rfl, rfl, rfl, rfl, rfl⟩

theorem setRequest_untouched (r : PendingRequest) (s : State) : Untouched s (setRequest r s) :=
  ⟨rfl, rfl, rfl, rfl, rfl, rfl, rfl, rfl, rfl⟩

theorem raise_untouched (kind : EventKind) (station : Option Nat) (claim : Option Byte) (value : Option Half) (s : State) :
    Untouched s (raise kind station claim value s) := by constructor <;> simp

theorem report_untouched (r : Resolution) (s : State) : Untouched s (report r s) := by constructor <;> simp

theorem respond_untouched (command : Byte) (r : ResponseCode) (data : List Byte) (atEnd : EndEffect) (s : State) :
    Untouched s (respond command r data atEnd s) := setPort_untouched _ s

theorem decoded_untouched (c : Instr) {act : State → State} (hact : ∀ s, Untouched s (act s)) (s : State) :
    Untouched s (decoded c act s) := by
  unfold decoded
  split
  · exact (setPort_untouched _ s).trans (hact _)
  · exact .refl s

theorem raiseFrameBad_untouched (ownMark : Bool) (station : Option Nat) (c : BadClass) (s : State) :
    Untouched s (raiseFrameBad ownMark station c s) := by
  unfold raiseFrameBad
  split
  · exact .refl s
  · exact raise_untouched _ _ _ _ s

theorem reserveAnswer_untouched (kind x : Nat) (n : Byte) (s : State) : Untouched s (reserveAnswer kind x n s) := by
  unfold reserveAnswer
  split
  · exact setLine_untouched _ s
  · split
    · exact (setOutbox_untouched _ s).trans (setLine_untouched _ _)
    · exact raise_untouched _ _ _ _ s

theorem frameHeader_untouched (s : State) : Untouched s (frameHeader s) := by
  unfold frameHeader
  split
  · split
    · exact .refl s
    · exact (setLine_untouched _ s).trans (raiseFrameBad_untouched _ _ _ _)
    · split
      · exact (setLine_untouched _ s).trans (reserveAnswer_untouched _ _ _ _)
      · exact setLine_untouched _ s
  · exact .refl s

theorem placeStateRequest_untouched (t : Target) (r : PendingRequest) (s : State) :
    Untouched s (placeStateRequest t r s) := by
  unfold placeStateRequest
  split
  · exact ((setPort_untouched _ s).trans (setRequest_untouched r _)).trans (respond_untouched _ _ _ _ _)
  · exact respond_untouched _ _ _ _ s

theorem replaceWaiting_untouched (s : State) : Untouched s (replaceWaiting s) :=
  (((setPort_untouched _ s).trans (report_untouched _ _)).trans (setRequest_untouched _ _)).trans
      (respond_untouched _ _ _ _ _)

theorem stateRequestArrives_untouched (target : Byte) (s : State) : Untouched s (stateRequestArrives target s) := by
  unfold stateRequestArrives
  dsimp only
  split
  · exact respond_untouched _ _ _ _ s
  · exact placeStateRequest_untouched _ _ s
  · split
    · exact respond_untouched _ _ _ _ s
    split
    · exact placeStateRequest_untouched _ _ s
    · exact replaceWaiting_untouched s
  · exact respond_untouched _ _ _ _ s
  · exact respond_untouched _ _ _ _ s

theorem configureArrives_untouched (record : ConfigRecord) (s : State) : Untouched s (configureArrives record s) := by
  unfold configureArrives
  split <;> exact (setPort_untouched _ s).trans (setPort_untouched _ _)

theorem demandArrives_untouched (target : Half) (s : State) : Untouched s (demandArrives target s) := by
  unfold demandArrives
  split
  · exact (setPort_untouched _ s).trans (setPort_untouched _ _)
  split
  · exact (setPort_untouched _ s).trans (setPort_untouched _ _)
  · exact setPort_untouched _ s

theorem snapshotRequest_untouched (s : State) : Untouched s (snapshotRequest s) := by
  unfold snapshotRequest
  split
  · split <;> exact (setPort_untouched _ s).trans (setPort_untouched _ _)
  · exact setPort_untouched _ s
  · exact setPort_untouched _ s

theorem feed_untouched (s : State) : Untouched s (feed s) := by
  unfold feed
  split <;> exact ⟨rfl, rfl, rfl, rfl, rfl, rfl, rfl, rfl, rfl⟩

theorem beginRequest_untouched (sdi : List Bool) (s : State) : Untouched s (beginRequest sdi s) := by
  unfold beginRequest
  split
  · exact setPort_untouched _ s
  · exact .refl s

theorem effect_untouched (c : Instr) (hc : quiet c = true) (s : State) : Untouched s (effect c s) := by
  cases c
  case cutMarkEnd =>
    simp only [effect, cutMarkEnd]
    split
    · exact setLine_untouched _ s
    · exact .refl s
  case txInhibitDeasserted => exact ⟨rfl, rfl, rfl, rfl, rfl, rfl, rfl, rfl, rfl⟩
  case frameHeader => exact frameHeader_untouched s
  case skipEnd =>
    simp only [effect, skipEnd]
    split
    · exact setLine_untouched _ s
    · exact .refl s
  case transactionStart =>
    simp only [effect, transactionStart]
    split
    · have passed : Untouched s (passSdi (setSelect false s)) := ⟨rfl, rfl, rfl, rfl, rfl, rfl, rfl, rfl, rfl⟩
      exact passed.trans (beginRequest_untouched _ _)
    · exact .refl s
  case unknownCommand => exact decoded_untouched _ (respond_untouched _ _ _ _) s
  case status => exact decoded_untouched _ (fun s => respond_untouched _ _ _ _ s) s
  case feed => exact decoded_untouched _ feed_untouched s
  case ackAlert => exact decoded_untouched _ (act := ackAlert) (fun _ => ⟨rfl, rfl, rfl, rfl, rfl, rfl, rfl, rfl, rfl⟩) s
  case eventPeek => exact decoded_untouched _ (fun s => respond_untouched _ _ _ _ s) s
  case eventPop => exact decoded_untouched _ (act := eventPop) (fun _ => ⟨rfl, rfl, rfl, rfl, rfl, rfl, rfl, rfl, rfl⟩) s
  case snapshot => exact decoded_untouched _ snapshotRequest_untouched s
  case entryRead n =>
    refine decoded_untouched _ (fun s => ?_) s
    unfold entryRead
    (repeat' split) <;> exact respond_untouched _ _ _ _ s
  case meterRead flag =>
    refine decoded_untouched _ (fun s => ?_) s
    unfold meterRead
    (repeat' split) <;> exact respond_untouched _ _ _ _ s
  case hardReset => exact decoded_untouched _ (fun s => respond_untouched _ _ _ _ s) s
  case configure record => exact decoded_untouched _ (configureArrives_untouched record) s
  case stateRequest target => exact decoded_untouched _ (stateRequestArrives_untouched target) s
  case demand target => exact decoded_untouched _ (demandArrives_untouched target) s
  case syncPatternMatch =>
    simp only [effect, syncPatternMatch]
    split
    · exact setLine_untouched _ s
    · exact .refl s
  case lineBitTaken recessive =>
    simp only [effect, lineBitTaken]
    split
    · exact .refl s
    · exact setLine_untouched _ s
  case lineRxEdge =>
    simp only [effect, lineRxEdge]
    (repeat' split)
    · exact .refl s
    · exact setLine_untouched _ s
    · exact setLine_untouched _ s
  all_goals cases hc

/-- The end of a transaction leads to RESET on a decoded HARD_RESET, and touches none of these otherwise (R180, R190). -/
theorem transactionEnd_untouched (shifted : Nat) (s : State) :
    (∃ rstN internal s', transactionEnd shifted s = enterReset rstN internal s') ∨ Untouched s
        (transactionEnd shifted s) := by
  have select : Untouched s (setSelect true s) := ⟨rfl, rfl, rfl, rfl, rfl, rfl, rfl, rfl, rfl⟩
  have whole : ∀ e s, Untouched s (toIdle (wholeEffect e s)) := by
    intro e s
    cases e
    case pop =>
      have active : s.events.finishPop.active = s.events.active := by
        unfold EventUnit.finishPop
        (repeat' split) <;> rfl
      exact ⟨rfl, rfl, rfl, rfl, rfl, rfl, rfl, rfl, active⟩
    all_goals exact ⟨rfl, rfl, rfl, rfl, rfl, rfl, rfl, rfl, rfl⟩
  have broken : ∀ e s, Untouched s (toIdle (brokenEffect e s)) := by
    intro e s
    cases e <;> exact ⟨rfl, rfl, rfl, rfl, rfl, rfl, rfl, rfl, rfl⟩
  unfold transactionEnd
  split
  · exact .inr (.refl s)
  unfold endTransaction
  split
  · exact .inr select
  split
  · unfold endResponse
    split
    · exact .inl ⟨_, _, _, rfl⟩
    split
    · exact .inr (select.trans (whole _ _))
    · exact .inr (select.trans (broken _ _))
  · exact .inr (select.trans (setPort_untouched _ _))

end Sys2Proof.Machine
end

section
/-! PROOFS. The end of an update (R6, R7, R8, R21): the kept sums, OVERCOMMIT and SUSPECT_PRESENT then stand as the
entries say,
and no command leaves them otherwise. -/

namespace Sys2Proof.Machine

variable {s t : State}

/-! ## What the views of the table depend on -/

theorem isPeer_congr (hs : t.mc.station = s.mc.station) (hi : t.mc.identity = s.mc.identity) (i : Nat) :
    isPeer t i = isPeer s i := by simp only [isPeer, hs, hi]

theorem entryAt_congr (he : t.table.entries = s.table.entries) (i : Nat) : entryAt t i = entryAt s i := by
  simp only [entryAt, he]

theorem view_suspect (s : State) (i : Nat) : (view s i).suspect = (isPeer s i && (entryAt s i).suspect) := by
  unfold view
  split <;> simp_all [ownEntry]

/-- SUSPECT_PRESENT depends on the SUSPECT flags and on which entries are peers'. -/
theorem anySuspect_congr (he : t.table.entries.map (·.suspect) = s.table.entries.map (·.suspect))
    (hs : t.mc.station = s.mc.station) (hi : t.mc.identity = s.mc.identity) : anySuspect t = anySuspect s := by
  have entry : ∀ u : State, ∀ i, (entryAt u i).suspect = ((u.table.entries.map (·.suspect))[i]?).getD false := by
    intro u i
    simp only [entryAt, List.getElem?_map]
    cases u.table.entries[i]? <;> rfl
  simp only [anySuspect, views, List.any_map, Function.comp_def, view_suspect, isPeer_congr hs hi, entry, he]

theorem view_congr (he : t.table.entries = s.table.entries) (hs : t.mc.station = s.mc.station)
    (hi : t.mc.identity = s.mc.identity) (ha : t.alloc = s.alloc) (hf : t.pilot.faultIn = s.pilot.faultIn) (i : Nat) :
    view t i = view s i := by
  simp only [view, isPeer_congr hs hi, entryAt_congr he, ownEntry, hs, ha, hf]

theorem views_congr (he : t.table.entries = s.table.entries) (hs : t.mc.station = s.mc.station)
    (hi : t.mc.identity = s.mc.identity) (ha : t.alloc = s.alloc) (hf : t.pilot.faultIn = s.pilot.faultIn) :
    views t = views s := by
  exact List.map_congr_left fun i _ => view_congr he hs hi ha hf i

theorem capacity_congr (hi : t.mc.identity = s.mc.identity) : capacity t = capacity s := by simp only [capacity, hi]

theorem sumsNow_congr (hv : views t = views s) (hc : capacity t = capacity s) : sumsNow t = sumsNow s := by
  simp only [sumsNow, sumHeld, sumEarmark, sumFloor, room, validCount, suspectCount, hv, hc]

theorem held_eq_of_sums (h : s.table.sums = sumsNow s) : s.table.sums.held = sumHeld s := by rw [h, sumsNow]

/-- The sum of held shares depends on the entries, the station state and own held. -/
theorem sumHeld_congr (he : t.table.entries = s.table.entries) (hs : t.mc.station = s.mc.station)
    (hi : t.mc.identity = s.mc.identity) (hh : t.alloc.share.held = s.alloc.share.held) : sumHeld t = sumHeld s := by
  have own : ∀ i, (if (view t i).valid then (view t i).stored.held else 0)
      = if (view s i).valid then (view s i).stored.held else 0 := by
    intro i
    simp only [view, isPeer_congr hs hi, entryAt_congr he]
    split
    · rfl
    · simp only [ownEntry, Entry.valid, hs, hh]
      rfl
  simp only [sumHeld, views, List.map_map, Function.comp_def, own]

/-! ## The end of an update -/

/-- The kept sums, OVERCOMMIT and SUSPECT_PRESENT stand as the entries say. -/
structure UpToDate (s : State) : Prop where
  sums : s.table.sums = sumsNow s
  overcommit : s.table.overcommit = true ↔ capacity s < sumHeld s
  suspect : s.events.active.suspectPresent = anySuspect s

theorem clearOvercommit_views (s : State) : views (clearOvercommit s) = views s :=
    views_congr (by simp) (by simp) (by simp) (by simp) (by simp)

theorem refreshSums_views (s : State) : views (refreshSums s) = views s :=
  views_congr (by simp) (by simp) (by simp) (by simp) (by simp)

theorem refreshSums_sumsNow (s : State) : (refreshSums s).table.sums = sumsNow (refreshSums s) :=
  (sumsNow_congr (refreshSums_views s) (capacity_congr (by simp))).symm

theorem setCondition_views (c : AlertCondition) (b : Bool) (s : State) : views (setCondition c b s) = views s :=
  views_congr (by simp) (by simp) (by simp) (by simp) (by simp)

/-- Clearing OVERCOMMIT where the sum fits leaves all up to date. -/
theorem clearOvercommit_upToDate (hsums : s.table.sums = sumsNow s) (hfits : s.table.sums.held ≤ capacity s)
    (hsuspect : s.events.active.suspectPresent = anySuspect s) : UpToDate (clearOvercommit s) := by
  have hviews := clearOvercommit_views s
  have hcap : capacity (clearOvercommit s) = capacity s := capacity_congr (by simp)
  refine ⟨by rw [sumsNow_congr hviews hcap]; simpa using hsums, ?_, ?_⟩
  · have hsum : sumHeld (clearOvercommit s) = s.table.sums.held := by
      rw [hsums, sumHeld, hviews]
      rfl
    rw [hsum, hcap]
    simp [clearOvercommit, hfits]
  · rw [anySuspect, hviews]
    rw [← anySuspect, ← hsuspect]
    simp [clearOvercommit, markOvercommit, AlertSet.put]

theorem setOvercommit_upToDate (source : Option Nat) (h : s.events.active.suspectPresent = anySuspect s) :
    UpToDate (setOvercommit source s) := by
  unfold setOvercommit
  generalize hu : cutToFloor _ = u
  have hover : u.table.overcommit = true := by simp [← hu]
  have hsuspect : (refreshSums u).events.active.suspectPresent = anySuspect (refreshSums u) := by
    have same : anySuspect (refreshSums u) = anySuspect s :=
      anySuspect_congr (by simp [← hu]) (by simp [← hu]) (by simp [← hu])
    rw [same, ← h]
    simp [← hu, markOvercommit, AlertSet.put]
  unfold clearIfFits
  split
  · exact clearOvercommit_upToDate (refreshSums_sumsNow u) ‹_› hsuspect
  · rename_i hexceeds
    have hheld := held_eq_of_sums (refreshSums_sumsNow u)
    rw [hheld] at hexceeds
    exact ⟨refreshSums_sumsNow u, iff_of_true (by simpa using hover) (Nat.lt_of_not_le hexceeds), hsuspect⟩

/-- The end of an update leaves all up to date (R7, R8, R21). -/
theorem settle_upToDate (source : Option Nat) (s : State) : UpToDate (settle source s) := by
  unfold settle settleOvercommit
  generalize hu : setCondition .suspectPresent _ _ = u
  have hviews : views u = views s := by rw [← hu, setCondition_views, refreshSums_views]
  have hcap : capacity u = capacity s := capacity_congr (by simp [← hu])
  have hsums : u.table.sums = sumsNow u := by rw [sumsNow_congr hviews hcap, ← hu]; simp
  have hsuspect : u.events.active.suspectPresent = anySuspect u := by
    rw [anySuspect, hviews, ← hu, ← refreshSums_views s, ← anySuspect]
    simp [AlertSet.put, anySuspect, refreshSums_views]
  have hheld : u.table.sums.held = sumHeld u := held_eq_of_sums hsums
  split
  · exact setOvercommit_upToDate source hsuspect
  · rename_i hset
    split
    · rename_i hclear
      exact clearOvercommit_upToDate hsums hclear.1 hsuspect
    · rename_i hclear
      refine ⟨hsums, ?_, hsuspect⟩
      rw [hheld] at hset hclear
      cases ho : u.table.overcommit <;> simp_all

theorem openClaim_upToDate (kind : ClaimKind) (amount : Nat) (h : UpToDate s) :
    UpToDate (refreshSums (openClaim kind amount s)) := by
  obtain ⟨_, overcommit, suspect⟩ := h
  refine ⟨refreshSums_sumsNow _, ?_, ?_⟩
  · have hsum : sumHeld (refreshSums (openClaim kind amount s)) = sumHeld s :=
      sumHeld_congr (by simp) (by simp) (by simp) (by simp)
    have hcap : capacity (refreshSums (openClaim kind amount s)) = capacity s := capacity_congr (by simp)
    rw [hsum, hcap]
    simpa using overcommit
  · have same : anySuspect (refreshSums (openClaim kind amount s)) = anySuspect s :=
      anySuspect_congr (by simp) (by simp) (by simp)
    rw [same]
    simpa using suspect

theorem tryStart_upToDate (h : UpToDate s) : UpToDate (tryStart s) := by
  unfold tryStart
  split
  · exact openClaim_upToDate _ _ h
  · exact h

theorem endUpdate_upToDate (source : Option Nat) (s : State) : UpToDate (endUpdate source s) :=
  tryStart_upToDate (settle_upToDate source s)

theorem UpToDate.of_views (h : UpToDate s) (hv : views t = views s) (hc : capacity t = capacity s)
    (hsums : t.table.sums = s.table.sums) (ho : t.table.overcommit = s.table.overcommit)
    (ha : t.events.active.suspectPresent = s.events.active.suspectPresent) : UpToDate t := by
  obtain ⟨sums, overcommit, suspect⟩ := h
  refine ⟨by rw [sumsNow_congr hv hc, hsums, sums], ?_, by rw [anySuspect, hv, ha, suspect, anySuspect]⟩
  rw [ho, hc, sumHeld, hv]
  exact overcommit

theorem keepCopy_upToDate (h : UpToDate s) : UpToDate (keepCopy s) :=
  h.of_views (views_congr rfl rfl rfl rfl rfl) rfl rfl rfl rfl

theorem changeState_upToDate (new : StationState) (s : State) : UpToDate (changeState new s) := settle_upToDate _ _

/-! ## What holds between updates -/

/-- What the laws between updates read of a state. -/
def footprint (s : State) : List Bool × Sums × Bool × StationState × Identity × Bool :=
  (s.table.entries.map (·.suspect), s.table.sums, s.table.overcommit, s.mc.station, s.mc.identity,
    s.events.active.suspectPresent)

theorem footprint_of_untouched (h : Untouched s t) : footprint t = footprint s := by
  simp only [footprint, h.table, h.station, h.identity, h.active]

theorem map_modify_of_eq {α β : Type} {f : α → α} {g : α → β} (hg : ∀ a, g (f a) = g a) (l : List α) (i : Nat) :
    (l.modify i f).map g = l.map g := by
  refine List.ext_getElem? fun j => ?_
  simp only [List.getElem?_map, List.getElem?_modify]
  cases l[j]? with
  | none => simp
  | some a =>
    by_cases hij : i = j
    · simp [hij, hg]
    · simp [hij]

theorem takeTick_footprint (b : TickBlock) (s : State) : footprint (takeTick b s) = footprint s := by
  unfold takeTick
  split
  · cases b
    case shareTable =>
      have suspect : ∀ e : Entry, e.tick.suspect = e.suspect := by
        intro e
        unfold Entry.tick
        split <;> rfl
      simp [footprint, blockTick, Function.comp_def, suspect]
    case allocation => rfl
    case timeBase => rfl
  · rfl

theorem takeTicks_footprint (blocks : List TickBlock) (s : State) : footprint (takeTicks blocks s) = footprint s :=
  foldl_keeps footprint _ (fun s b => takeTick_footprint b s) _ _

theorem upset_footprint (u : Upset) (s : State) : footprint (upset u s) = footprint s := by
  unfold upset
  split
  · simp only [footprint, modEntry_entries, modEntry_keeps]
    rw [map_modify_of_eq]
    simp
  · rfl

theorem tick_footprint (event : TickEvent) (s : State) : footprint (tick event s) = footprint s := by
  unfold tick
  split
  · rfl
  · split
    · rw [takeTicks_footprint]
      exact (foldl_keeps footprint _ (fun s u => upset_footprint u s) _ _).trans (takeTicks_footprint _ _)
    · exact takeTicks_footprint _ _

theorem faultInChange_footprint (s : State) : footprint (faultInChange s) = footprint s := by simp [footprint]

theorem startPeriod_footprint (levels : LoadLevels) (between : Option Handover) (s : State) :
    footprint (startPeriod levels between s) = footprint s := by
  unfold startPeriod handFaultIn
  split
  · rfl
  · simp [footprint, AlertSet.put]

/-- `K` holds of every state that is up to date, and reads no more than the footprint. -/
structure SetByUpdates (K : State → Prop) : Prop where
  upToDate : ∀ {s}, UpToDate s → K s
  same : ∀ {s t}, K s → footprint t = footprint s → K t

theorem setByUpdates_sums : SetByUpdates SumsLaw where
  upToDate h := by
    obtain ⟨sums, overcommit, _⟩ := h
    refine ⟨?_, ?_⟩
    · rw [held_eq_of_sums sums]
      exact overcommit
    · rw [sums]
      rfl
  same h hf := by
    obtain ⟨overcommit, room⟩ := h
    simp only [footprint, Prod.mk.injEq] at hf
    obtain ⟨_, hsums, ho, _, hi, _⟩ := hf
    refine ⟨?_, ?_⟩
    · rw [ho, hsums, capacity_congr hi]
      exact overcommit
    · rw [hsums, capacity_congr hi]
      exact room

theorem setByUpdates_suspect : SetByUpdates (fun s => s.events.active.suspectPresent = anySuspect s) where
  upToDate h := h.suspect
  same h hf := by
    simp only [footprint, Prod.mk.injEq] at hf
    obtain ⟨he, _, _, hs, hi, ha⟩ := hf
    rw [ha, anySuspect_congr he hs hi]
    exact h

section
variable {K : State → Prop} (hK : SetByUpdates K)
include hK

theorem endUpdate_kept (source : Option Nat) (s : State) : K (endUpdate source s) :=
    hK.upToDate (endUpdate_upToDate source s)

theorem changeState_kept (new : StationState) (s : State) : K (changeState new s) := hK.upToDate (changeState_upToDate new s)

/-- Where a step that changed no record leaves `K`, the end of the step does. -/
theorem endIfChanged_kept (before after : State) (h : recordsChanged before after = false → K after) :
    K (endIfChanged before after) := by
  rcases endIfChanged_cases before after with ⟨heq, _⟩ | ⟨heq, hsame⟩
  · rw [heq]
    exact endUpdate_kept hK _ _
  · rw [heq]
    exact h hsame

/-! ## The ends of claims and attempts -/

theorem enterJoining_kept (s : State) : K (enterJoining s) :=
  hK.same (changeState_kept hK .joining s) (by simp [enterJoining, footprint])

theorem afterClaim_kept (kind : ClaimKind) (state : StationState) (h : K s) : K (afterClaim kind state s) := by
  cases kind
  case increase => exact hK.same h rfl
  case floor => exact changeState_kept hK _ _

theorem lapseClaim_kept (h : K s) : K (lapseClaim s) := by
  unfold lapseClaim
  split
  · exact h
  · exact afterClaim_kept hK _ _ (hK.same h (by simp [footprint]))

theorem abandonClaim_kept (reason : EndReason) (h : K s) : K (abandonClaim reason s) :=
  hK.same h (by simp [footprint])

theorem settleCommit_kept (h : K s) : K (settleCommit s) := by
  unfold settleCommit
  split
  · exact h
  · split
    · rename_i c _ _
      have waiting : K (setClaim (some { c with inFlight := false }) s) := hK.same h rfl
      unfold settleFailedCommit
      split
      · split
        · exact lapseClaim_kept hK waiting
        · exact abandonClaim_kept hK _ waiting
      · exact lapseClaim_kept hK waiting
      · exact abandonClaim_kept hK _ waiting
      · exact waiting
    · exact h

theorem exhaustHold_kept (collided : Bool) (h : K s) : K (exhaustHold collided s) := by
  unfold exhaustHold
  split
  · unfold holdExhausted restOrDrop
    split
    · exact hK.same h (by simp [footprint])
    · exact changeState_kept hK _ _
    · exact hK.same h (by simp [footprint])
  · exact h

theorem holdFailed_kept (collided : Bool) (h : K s) : K (holdFailed collided s) :=
  endIfChanged_kept hK _ _ fun _ => settleCommit_kept hK (exhaustHold_kept hK _ (hK.same h rfl))

theorem claimFailed_kept (collided : Bool) (h : K s) : K (claimFailed collided s) := by
  unfold claimFailed exhaustClaim
  split
  · exact endUpdate_kept hK _ _
  · exact hK.same h rfl

theorem dropAnswer_kept (k reason : Nat) (h : K s) : K (dropAnswer k reason s) := by
  refine endIfChanged_kept hK _ _ fun hsame => hK.same h ?_
  obtain ⟨entries, _⟩ := (recordsChanged_eq_false _ _).1 hsame
  simp only [footprint, entries]
  simp

theorem answerFailed_kept (k : Nat) (collided : Bool) (h : K s) : K (answerFailed k collided s) := by
  unfold answerFailed reportAnswer exhaustAnswer
  split
  · exact dropAnswer_kept hK _ _ (hK.same h rfl)
  split
  · exact dropAnswer_kept hK _ _ (hK.same h (by simp [footprint]))
  · exact hK.same h rfl

theorem slotFailed_kept (collided : Bool) (slot : SlotId) (h : K s) : K (slotFailed collided slot s) := by
  cases slot <;> unfold slotFailed <;> dsimp only <;> split
  · exact holdFailed_kept hK _ h
  · exact h
  · exact claimFailed_kept hK _ h
  · exact h
  · exact answerFailed_kept hK _ _ h
  · exact h

theorem holdCompleted_kept (h : K s) : K (holdCompleted s) := by
  unfold holdCompleted
  split
  · exact endUpdate_kept hK _ _
  · exact hK.same h (by simp [footprint])

theorem claimCompleted_kept (h : K s) : K (claimCompleted s) := by
  unfold claimCompleted
  split
  · exact hK.same h (by simp [footprint])
  · exact endUpdate_kept hK _ _

theorem holdOutlived_kept (h : K s) : K (holdOutlived s) := by
  unfold holdOutlived
  split
  · exact endUpdate_kept hK _ _
  · exact h

theorem claimOutlived_kept (a : Attempt) (h : K s) : K (claimOutlived a s) := by
  unfold claimOutlived
  split
  · exact endIfChanged_kept hK _ _ fun _ => hK.same h (by simp [footprint])
  · exact h

theorem slotCompleted_kept (a : Attempt) (h : K s) : K (slotCompleted a s) := by
  unfold slotCompleted
  split <;> split
  · exact holdCompleted_kept hK h
  · exact holdOutlived_kept hK h
  · exact claimCompleted_kept hK h
  · exact claimOutlived_kept hK a h
  · exact hK.same h (by simp [footprint])
  · exact h

theorem startAttempt_kept (slot : SlotId) (h : K s) : K (startAttempt slot s) := by
  cases slot
  case hold => exact endIfChanged_kept hK _ _ fun _ => hK.same h rfl
  case claim =>
    simp only [startAttempt, startClaim]
    split
    · exact hK.same h rfl
    · exact h
  case answer k =>
    simp only [startAttempt, startAnswer]
    split
    · exact hK.same h rfl
    · exact h

/-! ## The commands -/

theorem takeDuplicate_kept (kind : Nat) (h : K s) : K (takeDuplicate kind s) := by
  unfold takeDuplicate toFault
  split
  · exact h
  split
  · exact hK.same h (by simp [footprint, markDuplicate, AlertSet.put])
  · exact changeState_kept hK _ _

theorem frameVerdict_kept (h : K s) : K (frameVerdict s) := by
  unfold frameVerdict judgeFrame goodFrame
  split
  · split
    · exact hK.same h (by simp [footprint])
    split
    · exact hK.same h rfl
    split
    · split
      · exact hK.same h (by simp [footprint])
      · exact takeDuplicate_kept hK _ (hK.same h rfl)
    · exact hK.same h rfl
  · exact h

theorem membershipBoundary_kept (h : K s) : K (membershipBoundary s) := by
  have raised : K (raiseRetry (raiseCensus s)) := hK.same h (by simp [footprint])
  unfold membershipBoundary joinIfDue
  split
  · split
    · exact enterJoining_kept hK _
    · exact raised
  · split
    · exact enterJoining_kept hK _
    · exact raised
  · exact raised

theorem allocationBoundary_kept (h : K s) : K (allocationBoundary s) := by
  unfold allocationBoundary
  split
  · exact endUpdate_kept hK _ _
  · exact endUpdate_kept hK _ _
  · exact h

theorem outboxBoundary_kept (h : K s) : K (outboxBoundary s) := by
  unfold outboxBoundary
  split
  · exact hK.same h rfl
  · exact h

theorem takeBoundary_kept (b : Block) (h : K s) : K (takeBoundary b s) := by
  unfold takeBoundary
  split
  · have taken : K { s with time := { s.time with boundaryDue := s.time.boundaryDue.erase b } } := hK.same h rfl
    cases b <;> unfold blockBoundary <;> dsimp only
    case shareTable =>
      unfold tableBoundary
      exact endUpdate_kept hK _ _
    case membership => exact membershipBoundary_kept hK taken
    case allocation => exact allocationBoundary_kept hK taken
    case outbox => exact outboxBoundary_kept hK taken
  · exact h

theorem leaseBoundary_kept (order : List Block) (h : K s) : K (leaseBoundary order s) := by
  unfold leaseBoundary
  induction order generalizing s with
  | nil => exact h
  | cons b order ih => exact ih (takeBoundary_kept hK b h)

end

end Sys2Proof.Machine
end

section
/-! PROOFS. Every step keeps what the Share Table keeps over its entries (R6 to R8), and the alert conditions as
their owners hold
them (R168, R169). -/

namespace Sys2Proof.Machine

variable {K : State → Prop} {s t : State}

section
variable (hK : SetByUpdates K)
include hK

theorem resetEnd_kept (straps : Straps) (h : K s) : K (resetEnd straps s) := by
  unfold resetEnd
  split
  · split
    · exact changeState_kept hK _ _
    · exact hK.same h rfl
  · exact h

theorem commitDeadlinePassed_kept (h : K s) : K (commitDeadlinePassed s) := by
  unfold commitDeadlinePassed
  (repeat' split)
  · exact hK.same h rfl
  · exact endUpdate_kept hK _ _
  · exact h
  · exact h

theorem backoffEnd_kept (h : K s) : K (backoffEnd s) := by
  unfold backoffEnd startByItself
  (repeat' split)
  · exact hK.upToDate (settle_upToDate _ _)
  · exact hK.same h rfl
  · exact h

theorem answerDeadline_kept (k : Nat) (h : K s) : K (answerDeadline k s) := by
  unfold answerDeadline
  (repeat' split)
  · exact hK.same h rfl
  · exact dropAnswer_kept hK _ _ h
  · exact h

theorem watchdogExpired_kept (h : K s) : K (watchdogExpired s) := by
  unfold watchdogExpired
  split
  · refine hK.same (s := fenceUnfed _) ?_ rfl
    unfold fenceUnfed
    split
    iterate 3 exact endUpdate_kept hK _ _
    exact hK.same h (by simp [footprint])
  · exact h

theorem pilotPeriodStart_kept (levels : LoadLevels) (between : Option Handover) (h : K s) :
    K (pilotPeriodStart levels between s) := by
  unfold pilotPeriodStart
  split
  · exact hK.same h ((startPeriod_footprint _ _ _).trans (faultInChange_footprint s))
  · exact h

theorem txInhibitAsserted_kept (h : K s) : K (txInhibitAsserted s) := by
  unfold txInhibitAsserted
  (repeat' split)
  · exact slotFailed_kept hK _ _ (hK.same h rfl)
  · exact hK.same h rfl
  · exact hK.same h rfl

theorem lineOffer_kept (h : K s) : K (lineOffer s) := by
  unfold lineOffer
  (repeat' split)
  · exact startAttempt_kept hK _ (hK.same h rfl)
  · exact h
  · exact h

theorem attemptCompleted_kept (h : K s) : K (attemptCompleted s) := by
  unfold attemptCompleted
  (repeat' split)
  · exact slotCompleted_kept hK _ (hK.same h rfl)
  · exact h
  · exact h

theorem attemptCollided_kept (h : K s) : K (attemptCollided s) := by
  unfold attemptCollided
  (repeat' split)
  · exact slotFailed_kept hK _ _ (hK.same h rfl)
  · exact h
  · exact h

theorem holdReceived_kept (h : K s) : K (holdReceived s) := by
  unfold holdReceived takeHold holdChecked
  (repeat' split)
  · exact h
  · exact endUpdate_kept hK _ _
  · exact endUpdate_kept hK _ _
  · exact h

theorem farewellReceived_kept (h : K s) : K (farewellReceived s) := by
  unfold farewellReceived takeFarewell farewellChecked
  (repeat' split)
  · exact endUpdate_kept hK _ _
  · exact endUpdate_kept hK _ _
  · exact h
  · exact h

theorem announceReceived_kept (h : K s) : K (announceReceived s) := by
  unfold announceReceived
  split
  · exact endUpdate_kept hK _ _
  · exact h

theorem claimReceived_kept (h : K s) : K (claimReceived s) := by
  unfold claimReceived
  split
  · exact endUpdate_kept hK _ _
  · exact h

theorem assentReceived_kept (h : K s) : K (assentReceived s) := by
  unfold assentReceived
  split
  · exact endUpdate_kept hK _ _
  · exact h

theorem objectReceived_kept (h : K s) : K (objectReceived s) := by
  unfold objectReceived takeObject
  split
  · exact endUpdate_kept hK _ _
  · exact h

theorem snapshotTaken_kept (h : K s) : K (snapshotTaken s) := by
  unfold snapshotTaken
  split
  · exact hK.upToDate (tryStart_upToDate (keepCopy_upToDate (settle_upToDate _ _)))
  · exact h

theorem configureTaken_kept (h : K s) : K (configureTaken s) := by
  unfold configureTaken takeConfigure
  (repeat' split)
  · exact h
  · exact hK.same h (by simp [footprint])
  · exact hK.same h (by simp [footprint])
  · exact endUpdate_kept hK _ _
  · exact hK.same h (by simp [footprint])
  · exact h

theorem actOnActive_kept (h : K s) : K (actOnActive s) := by
  have resolved : ∀ result, K (resolveFirst result s) := fun _ => hK.same h (by simp [footprint])
  unfold actOnActive beginJoin
  split
  iterate 3
    (repeat' split)
    · exact enterJoining_kept hK _
    · exact changeState_kept hK _ _
    · exact resolved _
  · exact resolved _
  · exact resolved _

theorem actOnDetached_kept (h : K s) : K (actOnDetached s) := by
  have resolved : ∀ result, K (resolveFirst result s) := fun _ => hK.same h (by simp [footprint])
  unfold actOnDetached
  split
  iterate 6 exact changeState_kept hK _ _
  iterate 5 exact resolved _

theorem demandTaken_kept (h : K s) : K (demandTaken s) := by
  unfold demandTaken takeDemand
  (repeat' split)
  · exact h
  · exact hK.same h (by simp [footprint])
  · unfold actOnDemand
    exact endUpdate_kept hK _ _
  · exact h

/-- A law that updates set is kept by every command, if the entry to RESET keeps it. -/
theorem effect_kept (hreset : ∀ s rstN internal, K (enterReset rstN internal s)) (c : Instr) (h : K s) : K (effect c s) := by
  by_cases hc : quiet c = true
  · exact hK.same h (footprint_of_untouched (effect_untouched c hc s))
  cases c
  case rstNAsserted => exact hreset _ _ _
  case powerUp => exact hreset _ _ _
  case resetEnd straps => exact resetEnd_kept hK straps h
  case tick event => exact hK.same h (tick_footprint event s)
  case leaseBoundary order => exact leaseBoundary_kept hK order h
  case earmarkExpiry station =>
    simp only [effect, earmarkExpiry]
    split
    · exact endUpdate_kept hK _ _
    · exact h
  case responseWindowPassed =>
    simp only [effect, responseWindowPassed]
    split
    · exact endUpdate_kept hK _ _
    · exact h
  case commitDeadlinePassed => exact commitDeadlinePassed_kept hK h
  case backoffEnd => exact backoffEnd_kept hK h
  case answerDeadline slot => exact answerDeadline_kept hK slot h
  case watchdogExpired => exact watchdogExpired_kept hK h
  case pilotPeriodStart levels between => exact pilotPeriodStart_kept hK levels between h
  case faultInChange => exact hK.same h (faultInChange_footprint s)
  case txInhibitAsserted => exact txInhibitAsserted_kept hK h
  case lineOffer => exact lineOffer_kept hK h
  case attemptCompleted => exact attemptCompleted_kept hK h
  case attemptCollided => exact attemptCollided_kept hK h
  case frameVerdict => exact frameVerdict_kept hK h
  case holdReceived => exact holdReceived_kept hK h
  case farewellReceived => exact farewellReceived_kept hK h
  case announceReceived => exact announceReceived_kept hK h
  case claimReceived => exact claimReceived_kept hK h
  case assentReceived => exact assentReceived_kept hK h
  case objectReceived => exact objectReceived_kept hK h
  case transactionEnd shifted =>
    rcases transactionEnd_untouched shifted s with ⟨rstN, internal, s', heq⟩ | hsame
    · simp only [effect, heq]
      exact hreset _ _ _
    · exact hK.same h (footprint_of_untouched hsame)
  case snapshotTaken => exact snapshotTaken_kept hK h
  case configureTaken => exact configureTaken_kept hK h
  case stateRequestActiveTaken =>
    simp only [effect, stateRequestActiveTaken]
    (repeat' split)
    · exact h
    · exact actOnActive_kept hK (hK.same h rfl)
    · exact h
  case stateRequestDetachedTaken =>
    simp only [effect, stateRequestDetachedTaken]
    (repeat' split)
    · exact h
    · exact actOnDetached_kept hK (hK.same h (by simp [footprint]))
    · exact h
  case demandTaken => exact demandTaken_kept hK h
  all_goals exact absurd rfl hc

theorem oscPeriod_kept (h : K s) : K (oscPeriod s) := by
  unfold oscPeriod
  (repeat' split)
  · exact hK.same h rfl
  · exact hK.same h ((tick_footprint _ _).trans rfl)
  · exact hK.same h rfl

theorem step_kept (hreset : ∀ s rstN internal, K (enterReset rstN internal s)) (h : K s) (hstep : step s = .next t) : K t :=
  step_keeps (fun _ _ h => hK.same h rfl) (fun _ => oscPeriod_kept hK) (fun c _ => effect_kept hK hreset c) s t h hstep

end

/-! ## The Share Table and the alert conditions -/

theorem anySuspect_reset (s : State) (h : s.table.entries = List.replicate 24 Entry.empty) : anySuspect s = false := by
  have entry : ∀ i, (entryAt s i).suspect = false := by
    intro i
    simp only [entryAt, h, List.getElem?_replicate]
    split <;> rfl
  simp [anySuspect, views, view_suspect, entry]

theorem enterReset_sumsLaw (s : State) (rstN : Bool) (internal : Nat) : SumsLaw (enterReset rstN internal s) := by
  simp [SumsLaw, enterReset, State.reset, ShareTable.initial, capacity, Membership.initial]

theorem step_sumsLaw (h : SumsLaw s) (hstep : step s = .next t) : SumsLaw t :=
  step_kept setByUpdates_sums enterReset_sumsLaw h hstep

theorem step_conditionLaw (h : ConditionLaw s) (hstep : step s = .next t) : ConditionLaw t := by
  obtain ⟨owners, suspect⟩ := (conditionLaw_iff s).1 h
  refine (conditionLaw_iff t).2 ⟨step_ownerLaw owners hstep, step_kept setByUpdates_suspect ?_ suspect hstep⟩
  exact fun s rstN internal => (anySuspect_reset (enterReset rstN internal s) rfl).symm

end Sys2Proof.Machine
end

section
/-! PROOFS. The Event Unit (O54), the counts, the table's shape and RESET (O59), the pending requests (O58). -/

namespace Sys2Proof.Machine

variable {s t : State}

/-! ## The Event Unit's own operations (R161 to R170) -/

theorem EventUnit.take_filtered {u : EventUnit} {kind : EventKind} (station : Option Nat) (claim : Option Byte)
    (value : Option Half) (time : Half) (h : u.filter.get kind.cls = false) :
    u.take kind station claim value time = u := by simp [EventUnit.take, h]

theorem EventUnit.take_room {u : EventUnit} {kind : EventKind} (station : Option Nat) (claim : Option Byte)
    (value : Option Half) (time : Half) (h : u.filter.get kind.cls = true) (hroom : u.queue.length < 64) :
    u.take kind station claim value time =
      { u with
        queue := u.queue ++ [{ seq := u.nextSeq, kind := kind, station := station, claim := claim, value := value,
                               time := time, lossBefore := false }]
        nextSeq := u.nextSeq + 1 } := by
  simp [EventUnit.take, h, appendEvent, Config.queueDepth, hroom]

theorem EventUnit.take_full {u : EventUnit} {kind : EventKind} (station : Option Nat) (claim : Option Byte)
    (value : Option Half) (time : Half) (h : u.filter.get kind.cls = true) (hfull : u.queue.length = 64)
    {head second : Event} {rest : List Event} (hq : u.queue = head :: second :: rest) :
    u.take kind station claim value time =
      { u with
        queue := { second with lossBefore := true } ::
          (rest ++ [{ seq := u.nextSeq, kind := kind, station := station, claim := claim, value := value,
                      time := time, lossBefore := false }])
        nextSeq := u.nextSeq + 1 } := by
  have hnot : ¬ (head :: second :: rest).length < Config.queueDepth := by
    rw [← hq, hfull]
    decide
  simp only [EventUnit.take, h, if_true, appendEvent, hq, if_neg hnot]
  rfl

theorem attnAsserted_iff (u : EventUnit) :
    attnAsserted u = true ↔ (∃ e ∈ u.queue, u.steering.get e.kind.cls = .attn) ∨ 32 ≤ u.queue.length := by
  simp only [attnAsserted, Config.attnThreshold, Bool.or_eq_true, List.any_eq_true, beq_iff_eq]
  exact or_congr .rfl decide_eq_true_iff

theorem alertAsserted_iff (u : EventUnit) :
    alertAsserted u = true ↔
      (∃ c, u.active.has c = true ∧ u.acked.has c = false) ∨ ∃ e ∈ u.queue, u.steering.get e.kind.cls = .alert := by
  have conditions : (∃ c, u.active.has c = true ∧ u.acked.has c = false) ↔
      (u.active.overcommit = true ∧ u.acked.overcommit = false) ∨ (u.active.fenced = true ∧ u.acked.fenced = false)
        ∨ (u.active.fault = true ∧ u.acked.fault = false) ∨ (u.active.duplicate = true ∧ u.acked.duplicate = false)
        ∨ (u.active.suspectPresent = true ∧ u.acked.suspectPresent = false)
        ∨ (u.active.faultIn = true ∧ u.acked.faultIn = false) := by
    constructor
    · rintro ⟨c, h⟩
      cases c <;> simp_all [AlertSet.has]
    · rintro (h | h | h | h | h | h)
      exacts [⟨.overcommit, h⟩, ⟨.fenced, h⟩, ⟨.fault, h⟩, ⟨.duplicate, h⟩, ⟨.suspectPresent, h⟩, ⟨.faultIn, h⟩]
  rw [conditions]
  simp [alertAsserted, or_assoc]

/-- Settles O54: the queue by one induction over the operations, the conditions by their owners' writes and by the
end of each
update. -/
theorem everyStepKeepsTheEventUnit : Obligations.EveryStepKeepsTheEventUnit := by
  refine ⟨fun _ _ => step_eventLaw, fun _ _ => step_conditionLaw, ?_, ?_, ?_⟩
  · rintro kind station claim value time u _ rfl
    exact ⟨EventUnit.take_filtered _ _ _ _, EventUnit.take_room _ _ _ _,
      fun h hfull _ _ _ hq => EventUnit.take_full _ _ _ _ h hfull hq⟩
  · intro kind
    cases kind <;> rfl
  · refine fun s => ⟨attnAsserted_iff _, alertAsserted_iff _, fun hreset hlaw => ?_⟩
    obtain ⟨_, _, _, _, _, _, events, _⟩ := hlaw hreset
    rw [events]
    decide

/-! ## Counts and shape (O59) -/

/-- The parts of `CountLaw` that the elementary updates keep: all but the join-retry count. -/
structure CountsKept (s : State) : Prop where
  line : s.line.Counts
  time : s.time.Counts
  pilot : s.pilot.Counts
  census : s.mc.census ≤ 2

theorem stableCore_countsKept : StableCore CountsKept where
  raise _ _ _ _ h := by
    obtain ⟨line, time, pilot, census⟩ := h
    exact ⟨line, time, pilot, census⟩
  table _ _ _ h := ⟨h.line, h.time, h.pilot, h.census⟩
  alloc _ _ _ _ h := ⟨h.line, h.time, h.pilot, h.census⟩
  held _ _ h := ⟨h.line, h.time, h.pilot, h.census⟩
  drive h := ⟨h.line, h.time, h.pilot, h.census⟩
  outbox _ h := ⟨h.line, h.time, h.pilot, h.census⟩
  line _ hl h := ⟨hl h.line, h.time, h.pilot, h.census⟩
  pins _ h := ⟨h.line, h.time, h.pilot, h.census⟩
  port _ _ h := ⟨h.line, h.time, h.pilot, h.census⟩
  time _ ht _ h := ⟨h.line, ht h.time, h.pilot, h.census⟩
  pilot _ _ _ _ _ hp h := ⟨h.line, h.time, hp h.pilot, h.census⟩
  faultTaken h := ⟨h.line, h.time, h.pilot, h.census⟩
  mc _ _ _ _ _ hc h := ⟨h.line, h.time, h.pilot, hc h.census⟩
  events _ _ _ _ _ h := ⟨h.line, h.time, h.pilot, h.census⟩
  acknowledge h := ⟨h.line, h.time, h.pilot, h.census⟩
  finishPop h := ⟨h.line, h.time, h.pilot, h.census⟩
  suspectPresent _ h := ⟨h.line, h.time, h.pilot, h.census⟩
  overcommit _ h := ⟨h.line, h.time, h.pilot, h.census⟩
  duplicate h := ⟨h.line, h.time, h.pilot, h.census⟩
  request _ h := ⟨h.line, h.time, h.pilot, h.census⟩
  period levels between _ h := by
    obtain ⟨line, time, ⟨_, _, low, high⟩, census⟩ := h
    refine ⟨by simpa using line, by simpa using time, ?_, by simpa using census⟩
    rw [startPeriod_pilot]
    refine ⟨Nat.zero_lt_succ _, ?_, low, high⟩
    simp only [PilotUnit.nextPeriod]
    split
    · exact Nat.min_le_left _ _
    · exact Nat.zero_le _

theorem stable_countsKept : Stable CountsKept :=
  stableCore_countsKept.stable (fun _ _ _ h => ⟨h.line, h.time, h.pilot, h.census⟩)
    (fun _ _ h => ⟨h.line, h.time, h.pilot, h.census⟩) (fun _ _ h => ⟨h.line, h.time, h.pilot, h.census⟩)

theorem commits_countsKept : Commits CountsKept :=
  stableCore_countsKept.commits (fun _ _ _ h => ⟨h.line, h.time, h.pilot, h.census⟩)
    (fun _ _ h => ⟨h.line, h.time, h.pilot, h.census⟩) (fun _ _ h => ⟨h.line, h.time, h.pilot, h.census⟩)

theorem free_countsKept : FreeOfRequests CountsKept :=
  ⟨fun _ h => ⟨h.line, h.time, h.pilot, h.census⟩, fun _ h => ⟨h.line, h.time, h.pilot, h.census⟩⟩

/-- The range of the join-retry count (R36). -/
def RetryLaw (s : State) : Prop := s.mc.retry ≤ 4 ∧ (s.mc.station = .waiting → s.mc.retry < 4)

theorem stableCore_retryLaw : StableCore RetryLaw where
  raise _ _ _ _ h := h
  table _ _ _ h := h
  alloc _ _ _ _ h := h
  held _ _ h := h
  drive h := h
  outbox _ h := h
  line _ _ h := h
  pins _ h := h
  port _ _ h := h
  time _ _ _ h := h
  pilot _ _ _ _ _ _ h := h
  faultTaken h := h
  mc m hs _ _ hr _ h := by
    unfold RetryLaw
    rw [hs, hr]
    exact h
  events _ _ _ _ _ h := h
  acknowledge h := h
  finishPop h := h
  suspectPresent _ h := h
  overcommit _ h := h
  duplicate h := h
  request _ h := h
  period _ _ _ h := by simpa [RetryLaw] using h

/-- Entering WAITING clears the join-retry count (R36); every other change of state keeps it. -/
theorem changeState_retry (new : StationState) (s : State) :
    (changeState new s).mc.retry = if new = .waiting then 0 else s.mc.retry := by
  simp only [changeState, settle_keeps, resolveReached_keeps]
  unfold clearRetry
  split <;> simp

theorem changeState_retryLaw (new : StationState) (h : RetryLaw s) : RetryLaw (changeState new s) := by
  obtain ⟨bound, _⟩ := h
  unfold RetryLaw
  rw [changeState_retry, (changeState_reaches new s).1]
  split
  · exact ⟨Nat.zero_le _, fun _ => Nat.zero_lt_succ _⟩
  · exact ⟨bound, fun hw => absurd hw ‹_›⟩

theorem enterJoining_retryLaw (h : s.mc.retry ≤ 4) : RetryLaw (enterJoining s) := by
  have station : (enterJoining s).mc.station = .joining := by simp [enterJoining]
  have retry : (enterJoining s).mc.retry = s.mc.retry := by simp [enterJoining, changeState_retry]
  exact ⟨by rw [retry]; exact h, fun hw => by rw [station] at hw; cases hw⟩

/-- The raised count reaches 4 only where the station then joins (R36). -/
theorem joinIfDue_retryLaw (h : RetryLaw s) : RetryLaw (joinIfDue (raiseRetry s)) := by
  obtain ⟨bound, waiting⟩ := h
  unfold raiseRetry
  split
  · rename_i hw
    have below := waiting hw
    unfold joinIfDue
    simp only [hw]
    split
    · exact enterJoining_retryLaw below
    · rename_i hnot
      exact ⟨below, fun _ => Nat.lt_of_not_le hnot⟩
  · rename_i hnot
    have kept : RetryLaw s := ⟨bound, waiting⟩
    unfold joinIfDue
    (repeat' split)
    · exact enterJoining_retryLaw bound
    · exact kept
    · exact absurd ‹_› hnot
    · exact kept
    · exact kept

theorem stable_retryLaw : Stable RetryLaw where
  core := stableCore_retryLaw
  change new _ h := changeState_retryLaw new h
  retry := joinIfDue_retryLaw
  note _ h := h
  demand target h := takeDemand_stable stableCore_retryLaw (fun _ h => h) target h

theorem commits_retryLaw : Commits RetryLaw where
  increase _ h := by simpa [RetryLaw] using h
  join _ h := changeState_retryLaw _ (by simpa [RetryLaw] using h)

theorem free_retryLaw : FreeOfRequests RetryLaw := ⟨fun _ h => h, fun _ h => h⟩

theorem countLaw_iff (s : State) : CountLaw s ↔ CountsKept s ∧ RetryLaw s := by
  constructor
  · rintro ⟨divider, lmatch, post, interval, remaining, lock, census, retry, waiting, idle, skip, acc, length, pos, phase,
      duty, low, high⟩
    exact ⟨⟨⟨idle, skip, acc, length, pos⟩, ⟨divider, lmatch, post, interval, remaining, lock⟩, ⟨phase, duty, low, high⟩,
      census⟩, retry, waiting⟩
  · rintro ⟨⟨⟨idle, skip, acc, length, pos⟩, ⟨divider, lmatch, post, interval, remaining, lock⟩, ⟨phase, duty, low, high⟩,
      census⟩, retry, waiting⟩
    exact ⟨divider, lmatch, post, interval, remaining, lock, census, retry, waiting, idle, skip, acc, length, pos, phase,
      duty, low, high⟩

theorem enterReset_countsKept (s : State) (rstN : Bool) (internal : Nat) (h : CountsKept s) :
    CountsKept (enterReset rstN internal s) := by
  obtain ⟨_, _, bits⟩ := h.line
  refine ⟨⟨Nat.zero_le _, Nat.zero_le _, bits⟩, ?_, ?_, Nat.zero_le _⟩
  · simp [TimeBase.Counts, enterReset, State.reset, TimeBase.initial]
  · simp [PilotUnit.Counts, enterReset, State.reset, PilotUnit.initial]

theorem step_countLaw (h : CountLaw s) (hstep : step s = .next t) : CountLaw t := by
  obtain ⟨counts, retry⟩ := (countLaw_iff s).1 h
  refine (countLaw_iff t).2 ⟨?_, ?_⟩
  · exact step_stable stable_countsKept commits_countsKept
        (fun _ _ h => ⟨h.line, h.time, h.pilot, h.census⟩) enterReset_countsKept
      (fun c _ hc => movesRequests_free free_countsKept stable_countsKept c hc) counts hstep
  · exact step_stable stable_retryLaw commits_retryLaw (fun _ _ h => h)
        (fun _ _ _ _ => ⟨Nat.zero_le _, fun _ => Nat.zero_lt_succ _⟩)
      (fun c _ hc => movesRequests_free free_retryLaw stable_retryLaw c hc) retry hstep

theorem stableCore_shapeLaw : StableCore ShapeLaw where
  raise _ _ _ _ h := h
  table _ hl _ h := ⟨hl.trans h.1, h.2⟩
  alloc _ _ _ _ h := h
  held _ _ h := h
  drive h := h
  outbox _ h := h
  line _ _ h := h
  pins _ h := h
  port _ _ h := h
  time _ _ hd h := ⟨h.1, hd h.2⟩
  pilot _ _ _ _ _ _ h := h
  faultTaken h := h
  mc _ _ _ _ _ _ h := h
  events _ _ _ _ _ h := h
  acknowledge h := h
  finishPop h := h
  suspectPresent _ h := h
  overcommit _ h := h
  duplicate h := h
  request _ h := h
  period _ _ _ h := by simpa [ShapeLaw] using h

theorem stable_shapeLaw : Stable ShapeLaw :=
  stableCore_shapeLaw.stable (fun _ _ _ h => h) (fun _ _ h => h) (fun _ _ h => h)

theorem commits_shapeLaw : Commits ShapeLaw :=
  stableCore_shapeLaw.commits (fun _ _ _ h => h) (fun _ _ h => h) (fun _ _ h => h)

theorem free_shapeLaw : FreeOfRequests ShapeLaw := ⟨fun _ h => h, fun _ h => h⟩

theorem step_shapeLaw (h : ShapeLaw s) (hstep : step s = .next t) : ShapeLaw t :=
  step_stable stable_shapeLaw commits_shapeLaw (fun _ _ h => h)
    (fun _ _ _ _ => ⟨by simp [enterReset, State.reset, ShareTable.initial], List.nodup_nil⟩)
    (fun c _ hc => movesRequests_free free_shapeLaw stable_shapeLaw c hc) h hstep

/-! ## RESET (R25, R117) -/

theorem stableCore_running : StableCore (fun s => s.mc.station ≠ .reset) where
  raise _ _ _ _ h := h
  table _ _ _ h := h
  alloc _ _ _ _ h := h
  held _ _ h := h
  drive h := h
  outbox _ h := h
  line _ _ h := h
  pins _ h := h
  port _ _ h := h
  time _ _ _ h := h
  pilot _ _ _ _ _ _ h := h
  faultTaken h := h
  mc _ hs _ _ _ _ h := fun hr => h (hs ▸ hr)
  events _ _ _ _ _ h := h
  acknowledge h := h
  finishPop h := h
  suspectPresent _ h := h
  overcommit _ h := h
  duplicate h := h
  request _ h := h
  period _ _ _ h := by simpa using h

theorem stable_running : Stable (fun s => s.mc.station ≠ .reset) :=
  stableCore_running.stable (fun _ _ hnew _ => hnew) (fun _ _ h => h) (fun _ _ h => h)

theorem commits_running : Commits (fun s => s.mc.station ≠ .reset) :=
  stableCore_running.commits (fun _ _ hnew _ => hnew) (fun _ _ h => h) (fun _ _ h => h)

theorem free_running : FreeOfRequests (fun s => s.mc.station ≠ .reset) := ⟨fun _ h => h, fun _ h => h⟩

/-- Only the reset commands lead to RESET (R25). -/
theorem effect_running (c : Instr) (hc : mayReset c = false) (h : s.mc.station ≠ .reset) :
    (effect c s).mc.station ≠ .reset :=
  effect_stable_of_running stable_running (fun _ => commits_running)
    (fun c _ hc => movesRequests_free free_running stable_running c hc) hc h

/-- What the transmitter drives is no attempt that has still to be reported. -/
theorem slot?_eq_none {tx : Transmitter} : tx.slot? = none ↔ ∀ a, tx = .sending a → a.stopped = true := by
  cases tx with
  | none => simp [Transmitter.slot?, Transmitter.attempt?]
  | sending a => cases hs : a.stopped <;> simp [Transmitter.slot?, Transmitter.attempt?, hs]
  | marking a start => simp [Transmitter.slot?, Transmitter.attempt?]

theorem intoReset_slot? (tx : Transmitter) : tx.intoReset.slot? = none := by
  refine slot?_eq_none.2 fun a ha => ?_
  unfold Transmitter.intoReset at ha
  split at ha
  · cases ha
  · cases tx with
    | none => cases ha
    | sending b =>
      unfold Transmitter.cut at ha
      dsimp only at ha
      split at ha
      · cases ha
      · cases ha
        rfl
    | marking b start => cases ha

theorem advance_slot? {tx : Transmitter} (h : tx.slot? = none) : tx.advance.slot? = none := by
  refine slot?_eq_none.2 fun a ha => ?_
  cases tx with
  | none => cases ha
  | sending b =>
    have stopped := slot?_eq_none.1 h b rfl
    simp [Transmitter.advance, stopped] at ha
  | marking b start => cases ha

theorem LineInterface.release_slot? {l : LineInterface} (h : l.tx.slot? = none) : l.release.tx.slot? = none := by
  unfold LineInterface.release
  split
  · rfl
  · exact h

theorem LineInterface.edge_slot? {l : LineInterface} (h : l.tx.slot? = none) : l.edge.tx.slot? = none := by
  unfold LineInterface.edge
  split
  · exact advance_slot? h
  · exact h

theorem LineInterface.period_slot? {l : LineInterface} (h : l.tx.slot? = none) : l.period.tx.slot? = none := by
  unfold LineInterface.period
  split
  · exact advance_slot? h
  · exact h

theorem enterReset_resetLaw (rstN : Bool) (internal : Nat) (s : State) : ResetLaw (enterReset rstN internal s) :=
  fun _ => ⟨rfl, rfl, rfl, rfl, rfl, rfl, rfl, rfl, rfl, rfl, rfl, intoReset_slot? _⟩

theorem resetLaw_of_running (h : s.mc.station ≠ .reset) : ResetLaw s := fun hr => absurd hr h

/-- In RESET the pins and what the transmitter still drives may change. -/
theorem ResetLaw.line {l : LineInterface} (p : Pins) (h : ResetLaw s) (hrx : l.rx = s.line.rx) (hidle : l.idle = s.line.idle)
    (hinbox : l.inbox = s.line.inbox) (htx : s.line.tx.slot? = none → l.tx.slot? = none) :
    ResetLaw { s with pins := p, line := l } := by
  intro hs
  obtain ⟨mc, table, alloc, outbox, time, pilot, events, port, rx, idle, inbox, tx⟩ := h hs
  exact ⟨mc, table, alloc, outbox, time, pilot, events, port, hrx.trans rx, hidle.trans idle, hinbox.trans inbox, htx tx⟩

theorem ResetLaw.pins (p : Pins) (h : ResetLaw s) : ResetLaw { s with pins := p } := h.line p rfl rfl rfl id

theorem decoded_in_reset (c : Instr) (act : State → State) (hs : s.mc.station = .reset) : decoded c act s = s := by
  simp [decoded, hears, hs]

theorem answerAt_initial {k : Nat} (h : s.outbox = .initial) : answerAt s k = AnswerSlot.empty := by
  simp only [answerAt, h, Outbox.initial, List.getElem?_replicate]
  split <;> rfl

/-- The commands of RESET (R25, R117): all but reset end and the line's own timing leave the station as it is, or
move a pin. -/
theorem effect_resetLaw_of_reset (c : Instr) (h : ResetLaw s) (hs : s.mc.station = .reset) : ResetLaw (effect c s) := by
  obtain ⟨_, _, alloc, outbox, time, _, _, port, rx, _, inbox, tx⟩ := h hs
  have unsent := slot?_eq_none.1 tx
  have mode : s.line.rx.mode = .hunt := by rw [rx]; rfl
  cases c
  case rstNAsserted => exact enterReset_resetLaw _ _ _
  case powerUp => exact enterReset_resetLaw _ _ _
  case resetEnd straps =>
    simp only [effect, resetEnd, hs, if_true]
    split
    · refine resetLaw_of_running ?_
      rw [(changeState_reaches _ _).1]
      split <;> decide
    · exact h.pins _
  case cutMarkEnd =>
    simp only [effect, cutMarkEnd]
    split
    · exact h.line _ rfl rfl rfl (fun _ => rfl)
    · exact h
  case leaseBoundary order =>
    have none : ∀ b, takeBoundary b s = s := by simp [takeBoundary, time, TimeBase.initial]
    have same : effect (.leaseBoundary order) s = s := by
      simp only [effect, leaseBoundary]
      induction order with
      | nil => rfl
      | cons b order ih => simpa [none] using ih
    rw [same]
    exact h
  case txInhibitAsserted =>
    have same : effect .txInhibitAsserted s = setInhibit true s := by
      simp only [effect, txInhibitAsserted]
      split
      · simp [Attempt.live, unsent _ ‹_›]
      · rfl
    rw [same]
    exact h.pins _
  case txInhibitDeasserted => exact h.pins _
  case attemptCompleted =>
    have same : effect .attemptCompleted s = s := by
      simp only [effect, attemptCompleted]
      split
      · simp [Attempt.completed, unsent _ ‹_›]
      · rfl
    rw [same]
    exact h
  case attemptCollided =>
    have same : effect .attemptCollided s = s := by
      simp only [effect, attemptCollided]
      split
      · simp [Attempt.collided, unsent _ ‹_›]
      · rfl
    rw [same]
    exact h
  case transactionStart =>
    simp only [effect, transactionStart, beginRequest]
    split
    · rw [if_neg (fun hc => hc.1 hs)]
      exact h.pins _
    · exact h
  case transactionEnd shifted =>
    simp only [effect, transactionEnd, endTransaction]
    split
    · exact h
    · rw [if_pos (show (setSelect true s).mc.station = .reset from hs)]
      exact h.pins _
  case lineRxEdge =>
    simp only [effect, lineRxEdge, hs, if_true]
    split
    · exact h
    · exact h.line _ (by simp) (by simp) (by simp)
        (fun htx => LineInterface.release_slot? (LineInterface.edge_slot? htx))
  case tick => simpa [effect, tick, hs] using h
  case earmarkExpiry => simpa [effect, earmarkExpiry, hs] using h
  case responseWindowPassed => simpa [effect, responseWindowPassed, alloc, Allocation.initial] using h
  case commitDeadlinePassed => simpa [effect, commitDeadlinePassed, alloc, Allocation.initial] using h
  case backoffEnd => simpa [effect, backoffEnd, alloc, Allocation.initial] using h
  case answerDeadline =>
    simpa [effect, answerDeadline, answerAt_initial outbox, AnswerSlot.overdue, AnswerSlot.empty] using h
  case watchdogExpired => simpa [effect, watchdogExpired, hs] using h
  case pilotPeriodStart => simpa [effect, pilotPeriodStart, hs] using h
  case faultInChange => simpa [effect, faultInChange, hs] using h
  case lineOffer => simpa [effect, lineOffer, lineAvailable, hs] using h
  case frameHeader => simpa [effect, frameHeader, mode] using h
  case skipEnd => simpa [effect, skipEnd, mode] using h
  case frameVerdict => simpa [effect, frameVerdict, mode] using h
  case holdReceived => simpa [effect, holdReceived, inbox] using h
  case farewellReceived => simpa [effect, farewellReceived, inbox] using h
  case announceReceived => simpa [effect, announceReceived, inbox] using h
  case claimReceived => simpa [effect, claimReceived, inbox] using h
  case assentReceived => simpa [effect, assentReceived, inbox] using h
  case objectReceived => simpa [effect, objectReceived, inbox] using h
  case snapshotTaken => simpa [effect, snapshotTaken, hs] using h
  case configureTaken => simpa [effect, configureTaken, port, Port.initial] using h
  case stateRequestActiveTaken => simpa [effect, stateRequestActiveTaken, port, Port.initial] using h
  case stateRequestDetachedTaken => simpa [effect, stateRequestDetachedTaken, port, Port.initial] using h
  case demandTaken => simpa [effect, demandTaken, port, Port.initial] using h
  case syncPatternMatch => simpa [effect, syncPatternMatch, hs] using h
  case lineBitTaken => simpa [effect, lineBitTaken, hs] using h
  all_goals
    simp only [effect, decoded_in_reset _ _ hs]
    exact h

theorem effect_resetLaw (c : Instr) (h : ResetLaw s) : ResetLaw (effect c s) := by
  by_cases hs : s.mc.station = .reset
  · exact effect_resetLaw_of_reset c h hs
  by_cases hc : mayReset c = false
  · exact resetLaw_of_running (effect_running c hc hs)
  cases c
  case rstNAsserted => exact enterReset_resetLaw _ _ _
  case powerUp => exact enterReset_resetLaw _ _ _
  case transactionEnd shifted =>
    rcases transactionEnd_untouched shifted s with ⟨_, _, _, heq⟩ | hsame
    · simp only [effect, heq]
      exact enterReset_resetLaw _ _ _
    · exact resetLaw_of_running (fun hr => hs (hsame.station ▸ hr))
  all_goals exact absurd rfl hc

theorem oscPeriod_resetLaw (h : ResetLaw s) : ResetLaw (oscPeriod s) := by
  by_cases hs : s.mc.station = .reset
  · simp only [oscPeriod, hs, if_true, resetPeriod]
    split
    · exact h.pins _
    · exact h.line _ (by simp) (by simp) (by simp)
        (fun htx => LineInterface.release_slot? (LineInterface.period_slot? htx))
  · exact resetLaw_of_running (oscPeriod_stable stable_running hs)

theorem step_resetLaw (h : ResetLaw s) (hstep : step s = .next t) : ResetLaw t :=
  step_keeps (P := ResetLaw) (fun _ _ h => h) (fun _ => oscPeriod_resetLaw) (fun c _ => effect_resetLaw c) s t h hstep

/-- Settles O59: the counts and the shape by the induction over the operations, RESET command by command. -/
theorem everyStepKeepsCountsAndReset : Obligations.EveryStepKeepsCountsAndReset :=
  ⟨fun _ _ => step_countLaw, fun _ _ => step_resetLaw, fun _ _ => step_shapeLaw⟩

end Sys2Proof.Machine
end

section
/-! PROOFS. The command FIFO and the pending-request record agree (R45, R182): the arrivals and the takings keep them
so, and no
other command moves either but by resolving a request that has been taken. -/

namespace Sys2Proof.Machine

variable {s t : State} {fifo : List QueuedRequest} {r : PendingRequest}

/-- The law of a FIFO and a record; `requestLaw_iff` ties it to `RequestLaw`. -/
structure Agree (fifo : List QueuedRequest) (r : PendingRequest) : Prop where
  bound : fifo.length ≤ 8
  demand : fifo.countP QueuedRequest.isDemand ≤ 1
  waiting : waitingTargets fifo = r.waiting
  behind : r.behind = true → r.first = some .active ∧ r.taken = true
  taken : r.taken = true → r.first.isSome = true

theorem requestLaw_iff (s : State) : RequestLaw s ↔ Agree s.port.fifo s.mc.request :=
  ⟨fun ⟨bound, demand, waiting, behind, taken⟩ => ⟨bound, demand, waiting, behind, taken⟩,
    fun ⟨bound, demand, waiting, behind, taken⟩ => ⟨bound, demand, waiting, behind, taken⟩⟩

/-! ## The record's own moves -/

/-- A taken request resolved: what waits is the DETACHED behind it, if there is one (R48). -/
theorem Agree.next (h : Agree fifo r) (ht : r.taken = true) : Agree fifo r.next := by
  obtain ⟨bound, demand, waiting, behind, _⟩ := h
  refine ⟨bound, demand, ?_, by simp [PendingRequest.next], by simp [PendingRequest.next]⟩
  rw [waiting]
  cases hb : r.behind <;> simp [PendingRequest.waiting, PendingRequest.next, ht, hb]

theorem stableCore_agree : StableCore (fun s => Agree s.port.fifo s.mc.request) where
  raise _ _ _ _ h := h
  table _ _ _ h := h
  alloc _ _ _ _ h := h
  held _ _ h := h
  drive h := h
  outbox _ h := h
  line _ _ h := h
  pins _ h := h
  port p hp h := by
    rw [hp]
    exact h
  time _ _ _ h := h
  pilot _ _ _ _ _ _ h := h
  faultTaken h := h
  mc m _ _ hr _ _ h := by
    rw [hr]
    exact h
  events _ _ _ _ _ h := h
  acknowledge h := h
  finishPop h := h
  suspectPresent _ h := h
  overcommit _ h := h
  duplicate h := h
  request ht h := h.next ht
  period _ _ _ h := by simpa using h

theorem stable_agree : Stable (fun s => Agree s.port.fifo s.mc.request) :=
  stableCore_agree.stable (fun _ _ _ h => h) (fun _ _ h => h) (fun _ _ h => h)

theorem commits_agree : Commits (fun s => Agree s.port.fifo s.mc.request) :=
  stableCore_agree.commits (fun _ _ _ h => h) (fun _ _ h => h) (fun _ _ h => h)

/-! ## The FIFO's moves -/

theorem waitingTargets_append (fifo : List QueuedRequest) (q : QueuedRequest) :
    waitingTargets (fifo ++ [q]) = waitingTargets fifo ++ waitingTargets [q] := by
  simp [waitingTargets, List.filterMap_append]

theorem Agree.place_configure (h : Agree fifo r) (hroom : fifo.length < 8) (record : ConfigRecord) :
    Agree (fifo ++ [.configure record]) r := by
  obtain ⟨_, demand, waiting, behind, taken⟩ := h
  refine ⟨by simpa using hroom, by simpa [List.countP_append, QueuedRequest.isDemand] using demand, ?_, behind, taken⟩
  rw [waitingTargets_append, waiting]
  simp [waitingTargets]

theorem Agree.place_demand (h : Agree fifo r) (hroom : fifo.length < 8) (hnone : fifo.any QueuedRequest.isDemand = false)
    (target : Half) : Agree (fifo ++ [.demand target]) r := by
  obtain ⟨_, _, waiting, behind, taken⟩ := h
  have none : fifo.countP QueuedRequest.isDemand = 0 := by
    rw [List.countP_eq_zero]
    simpa using hnone
  refine ⟨by simpa using hroom, by simp [List.countP_append, QueuedRequest.isDemand, none], ?_, behind, taken⟩
  rw [waitingTargets_append, waiting]
  simp [waitingTargets]

/-- A DEMAND that takes a waiting DEMAND's place moves nothing else (R182). -/
theorem Agree.coalesce (h : Agree fifo r) (target : Half) : Agree (fifo.map (coalesce target)) r := by
  obtain ⟨bound, demand, waiting, behind, taken⟩ := h
  have kind : ∀ q, (Machine.coalesce target q).isDemand = q.isDemand := by rintro (_ | _ | _) <;> rfl
  have waits : waitingTargets (fifo.map (Machine.coalesce target)) = waitingTargets fifo := by
    simp only [waitingTargets, List.filterMap_map]
    congr 1
    funext q
    cases q <;> rfl
  refine ⟨by simpa using bound, ?_, waits.trans waiting, behind, taken⟩
  rw [List.countP_map]
  simpa [Function.comp_def, kind] using demand

/-- A STATE_REQUEST placed, with a record in which it waits behind what waited (R45). -/
theorem Agree.place_stateRequest {r' : PendingRequest} (h : Agree fifo r) (hroom : fifo.length < 8) (target : Target)
    (hwaiting : r'.waiting = r.waiting ++ [target])
    (hbehind : r'.behind = true → r'.first = some .active ∧ r'.taken = true)
    (htaken : r'.taken = true → r'.first.isSome = true) : Agree (fifo ++ [.stateRequest target]) r' := by
  obtain ⟨_, demand, waiting, _, _⟩ := h
  refine ⟨by simpa using hroom, by simpa [List.countP_append, QueuedRequest.isDemand] using demand, ?_, hbehind, htaken⟩
  rw [waitingTargets_append, waiting, hwaiting]
  rfl

/-- A waiting ACTIVE's place given to a DETACHED (R45). -/
theorem Agree.toDetached (h : Agree fifo r) (hwaiting : r.waiting = [.active]) :
    Agree (fifo.map QueuedRequest.toDetached) { first := some .detached, taken := false, behind := false } := by
  obtain ⟨bound, demand, waiting, _, _⟩ := h
  have kind : ∀ q : QueuedRequest, q.toDetached.isDemand = q.isDemand := by rintro (_ | _ | _) <;> rfl
  have waits : waitingTargets (fifo.map QueuedRequest.toDetached) = (waitingTargets fifo).map (fun _ => .detached) := by
    simp only [waitingTargets, List.filterMap_map, List.map_filterMap]
    congr 1
    funext q
    cases q <;> rfl
  refine ⟨by simpa using bound, ?_, ?_, by simp, by simp⟩
  · rw [List.countP_map]
    simpa [Function.comp_def, kind] using demand
  · rw [waits, waiting, hwaiting]
    rfl

/-- A request other than a STATE_REQUEST taken from the head. -/
theorem Agree.tail {q : QueuedRequest} (h : Agree (q :: fifo) r) (hq : waitingTargets [q] = []) : Agree fifo r := by
  obtain ⟨bound, demand, waiting, behind, taken⟩ := h
  refine ⟨?_, ?_, ?_, behind, taken⟩
  · simp only [List.length_cons] at bound
    omega
  · exact Nat.le_trans (List.Sublist.countP_le (List.sublist_cons_self q fifo)) demand
  · have split : waitingTargets (q :: fifo) = waitingTargets [q] ++ waitingTargets fifo :=
      List.filterMap_append (l := [q]) (l' := fifo)
    rw [← waiting, split, hq]
    rfl

/-- The STATE_REQUEST at the head is the one that waits, or the DETACHED behind a taken ACTIVE; taken, it waits no longer
(R46, R47). -/
theorem Agree.take {target : Target} (h : Agree (.stateRequest target :: fifo) r) :
    (r.taken = false → r.behind = false ∧ r.first = some target)
      ∧ (r.taken = true → target = .detached ∧ r.behind = true)
      ∧ Agree fifo { first := some target, taken := true, behind := false } := by
  obtain ⟨bound, demand, waiting, behind, taken⟩ := h
  have split : waitingTargets (.stateRequest target :: fifo) = target :: waitingTargets fifo := rfl
  rw [split] at waiting
  have left : waitingTargets fifo = [] := by
    cases ht : r.taken <;> cases hb : r.behind <;> cases hf : r.first <;> simp_all [PendingRequest.waiting]
  refine ⟨fun ht => ?_, fun ht => ?_, ⟨?_, ?_, left, by simp, by simp⟩⟩
  · have nobody : r.behind = false := by
      cases hb : r.behind
      · rfl
      · have := (behind hb).2
        simp_all
    refine ⟨nobody, ?_⟩
    cases hf : r.first <;> simp_all [PendingRequest.waiting]
  · cases hb : r.behind <;> simp_all [PendingRequest.waiting]
  · simp only [List.length_cons] at bound
    omega
  · exact Nat.le_trans (List.Sublist.countP_le (List.sublist_cons_self _ fifo)) demand

/-! ## The arrivals and the takings -/

theorem fifoHasRoom_iff (s : State) : fifoHasRoom s = true ↔ s.port.fifo.length < 8 := decide_eq_true_iff

/-- What the law reads of a state. -/
def RequestsAgree (s : State) : Prop := Agree s.port.fifo s.mc.request

theorem configureArrives_agree (record : ConfigRecord) (h : RequestsAgree s) :
    RequestsAgree (configureArrives record s) := by
  unfold configureArrives
  split
  · exact h.place_configure ((fifoHasRoom_iff s).1 ‹_›) record
  · exact h

theorem demandArrives_agree (target : Half) (h : RequestsAgree s) : RequestsAgree (demandArrives target s) := by
  unfold demandArrives
  split
  · exact h.coalesce target
  split
  · exact h.place_demand ((fifoHasRoom_iff s).1 ‹_›)
      (by simpa using ‹¬ s.port.fifo.any QueuedRequest.isDemand = true›) target
  · exact h

theorem placeStateRequest_agree {target : Target} {r : PendingRequest} (h : RequestsAgree s)
    (hwaiting : r.waiting = s.mc.request.waiting ++ [target])
    (hbehind : r.behind = true → r.first = some .active ∧ r.taken = true)
    (htaken : r.taken = true → r.first.isSome = true) : RequestsAgree (placeStateRequest target r s) := by
  unfold placeStateRequest
  split
  · exact h.place_stateRequest ((fifoHasRoom_iff s).1 ‹_›) target hwaiting
      hbehind htaken
  · exact h

theorem stateRequestArrives_agree (target : Byte) (h : RequestsAgree s) : RequestsAgree (stateRequestArrives target s) := by
  have behind := h.behind
  have taken := h.taken
  unfold stateRequestArrives
  dsimp only
  split
  · exact h
  · rename_i hfirst
    refine placeStateRequest_agree h ?_ (by simp) (by simp)
    cases ht : s.mc.request.taken <;> cases hb : s.mc.request.behind <;> simp_all [PendingRequest.waiting]
  · rename_i hfirst
    split
    · exact h
    rename_i hb
    split
    · rename_i ht
      refine placeStateRequest_agree h ?_ (fun _ => ⟨hfirst, ht⟩) (by simp [hfirst])
      simp [PendingRequest.waiting, ht, hb]
    · rename_i ht
      have waiting : s.mc.request.waiting = [.active] := by simp [PendingRequest.waiting, ht, hb, hfirst]
      have replaced := h.toDetached waiting
      simpa [RequestsAgree, replaceWaiting] using replaced
  · exact h
  · exact h

theorem configureTaken_agree (h : RequestsAgree s) : RequestsAgree (configureTaken s) := by
  unfold configureTaken
  split
  · rename_i hq
    have agree : Agree s.port.fifo s.mc.request := h
    rw [hq] at agree
    split
    · exact h
    · refine takeConfigure_stable stable_agree _ ?_
      simp only [popFifo, setPort_port, hq, List.tail_cons]
      exact agree.tail rfl
  · exact h

theorem demandTaken_agree (h : RequestsAgree s) : RequestsAgree (demandTaken s) := by
  unfold demandTaken
  split
  · rename_i hq
    have agree : Agree s.port.fifo s.mc.request := h
    rw [hq] at agree
    split
    · exact h
    · refine stable_agree.demand _ ?_
      simp only [popFifo, setPort_port, hq, List.tail_cons]
      exact agree.tail rfl
  · exact h

theorem actOnActive_agree (ht : s.mc.request.taken = true) (h : RequestsAgree s) : RequestsAgree (actOnActive s) := by
  have resolved := fun result => resolveFirst_stable stableCore_agree result ht h
  unfold actOnActive beginJoin
  split
  iterate 3
    (repeat' split)
    · exact enterJoining_stable stable_agree h
    · exact stable_agree.change _ (by decide) h
    · exact resolved _
  · exact resolved _
  · exact resolved _

theorem actOnDetached_agree (ht : s.mc.request.taken = true) (h : RequestsAgree s) : RequestsAgree (actOnDetached s) := by
  have resolved := fun result => resolveFirst_stable stableCore_agree result ht h
  unfold actOnDetached
  split
  iterate 6 exact stable_agree.change _ (by decide) h
  iterate 5 exact resolved _

theorem stateRequestActiveTaken_agree (h : RequestsAgree s) : RequestsAgree (stateRequestActiveTaken s) := by
  unfold stateRequestActiveTaken
  split
  · rename_i rest hq
    have agree : Agree s.port.fifo s.mc.request := h
    rw [hq] at agree
    split
    · exact h
    · obtain ⟨waits, behind, taken⟩ := agree.take
      have untaken : s.mc.request.taken = false := by
        cases ht : s.mc.request.taken
        · rfl
        · cases (behind ht).1
      refine actOnActive_agree rfl ?_
      simpa [RequestsAgree, popFifo, hq, (waits untaken).1] using taken
  · exact h

theorem stateRequestDetachedTaken_agree (h : RequestsAgree s) : RequestsAgree (stateRequestDetachedTaken s) := by
  unfold stateRequestDetachedTaken
  split
  · rename_i rest hq
    have agree : Agree s.port.fifo s.mc.request := h
    rw [hq] at agree
    split
    · exact h
    · obtain ⟨_, _, taken⟩ := agree.take
      refine actOnDetached_agree rfl ?_
      simpa [RequestsAgree, popFifo, hq] using taken
  · exact h

/-- The arrivals and the takings keep the FIFO and the record to each other. -/
theorem movesRequests_agree (c : Instr) (hc : movesRequests c = true) (h : RequestsAgree s) :
    RequestsAgree (effect c s) := by
  cases c
  case configure record => exact decoded_stable stable_agree _ (fun _ => configureArrives_agree record) h
  case stateRequest target => exact decoded_stable stable_agree _ (fun _ => stateRequestArrives_agree target) h
  case demand target => exact decoded_stable stable_agree _ (fun _ => demandArrives_agree target) h
  case configureTaken => exact configureTaken_agree h
  case stateRequestActiveTaken => exact stateRequestActiveTaken_agree h
  case stateRequestDetachedTaken => exact stateRequestDetachedTaken_agree h
  case demandTaken => exact demandTaken_agree h
  all_goals cases hc

theorem agree_initial : Agree [] { first := none, taken := false, behind := false } :=
  ⟨by decide, by decide, rfl, by decide, by decide⟩

/-- Settles O58: the queued requests by the moves of the FIFO and the record, every other command by the induction over the
operations. -/
theorem everyStepKeepsThePendingRequests : Obligations.EveryStepKeepsThePendingRequests := by
  intro s t h hstep
  rw [requestLaw_iff] at h ⊢
  exact step_stable stable_agree commits_agree (fun _ _ h => h) (fun _ _ _ _ => agree_initial)
    (fun c _ hc => movesRequests_agree c hc) h hstep

end Sys2Proof.Machine
end

section
/-! PROOFS. The drive level at the Pilot Unit (R90, R150, R151), and where own held may rise (R34, R59, R88). -/

namespace Sys2Proof.Machine

variable {s t : State}

/-! ## The drive level (O55) -/

theorem driveLevel_congr (hs : t.mc.station = s.mc.station) (hf : t.pilot.faultIn = s.pilot.faultIn)
    (hh : t.alloc.share.held = s.alloc.share.held) (hl : t.alloc.share.lastTx = s.alloc.share.lastTx)
    (hd : t.alloc.share.demand = s.alloc.share.demand) : driveLevel t = driveLevel s := by
  simp only [driveLevel, hs, hf, hh, hl, hd]

theorem driveLevel_inactive (h : s.mc.station ≠ .active) : driveLevel s = 0 := by simp [driveLevel, h]

/-- Outside ACTIVE nothing is requested (R90). -/
theorem driveLaw_inactive (h : s.mc.station ≠ .active) :
    DriveLaw s ↔ s.pilot.stateCopy = s.mc.station ∧ s.pilot.requested = 0 := by
  have other : driveLevel { s with pilot := { s.pilot with faultIn := !s.pilot.faultIn } } = 0 := driveLevel_inactive h
  unfold DriveLaw
  rw [driveLevel_inactive h, other]
  tauto

/-- The drive level depends on the station state, the sample of FAULT_IN and three fields of the own share record. -/
theorem DriveLaw.congr (h : DriveLaw s) (hs : t.mc.station = s.mc.station) (hh : t.alloc.share.held = s.alloc.share.held)
    (hl : t.alloc.share.lastTx = s.alloc.share.lastTx) (hd : t.alloc.share.demand = s.alloc.share.demand)
    (hr : t.pilot.requested = s.pilot.requested) (hc : t.pilot.stateCopy = s.pilot.stateCopy)
    (hf : t.pilot.faultIn = s.pilot.faultIn) (hdue : t.pilot.faultDue = s.pilot.faultDue) : DriveLaw t := by
  obtain ⟨copy, level⟩ := h
  refine ⟨by rw [hc, hs, copy], ?_⟩
  have other : driveLevel { t with pilot := { t.pilot with faultIn := !t.pilot.faultIn } }
      = driveLevel { s with pilot := { s.pilot with faultIn := !s.pilot.faultIn } } :=
    driveLevel_congr hs (congrArg (fun b => !b) hf) hh hl hd
  rw [hr, hdue, driveLevel_congr hs hf hh hl hd, other]
  exact level

/-- A recomputation hands over the drive level of R90. -/
theorem recomputeDrive_driveLaw (h : s.pilot.stateCopy = s.mc.station) : DriveLaw (recomputeDrive s) := ⟨h, .inl rfl⟩

/-- A period start under a changed sample leaves the level of the sample before it, and the change still to be taken
(R150). -/
theorem startPeriod_driveLaw (levels : LoadLevels) (between : Option Handover) (hdue : s.pilot.faultDue = false)
    (h : DriveLaw s) : DriveLaw (startPeriod levels between s) := by
  obtain ⟨copy, level | ⟨due, _⟩⟩ := h
  · refine ⟨by simpa [PilotUnit.nextPeriod] using copy, ?_⟩
    by_cases hf : levels.faultIn = s.pilot.faultIn
    · left
      rw [driveLevel_congr (s := s) (by simp) (by simp [PilotUnit.nextPeriod, hf]) (by simp) (by simp) (by simp)]
      simpa [PilotUnit.nextPeriod] using level
    · right
      have other : (!levels.faultIn) = s.pilot.faultIn := by cases hl : levels.faultIn <;> simp_all
      refine ⟨by simp [PilotUnit.nextPeriod, hf], ?_⟩
      rw [driveLevel_congr (s := s) (by simp) (by simpa [PilotUnit.nextPeriod] using other) (by simp) (by simp) (by simp)]
      simpa [PilotUnit.nextPeriod] using level
  · rw [hdue] at due
    cases due

theorem stableCore_driveLaw : StableCore DriveLaw where
  raise _ _ _ _ h := h
  table _ _ _ h := h
  alloc _ hh hl hd h := h.congr rfl hh hl hd rfl rfl rfl rfl
  held _ _ h := recomputeDrive_driveLaw h.1
  drive h := recomputeDrive_driveLaw h.1
  outbox _ h := h
  line _ _ h := h
  pins _ h := h
  port _ _ h := h
  time _ _ _ h := h
  pilot _ hr hc hf hdue _ h := h.congr rfl rfl rfl rfl hr hc hf hdue
  faultTaken h := recomputeDrive_driveLaw h.1
  mc _ hs _ _ _ _ h := h.congr hs rfl rfl rfl rfl rfl rfl rfl
  events _ _ _ _ _ h := h
  acknowledge h := h
  finishPop h := h
  suspectPresent _ h := h
  overcommit _ h := h
  duplicate h := h
  request _ h := h
  period levels between := startPeriod_driveLaw levels between

/-- A change of state hands over the drive level of the state reached (R90). -/
theorem changeState_driveLaw (new : StationState) (s : State) : DriveLaw (changeState new s) := by
  have held : ∀ u : State, u.pilot.stateCopy = u.mc.station → DriveLaw (heldForState new u) := by
    intro u hu
    unfold heldForState
    split <;> exact recomputeDrive_driveLaw hu
  refine settle_stable stableCore_driveLaw _ (resolveReached_stable stableCore_driveLaw ?_)
  have former := keepFormer_stable stableCore_driveLaw s (held (dropEarmarksLeaving s.mc.station new (discardSlots new
    (setStation new (raise .stateChanged none none (some (joined s.mc.station.code new.code)) (abandonOutside new s)))))
    (by simp))
  unfold clearRetry
  split
  · exact former
  · exact former

theorem actOnDemand_driveLaw (hcopy : s.pilot.stateCopy = s.mc.station) (h : s.mc.station ≠ .active → DriveLaw s) :
    DriveLaw (actOnDemand s) := by
  refine endUpdate_stable stableCore_driveLaw _ ?_
  unfold followDemand
  split
  · exact recomputeDrive_driveLaw (by simpa using hcopy)
  · exact h ‹_›

theorem takeDemand_driveLaw (target : Half) (h : DriveLaw s) : DriveLaw (takeDemand target s) := by
  unfold takeDemand
  split
  · exact report_stable stableCore_driveLaw _ h
  · refine actOnDemand_driveLaw (by simpa using h.1) fun hidle => report_stable stableCore_driveLaw _ ?_
    have idle : s.mc.station ≠ .active := by simpa using hidle
    exact (driveLaw_inactive (s := setShare { s.alloc.share with demand := target.toNat } s) idle).2
      ((driveLaw_inactive idle).1 h)

theorem stable_driveLaw : Stable DriveLaw where
  core := stableCore_driveLaw
  change new _ _ := changeState_driveLaw new _
  retry h := by
    refine joinIfDue_stable stableCore_driveLaw (fun s new _ _ => changeState_driveLaw new s) ?_
    unfold raiseRetry
    split <;> exact h
  note _ h := recomputeDrive_driveLaw h.1
  demand := takeDemand_driveLaw

theorem commitIncrease_driveLaw (c : ClaimRecord) (h : DriveLaw s) : DriveLaw (commitIncrease c s) := by
  have raised : DriveLaw (setHeld (s.alloc.share.held + c.amount) s) := recomputeDrive_driveLaw h.1
  exact decrease_stable stableCore_driveLaw (removeClaim_stable stableCore_driveLaw
    (setShare_stable stableCore_driveLaw _ rfl rfl rfl raised))

theorem commits_driveLaw : Commits DriveLaw := ⟨commitIncrease_driveLaw, fun _ _ => changeState_driveLaw _ _⟩

theorem free_driveLaw : FreeOfRequests DriveLaw := ⟨fun _ h => h, fun _ h => h⟩

/-- Settles O55: every write of what R90 reads is followed by a recomputation before the step ends. -/
theorem everyStepKeepsTheDriveLevel : Obligations.EveryStepKeepsTheDriveLevel := fun _ _ h hstep =>
  step_stable stable_driveLaw commits_driveLaw (fun _ _ h => h) (fun _ _ _ _ => ⟨rfl, .inl rfl⟩)
    (fun c _ hc => movesRequests_free free_driveLaw stable_driveLaw c hc) h hstep

/-! ## Own held (O60) -/

/-- Own held is no greater than `n`. -/
def HeldAtMost (n : Nat) (s : State) : Prop := s.alloc.share.held ≤ n

theorem stableCore_heldAtMost (n : Nat) : StableCore (HeldAtMost n) where
  raise _ _ _ _ h := h
  table _ _ _ h := h
  alloc _ hh _ _ h := Nat.le_trans (Nat.le_of_eq hh) h
  held _ hn h := Nat.le_trans hn h
  drive h := h
  outbox _ h := h
  line _ _ h := h
  pins _ h := h
  port _ _ h := h
  time _ _ _ h := h
  pilot _ _ _ _ _ _ h := h
  faultTaken h := h
  mc _ _ _ _ _ _ h := h
  events _ _ _ _ _ h := h
  acknowledge h := h
  finishPop h := h
  suspectPresent _ h := h
  overcommit _ h := h
  duplicate h := h
  request _ h := h
  period _ _ _ h := by simpa [HeldAtMost] using h

theorem stable_heldAtMost (n : Nat) : Stable (HeldAtMost n) where
  core := stableCore_heldAtMost n
  change new hnew h := changeState_stable (stableCore_heldAtMost n) (fun _ _ _ h => h) (fun _ _ h => h) new hnew h
  retry h := by
    refine joinIfDue_stable (stableCore_heldAtMost n)
      (fun s => changeState_stable (stableCore_heldAtMost n) (fun _ _ _ h => h) (fun _ _ h => h)) ?_
    unfold raiseRetry
    split <;> exact h
  note _ h := h
  demand target h := takeDemand_stable (stableCore_heldAtMost n) (fun _ h => h) target h

theorem free_heldAtMost (n : Nat) : FreeOfRequests (HeldAtMost n) := ⟨fun _ h => h, fun _ h => h⟩

/-- Own held after the command is no greater than before it, unless the command completes an attempt. -/
theorem effect_held_le (c : Instr) (hc : c ≠ .attemptCompleted) (s : State) :
    (effect c s).alloc.share.held ≤ s.alloc.share.held :=
  effect_stable (stable_heldAtMost _) (fun h => absurd h hc) (fun _ _ _ _ => Nat.zero_le _)
    (fun c _ hc => movesRequests_free (free_heldAtMost _) (stable_heldAtMost _) c hc) (Nat.le_refl s.alloc.share.held)

theorem commitIncrease_held_le (c : ClaimRecord) (s : State) :
    HeldAtMost (s.alloc.share.held + c.amount) (commitIncrease c s) := by
  have raised : HeldAtMost (s.alloc.share.held + c.amount) (setHeld (s.alloc.share.held + c.amount) s) := Nat.le_refl _
  exact decrease_stable (stableCore_heldAtMost _) (removeClaim_stable (stableCore_heldAtMost _)
    (setShare_stable (stableCore_heldAtMost _) _ rfl rfl rfl raised))

theorem commitJoin_held_le (c : ClaimRecord) (s : State) : HeldAtMost s.alloc.share.floor (commitJoin c s) := by
  have joined : HeldAtMost s.alloc.share.floor
      (setShare { s.alloc.share with held := s.alloc.share.floor, failures := 0 } s) := Nat.le_refl _
  exact (stable_heldAtMost _).change _ (by decide) (removeClaim_stable (stableCore_heldAtMost _) joined)

/-- What follows a HOLD completion raises own held only where it commits the open claim (R34, R59, R88). -/
theorem holdFollows_held (a : HoldAttempt) (s : State) :
    HeldAtMost s.alloc.share.held (holdFollows a s)
      ∨ ∃ d ∈ s.alloc.claim, d.inFlight = true
        ∧ ((s.mc.station = .active ∧ HeldAtMost (s.alloc.share.held + d.amount) (holdFollows a s))
          ∨ (s.mc.station = .joining ∧ HeldAtMost s.alloc.share.floor (holdFollows a s))) := by
  have same : HeldAtMost s.alloc.share.held s := Nat.le_refl _
  have checked : ∀ n u, HeldAtMost n u → HeldAtMost n (holdChecks a u) :=
      fun n _ => holdChecks_stable (stable_heldAtMost n) a
  unfold holdFollows
  split
  · exact .inl ((stable_heldAtMost _).change _ (by decide) same)
  · rename_i c hs hc
    split
    · exact .inr ⟨c, hc, ‹_›, .inl ⟨hs, checked _ _ (commitIncrease_held_le c s)⟩⟩
    · exact .inl (checked _ _ same)
  · exact .inl (checked _ _ same)
  · rename_i c hs hc
    split
    · exact .inr ⟨c, hc, ‹_›, .inr ⟨hs, checked _ _ (commitJoin_held_le c s)⟩⟩
    · exact .inl same
  · exact .inl same

theorem holdCompleted_held (s : State) :
    HeldAtMost s.alloc.share.held (holdCompleted s)
      ∨ ∃ d ∈ s.alloc.claim, d.inFlight = true
        ∧ ((s.mc.station = .active ∧ HeldAtMost (s.alloc.share.held + d.amount) (holdCompleted s))
          ∨ (s.mc.station = .joining ∧ HeldAtMost s.alloc.share.floor (holdCompleted s))) := by
  have rest : ∀ n u, HeldAtMost n u → HeldAtMost n (endUpdate none u) := fun n _ =>
    endUpdate_stable (stableCore_heldAtMost n) none
  unfold holdCompleted
  split
  · rename_i a _
    have done : (holdDone a s).alloc.share.held = s.alloc.share.held ∧ (holdDone a s).alloc.share.floor = s.alloc.share.floor
        ∧ (holdDone a s).alloc.claim = s.alloc.claim ∧ (holdDone a s).mc.station = s.mc.station := by simp [holdDone]
    have follows := holdFollows_held a (holdDone a s)
    obtain ⟨held, floor, claim, station⟩ := done
    rw [held, floor, claim, station] at follows
    rcases follows with hle | ⟨d, hd, hflight, ⟨hs, hle⟩ | ⟨hs, hle⟩⟩
    · exact .inl (rest _ _ hle)
    · exact .inr ⟨d, hd, hflight, .inl ⟨hs, rest _ _ hle⟩⟩
    · exact .inr ⟨d, hd, hflight, .inr ⟨hs, rest _ _ hle⟩⟩
  · exact .inl (emptyHold_stable (stableCore_heldAtMost _) (Nat.le_refl _))

/-- The end of an attempt raises own held only where it completes a HOLD. -/
theorem attemptCompleted_held (s : State) :
    HeldAtMost s.alloc.share.held (attemptCompleted s)
      ∨ (s.line.tx.slot? = some .hold ∧ attemptCompleted s = holdCompleted (endAttempt s)) := by
  have stable := stable_heldAtMost s.alloc.share.held
  have same : HeldAtMost s.alloc.share.held s := Nat.le_refl _
  have ended : HeldAtMost s.alloc.share.held (endAttempt s) := Nat.le_refl _
  unfold attemptCompleted
  split
  · rename_i a htx
    split
    · rename_i hcompleted
      have reported : a.stopped = false := by
        cases hstop : a.stopped <;> simp_all [Attempt.completed]
      unfold slotCompleted
      split <;> split
      · rename_i hslot _
        exact .inr ⟨by simp [htx, Transmitter.slot?, Transmitter.attempt?, reported, hslot], rfl⟩
      · exact .inl (holdOutlived_stable stable ended)
      · exact .inl (claimCompleted_stable stable ended)
      · exact .inl (claimOutlived_stable stable _ ended)
      · exact .inl (emptyAnswer_stable stable.core _ ended)
      · exact .inl ended
    · exact .inl same
  · exact .inl same

/-- Settles O60: own held is bounded by its value before through every operation but the two commits. -/
theorem ownHeldRisesOnlyAtACommit : Obligations.OwnHeldRisesOnlyAtACommit := by
  intro c s t hexec hrise
  obtain rfl := effect_eq_of_exec hexec
  by_cases hc : c = .attemptCompleted
  · subst hc
    rcases attemptCompleted_held s with hle | ⟨hslot, heq⟩
    · exact absurd hrise (Nat.not_lt.2 hle)
    · refine ⟨rfl, hslot, ?_⟩
      have completed : effect .attemptCompleted s = holdCompleted (endAttempt s) := heq
      rw [completed] at hrise ⊢
      rcases holdCompleted_held (endAttempt s) with hle | hcommit
      · exact absurd hrise (Nat.not_lt.2 hle)
      · exact hcommit
  · exact absurd hrise (Nat.not_lt.2 (effect_held_le c hc s))

end Sys2Proof.Machine
end

section
/-! PROOFS. The own holding (R52, R62, R79, R87, R92): the ranges of the own share record, the claim matched to the
station state,
and what OVERCOMMIT allows. -/

namespace Sys2Proof.Machine

variable {s t : State}

/-! ## The law, by its parts -/

/-- The ranges of the Allocation Engine's records that hold in every station state (R64, R79, R87). -/
structure ShareRanges (a : Allocation) : Prop where
  floor : a.share.floor ≤ 250
  demand : a.share.demand ≤ 6400
  held : a.share.held ≤ 6400
  lastTx : a.share.lastTx ≤ 6400
  attempt : ∀ b ∈ a.holdAttempt, b.held ≤ 6400
  failures : a.share.failures ≤ 15
  silence : a.share.silence ≤ 3

/-- The claim matched to the station state and the own share record (R52, R53, R62). -/
structure ClaimFits (station : StationState) (share : ShareRecord) (claim : Option ClaimRecord) : Prop where
  law : ∀ c ∈ claim, c.Law
  floor : ∀ c ∈ claim, c.kind = .floor → station = .joining ∧ c.amount = share.floor
  increase : ∀ c ∈ claim, c.kind = .increase → station = .active ∧ 1 ≤ c.amount ∧ share.held + c.amount ≤ 6400
  joining : station = .joining → claim ≠ none

theorem claimLaw_iff (s : State) : ClaimLaw s ↔ ClaimFits s.mc.station s.alloc.share s.alloc.claim := by
  unfold ClaimLaw
  split
  · rename_i hc
    rw [hc]
    exact ⟨fun h => ⟨by simp, by simp, by simp, fun hj => absurd hj h⟩, fun h hj => h.joining hj rfl⟩
  · rename_i c hc
    rw [hc]
    constructor
    · rintro ⟨law, kind⟩
      refine ⟨by simpa using law, ?_, ?_, by simp⟩
      · intro d hd hk
        obtain rfl : c = d := by simpa using hd
        simpa [hk] using kind
      · intro d hd hk
        obtain rfl : c = d := by simpa using hd
        simpa [hk] using kind
    · rintro ⟨law, floor, increase, _⟩
      refine ⟨law c rfl, ?_⟩
      split
      · exact floor c rfl ‹_›
      · exact increase c rfl ‹_›

/-- The law of the own holding by its parts, with `OvercommitLaw` only where `o` asks for it. -/
structure OwnLaw (o : Prop) (s : State) : Prop where
  cls : s.mc.identity.capacityClass ≤ 15
  ranges : ShareRanges s.alloc
  active : s.mc.station = .active → s.alloc.share.floor ≤ s.alloc.share.held ∧ s.alloc.share.silence < 3
  inactive : s.mc.station ≠ .active → s.alloc.share.held = 0
  claim : ClaimFits s.mc.station s.alloc.share s.alloc.claim
  overcommit : o → OvercommitLaw s

theorem shareLaw_iff (s : State) :
    ShareLaw s ↔ s.mc.identity.capacityClass ≤ 15 ∧ ShareRanges s.alloc
      ∧ (s.mc.station = .active → s.alloc.share.floor ≤ s.alloc.share.held ∧ s.alloc.share.silence < 3)
      ∧ (s.mc.station ≠ .active → s.alloc.share.held = 0) := by
  constructor
  · rintro ⟨cls, floor, demand, held, lastTx, attempt, failures, silence, active, inactive⟩
    exact ⟨cls, ⟨floor, demand, held, lastTx, attempt, failures, silence⟩, active, inactive⟩
  · rintro ⟨cls, ⟨floor, demand, held, lastTx, attempt, failures, silence⟩, active, inactive⟩
    exact ⟨cls, floor, demand, held, lastTx, attempt, failures, silence, active, inactive⟩

theorem holdingLaw_iff (s : State) : HoldingLaw s ↔ OwnLaw True s := by
  unfold HoldingLaw
  rw [shareLaw_iff, claimLaw_iff]
  constructor
  · rintro ⟨⟨cls, ranges, active, inactive⟩, claim, overcommit⟩
    exact ⟨cls, ranges, active, inactive, claim, fun _ => overcommit⟩
  · rintro ⟨cls, ranges, active, inactive, claim, overcommit⟩
    exact ⟨⟨cls, ranges, active, inactive⟩, claim, overcommit trivial⟩

variable {o : Prop}

/-- The law reads the Allocation Engine's records, the station state, the capacity class and OVERCOMMIT. -/
theorem OwnLaw.same (h : OwnLaw o s) (ha : t.alloc = s.alloc) (hs : t.mc.station = s.mc.station)
    (hi : t.mc.identity = s.mc.identity) (ho : t.table.overcommit = s.table.overcommit) : OwnLaw o t := by
  obtain ⟨cls, ranges, active, inactive, claim, overcommit⟩ := h
  refine ⟨by rw [hi]; exact cls, by rw [ha]; exact ranges, by rw [hs, ha]; exact active, by rw [hs, ha]; exact inactive,
    by rw [hs, ha]; exact claim, fun hoc => ?_⟩
  unfold OvercommitLaw
  rw [ho, ha]
  exact overcommit hoc

theorem OwnLaw.of_untouched (h : OwnLaw o s) (hu : Untouched s t) : OwnLaw o t :=
  h.same hu.alloc hu.station hu.identity (by rw [hu.table])

/-- Outside ACTIVE and JOINING no claim is open (R62). -/
theorem OwnLaw.no_claim (h : OwnLaw o s) (ha : s.mc.station ≠ .active) (hj : s.mc.station ≠ .joining) :
    s.alloc.claim = none := by
  cases hc : s.alloc.claim with
  | none => rfl
  | some c =>
    cases hk : c.kind
    · exact absurd (h.claim.floor c hc hk).1 hj
    · exact absurd (h.claim.increase c hc hk).1 ha

/-! ## Writes of the own share record -/

/-- The share record written with another claim counter, backoff, priority, hold sequence, failure count or silence, in their
ranges. -/
theorem OwnLaw.share (h : OwnLaw o s) (r : ShareRecord) (hh : r.held = s.alloc.share.held)
    (hf : r.floor = s.alloc.share.floor) (hd : r.demand ≤ 6400) (hl : r.lastTx ≤ 6400) (hfail : r.failures ≤ 15)
    (hsil : r.silence ≤ 3) (hact : s.mc.station = .active → r.silence < 3) : OwnLaw o (setShare r s) := by
  obtain ⟨cls, ranges, active, inactive, claim, overcommit⟩ := h
  refine ⟨cls, ⟨?_, hd, ?_, hl, ranges.attempt, hfail, hsil⟩, fun hs => ⟨?_, hact hs⟩, fun hs => hh.trans (inactive hs),
    ⟨claim.law, fun c hc hk => ⟨(claim.floor c hc hk).1, (claim.floor c hc hk).2.trans hf.symm⟩, ?_, claim.joining⟩,
    fun hoc hset => ?_⟩
  · exact Nat.le_trans (Nat.le_of_eq hf) ranges.floor
  · exact Nat.le_trans (Nat.le_of_eq hh) ranges.held
  · show r.floor ≤ r.held
    rw [hf, hh]
    exact (active hs).1
  · intro c hc hk
    show _ ∧ _ ∧ r.held + c.amount ≤ 6400
    rw [hh]
    exact claim.increase c hc hk
  · show r.held ≤ r.floor ∧ _
    rw [hf, hh]
    exact overcommit hoc hset

theorem countFailure_ownLaw (h : OwnLaw o s) : OwnLaw o (countFailure s) :=
  h.share _ rfl rfl h.ranges.demand h.ranges.lastTx (Nat.min_le_right _ _) h.ranges.silence fun hs => (h.active hs).2

theorem clearSilence_ownLaw (h : OwnLaw o s) : OwnLaw o (clearSilence s) :=
  h.share _ rfl rfl h.ranges.demand h.ranges.lastTx h.ranges.failures (Nat.zero_le _) fun _ => Nat.zero_lt_succ _

theorem clearBackoff_ownLaw (h : OwnLaw o s) : OwnLaw o (setShare { s.alloc.share with backoff := none } s) :=
  h.share _ rfl rfl h.ranges.demand h.ranges.lastTx h.ranges.failures h.ranges.silence fun hs => (h.active hs).2

/-- Own held lowered, in ACTIVE to no less than the floor (R88, R92). -/
theorem setHeld_ownLaw {n : Nat} (h : OwnLaw o s) (hn : n ≤ s.alloc.share.held)
    (hf : s.mc.station = .active → s.alloc.share.floor ≤ n) : OwnLaw o (setHeld n s) := by
  obtain ⟨cls, ⟨floor, demand, held, lastTx, attempt, failures, silence⟩, active, inactive, claim, overcommit⟩ := h
  refine ⟨cls, ⟨floor, demand, Nat.le_trans hn held, lastTx, attempt, failures, silence⟩,
    fun hs => ⟨hf hs, (active hs).2⟩, fun hs => Nat.eq_zero_of_le_zero ((inactive hs) ▸ hn),
    ⟨claim.law, claim.floor, fun c hc hk => ?_, claim.joining⟩,
    fun hoc hset => ⟨Nat.le_trans hn (overcommit hoc hset).1, (overcommit hoc hset).2⟩⟩
  obtain ⟨hs, least, most⟩ := claim.increase c hc hk
  exact ⟨hs, least, Nat.le_trans (Nat.add_le_add_right hn _) most⟩

theorem lowerHeld_ownLaw {n : Nat} (h : OwnLaw o s) (hn : n ≤ s.alloc.share.held)
    (hf : s.mc.station = .active → s.alloc.share.floor ≤ n) : OwnLaw o (lowerHeld n s) :=
  (setHeld_ownLaw h hn hf).same (by simp [lowerHeld]) (by simp) (by simp) (by simp)

theorem decrease_ownLaw (h : OwnLaw o s) : OwnLaw o (decrease s) := by
  unfold decrease
  split
  · rename_i hlow
    exact lowerHeld_ownLaw h (Nat.max_le.2 ⟨Nat.le_of_lt hlow.2.1, Nat.le_of_lt hlow.2.2⟩) fun _ => Nat.le_max_right _ _
  · exact h

/-! ## Writes of the own claim -/

/-- The open claim rewritten, its kind and amount kept. -/
theorem setClaim_ownLaw {c d : ClaimRecord} (h : OwnLaw o s) (hc : s.alloc.claim = some c) (hlaw : d.Law)
    (hk : d.kind = c.kind) (ha : d.amount = c.amount) : OwnLaw o (setClaim (some d) s) := by
  obtain ⟨cls, ⟨floor, demand, held, lastTx, attempt, failures, silence⟩, active, inactive, claim, overcommit⟩ := h
  refine ⟨cls, ⟨floor, demand, held, lastTx, attempt, failures, silence⟩, active, inactive, ⟨?_, ?_, ?_, by simp⟩,
    fun hoc hset => ⟨(overcommit hoc hset).1, ?_⟩⟩
  · rintro _ ⟨⟩
    exact hlaw
  · rintro _ ⟨⟩ hkind
    rw [ha]
    exact claim.floor c hc (hk ▸ hkind)
  · rintro _ ⟨⟩ hkind
    rw [ha]
    exact claim.increase c hc (hk ▸ hkind)
  · rintro _ ⟨⟩
    rw [hk]
    exact (overcommit hoc hset).2 c hc

/-- The claim removed, outside JOINING (R62). -/
theorem OwnLaw.drop_claim (h : OwnLaw o s) (hj : s.mc.station ≠ .joining) : OwnLaw o (setClaim none s) := by
  obtain ⟨cls, ⟨floor, demand, held, lastTx, attempt, failures, silence⟩, active, inactive, _, overcommit⟩ := h
  exact ⟨cls, ⟨floor, demand, held, lastTx, attempt, failures, silence⟩, active, inactive,
    ⟨by simp, by simp, by simp, fun hs => absurd hs hj⟩, fun hoc hset => ⟨(overcommit hoc hset).1, by simp⟩⟩

theorem removeClaim_ownLaw (h : OwnLaw o s) (hj : s.mc.station ≠ .joining) : OwnLaw o (removeClaim s) :=
  (h.drop_claim hj).same (by simp [removeClaim]) (by simp) (by simp) (by simp)

theorem any_increase_iff (claim : Option ClaimRecord) :
    claim.any (fun c => c.kind == .increase) = true ↔ ∃ c, claim = some c ∧ c.kind = .increase := by
  cases claim <;> simp

/-- An open INCREASE claim is one of ACTIVE. -/
theorem OwnLaw.active_of_increase (h : OwnLaw o s) (hi : s.alloc.claim.any (fun c => c.kind == .increase) = true) :
    s.mc.station = .active := by
  obtain ⟨c, hc, hk⟩ := (any_increase_iff _).1 hi
  exact (h.claim.increase c hc hk).1

theorem abandonClaim_ownLaw (reason : EndReason) (h : OwnLaw o s) (hj : s.mc.station ≠ .joining) :
    OwnLaw o (abandonClaim reason s) := by
  unfold abandonClaim
  split
  · exact h
  · have removed : ∀ kind station claim value, OwnLaw o (removeClaim (raise kind station claim value s)) := fun _ _ _ _ =>
      removeClaim_ownLaw (h.same rfl rfl rfl rfl) hj
    unfold countIf
    split
    · exact countFailure_ownLaw (removed _ _ _ _)
    · exact removed _ _ _ _

theorem abandonIncrease_ownLaw (reason : EndReason) (h : OwnLaw o s) : OwnLaw o (abandonIncrease reason s) := by
  unfold abandonIncrease
  split
  · rename_i hi
    exact abandonClaim_ownLaw _ h (by rw [h.active_of_increase hi]; decide)
  · exact h

theorem ClaimRecord.Law.strike {c : ClaimRecord} (i : Nat) (h : c.Law) : (c.strike i).Law := by
  obtain ⟨window, deadline, roll, assents, sending, inFlight, passed⟩ := h
  refine ⟨window, deadline, fun j hj => roll j (List.mem_of_mem_filter hj), fun j hj => ?_, fun hs => ?_, inFlight, passed⟩
  · simp only [ClaimRecord.strike, List.mem_filter] at hj ⊢
    exact ⟨assents j hj.1, hj.2⟩
  · obtain ⟨empty, rest⟩ := sending hs
    exact ⟨by simp [ClaimRecord.strike, empty], rest⟩

theorem ClaimRecord.Law.committing {c : ClaimRecord} (h : c.Law) : ({ c with phase := .committing } : ClaimRecord).Law := by
  obtain ⟨window, deadline, roll, assents, _, _, passed⟩ := h
  exact ⟨window, deadline, roll, assents, by simp, fun _ => rfl, passed⟩

theorem ClaimRecord.Law.tick {c : ClaimRecord} (h : c.Law) : c.tick.Law := by
  unfold ClaimRecord.tick
  obtain ⟨window, deadline, roll, assents, sending, inFlight, passed⟩ := h
  split
  · exact ⟨window, deadline, roll, assents, sending, inFlight, passed⟩
  · rename_i hp
    exact ⟨Nat.le_trans (Nat.sub_le _ _) window, Nat.le_trans (Nat.sub_le _ _) deadline, roll, assents,
      fun hs => by simp [hp] at hs, inFlight, passed⟩
  · rename_i hp
    exact ⟨window, Nat.le_trans (Nat.sub_le _ _) deadline, roll, assents, fun hs => by simp [hp] at hs, inFlight, passed⟩

theorem enterCommitting_ownLaw (h : OwnLaw o s) : OwnLaw o (enterCommitting s) := by
  cases hc : s.alloc.claim with
  | none =>
    have same : setClaim none s = s := by
      rw [← hc]
      rfl
    exact h.same (by simp [enterCommitting, hc, same]) (by simp) (by simp) (by simp)
  | some c =>
    refine (setClaim_ownLaw (d := { c with phase := .committing }) h hc (h.claim.law c hc).committing rfl rfl).same ?_
      (by simp) (by simp) (by simp)
    simp [enterCommitting, hc]

theorem commitIfCovered_ownLaw (h : OwnLaw o s) : OwnLaw o (commitIfCovered s) := by
  unfold commitIfCovered
  split
  · exact enterCommitting_ownLaw h
  · exact h

theorem strikeOff_ownLaw (i : Nat) (h : OwnLaw o s) : OwnLaw o (strikeOff i s) := by
  unfold strikeOff
  split
  · cases hc : s.alloc.claim with
    | none => simp_all
    | some c => exact commitIfCovered_ownLaw (setClaim_ownLaw h hc ((h.claim.law c hc).strike i) rfl rfl)
  · exact h

/-! ## The end of an update -/

/-- OVERCOMMIT cleared asks for nothing. -/
theorem clearOvercommit_ownLaw (h : OwnLaw False s) : OwnLaw o (clearOvercommit s) := by
  obtain ⟨cls, ranges, active, inactive, claim, _⟩ := h
  have alloc : (clearOvercommit s).alloc = s.alloc := by simp
  have mc : (clearOvercommit s).mc = s.mc := by simp
  refine ⟨by rw [mc]; exact cls, by rw [alloc]; exact ranges, by rw [mc, alloc]; exact active,
    by rw [mc, alloc]; exact inactive, by rw [mc, alloc]; exact claim, fun _ hset => ?_⟩
  simp [clearOvercommit] at hset

theorem OwnLaw.weaken (h : OwnLaw o s) : OwnLaw False s := ⟨h.cls, h.ranges, h.active, h.inactive, h.claim, False.elim⟩

theorem cutToFloor_held (h : OwnLaw o s) : (cutToFloor s).alloc.share.held ≤ (cutToFloor s).alloc.share.floor := by
  unfold cutToFloor
  split
  · simp
  · rename_i hnot
    by_cases hs : s.mc.station = .active
    · exact Nat.le_of_not_lt fun hlt => hnot ⟨hs, hlt⟩
    · rw [h.inactive hs]
      exact Nat.zero_le _

theorem cutToFloor_ownLaw (h : OwnLaw o s) : OwnLaw o (cutToFloor s) := by
  unfold cutToFloor
  split
  · rename_i hover
    exact lowerHeld_ownLaw h (Nat.le_of_lt hover.2) fun _ => Nat.le_refl _
  · exact h

theorem abandonIncrease_kind (reason : EndReason) (s : State) :
    ∀ c ∈ (abandonIncrease reason s).alloc.claim, c.kind ≠ .increase := by
  unfold abandonIncrease
  split
  · simp
  · rename_i hnone
    exact fun c hc hk => hnone ((any_increase_iff _).2 ⟨c, hc, hk⟩)

/-- OVERCOMMIT set: the INCREASE claim goes, and own held with it to the floor (R92). -/
theorem setOvercommit_ownLaw (source : Option Nat) (h : OwnLaw o s) : OwnLaw o (setOvercommit source s) := by
  unfold setOvercommit
  generalize hu : raise _ _ _ _ _ = u
  have marked : OwnLaw False u := ⟨by simpa [← hu] using h.cls, by simpa [← hu] using h.ranges,
      by simpa [← hu] using h.active,
    by simpa [← hu] using h.inactive, by simpa [← hu] using h.claim, False.elim⟩
  have abandoned := abandonIncrease_ownLaw .overcommit marked
  have cut := cutToFloor_ownLaw abandoned
  have held := cutToFloor_held abandoned
  have kind : ∀ c ∈ (cutToFloor (abandonIncrease .overcommit u)).alloc.claim, c.kind ≠ .increase := by
    rw [cutToFloor_claim]
    exact abandonIncrease_kind _ _
  have settled : OwnLaw o (cutToFloor (abandonIncrease .overcommit u)) :=
    ⟨cut.cls, cut.ranges, cut.active, cut.inactive, cut.claim, fun _ _ => ⟨held, kind⟩⟩
  have refreshed : OwnLaw o (refreshSums (cutToFloor (abandonIncrease .overcommit u))) :=
    settled.same (by simp) (by simp) (by simp) (by simp)
  unfold clearIfFits
  split
  · exact clearOvercommit_ownLaw refreshed.weaken
  · exact refreshed

theorem settle_ownLaw (source : Option Nat) (h : OwnLaw o s) : OwnLaw o (settle source s) := by
  unfold settle settleOvercommit
  split
  · exact setOvercommit_ownLaw source (h.same (by simp) (by simp) (by simp) (by simp))
  · split
    · exact clearOvercommit_ownLaw (OwnLaw.weaken (h.same (by simp) (by simp) (by simp) (by simp)))
    · exact h.same (by simp) (by simp) (by simp) (by simp)

theorem freshClaim_law (kind : ClaimKind) (number : Byte) (amount : Nat) : (freshClaim kind number amount).Law := by
  refine ⟨?_, ?_, ?_, ?_, ?_, ?_, ?_⟩ <;> simp [freshClaim, Config.responseWindow, Config.commitDeadline]

/-- What the start of an INCREASE claim finds (R53). -/
theorem mayStart_iff (s : State) :
    mayStart s = true ↔ s.mc.station = .active ∧ s.alloc.share.held < s.alloc.share.demand ∧ s.alloc.claim = none
      ∧ s.table.overcommit = false ∧ anySuspect s = false ∧ (views s).any (·.carries .floor) = false
      ∧ s.alloc.share.backoff = none ∧ 1 ≤ s.table.sums.room := by
  simp only [mayStart, Bool.and_eq_true, beq_iff_eq, decide_eq_true_iff, Option.isNone_iff_eq_none, Bool.not_eq_true',
    and_assoc]

theorem openIncrease_ownLaw {amount : Nat} (h : OwnLaw o s) (hs : s.mc.station = .active) (hleast : 1 ≤ amount)
    (hmost : s.alloc.share.held + amount ≤ 6400) (hclear : s.table.overcommit = false) :
    OwnLaw o (openClaim .increase amount s) := by
  obtain ⟨cls, ⟨floor, demand, held, lastTx, attempt, failures, silence⟩, active, inactive, _, _⟩ := h
  refine ⟨cls, ⟨floor, demand, held, lastTx, attempt, failures, silence⟩, active, inactive, ⟨?_, ?_, ?_, ?_⟩,
      fun _ hset => ?_⟩
  · rintro _ ⟨⟩
    exact freshClaim_law _ _ _
  · rintro _ ⟨⟩ hk
    cases hk
  · rintro _ ⟨⟩ _
    exact ⟨hs, hleast, hmost⟩
  · intro _ hnone
    cases hnone
  · exact absurd hset (by simp [hclear])

theorem tryStart_ownLaw (h : OwnLaw o s) : OwnLaw o (tryStart s) := by
  unfold tryStart
  split
  · rename_i hstart
    obtain ⟨hs, hlow, _, hclear, _, _, _, hroom⟩ := (mayStart_iff s).1 hstart
    have demand := h.ranges.demand
    have opened := openIncrease_ownLaw (amount := min (s.alloc.share.demand - s.alloc.share.held) s.table.sums.room) h hs
      (by omega) (by omega) hclear
    exact opened.same (by simp) (by simp) (by simp) (by simp)
  · exact h

theorem endUpdate_ownLaw (source : Option Nat) (h : OwnLaw o s) : OwnLaw o (endUpdate source s) :=
  tryStart_ownLaw (settle_ownLaw source h)

theorem endIfChanged_ownLaw (before : State) (h : OwnLaw o s) : OwnLaw o (endIfChanged before s) := by
  unfold endIfChanged
  split
  · exact endUpdate_ownLaw _ h
  · exact h

end Sys2Proof.Machine
end

section
/-! PROOFS. The own holding through changes of station state, the ends of the own claim, and every command (R32 to
R44, R52 to R65,
R79 to R92). -/

namespace Sys2Proof.Machine

variable {s t : State} {o : Prop}

/-! ## Changes of station state -/

@[simp] theorem removeClaim_alloc (s : State) : (removeClaim s).alloc = { s.alloc with claim := none } := by
  simp [removeClaim, setClaim]

/-- A claim abandoned by a change of state is not counted (R64). -/
theorem abandonClaim_stateChange_alloc (s : State) :
    (abandonClaim .stateChange s).alloc = { s.alloc with claim := none } := by
  unfold abandonClaim
  split
  · rename_i hc
    rw [← hc]
  · simp [countIf]

theorem abandonOutside_alloc {new : StationState} (ha : new ≠ .active) (hj : new = .joining → s.alloc.claim = none) :
    (abandonOutside new s).alloc = { s.alloc with claim := none } := by
  unfold abandonOutside
  split
  · rename_i hnew
    rw [← hj (hnew.resolve_left ha)]
  · exact abandonClaim_stateChange_alloc s

/-- A change of state ends with the settling of a state that has the new station state and the own records of it. -/
theorem changeState_settles (new : StationState) (s : State) :
    ∃ u, changeState new s = settle none u ∧ u.mc.station = new ∧ u.mc.identity = s.mc.identity
      ∧ u.table.overcommit = s.table.overcommit
      ∧ u.alloc = (heldForState new (abandonOutside new s)).alloc := by
  refine ⟨_, rfl, by simp, by simp, by simp, ?_⟩
  have held : ∀ u v : State, u.alloc = v.alloc → (heldForState new u).alloc = (heldForState new v).alloc := by
    intro u v huv
    unfold heldForState
    split
    · exact huv
    · simp only [setHeld, recomputeDrive, setShare, huv]
  have cleared : ∀ u, (clearRetry new u).alloc = u.alloc := fun u => by simp
  simp only [resolveReached_keeps, cleared, keepFormer_keeps]
  exact held _ _ (by simp)

theorem settle_alloc_of_no_claim (source : Option Nat) (hs : s.mc.station ≠ .active) (hc : s.alloc.claim = none) :
    (settle source s).alloc = s.alloc := by
  unfold settle settleOvercommit
  split
  · unfold setOvercommit
    rw [abandonIncrease_none _ _ (by simpa using hc)]
    simp [cutToFloor, hs]
  · split <;> simp

/-- Outside ACTIVE a change of state leaves no claim and no held share (R62, R79). -/
theorem changeState_alloc {new : StationState} (ha : new ≠ .active) (hj : new = .joining → s.alloc.claim = none) :
    (changeState new s).alloc = { s.alloc with share := { s.alloc.share with held := 0 }, claim := none } := by
  obtain ⟨u, hu, hs, _, _, halloc⟩ := changeState_settles new s
  have alloc : u.alloc = { s.alloc with share := { s.alloc.share with held := 0 }, claim := none } := by
    rw [halloc]
    simp only [heldForState, if_neg ha, setHeld, recomputeDrive, setShare, abandonOutside_alloc ha hj]
  rw [hu, settle_alloc_of_no_claim none (hs ▸ ha) (by rw [alloc]), alloc]

theorem ShareRanges.idle {a : Allocation} (h : ShareRanges a) (claim : Option ClaimRecord) :
    ShareRanges { a with share := { a.share with held := 0 }, claim := claim } :=
  ⟨h.floor, h.demand, Nat.zero_le _, h.lastTx, h.attempt, h.failures, h.silence⟩

theorem claimFits_none {station : StationState} (hj : station ≠ .joining) (share : ShareRecord) :
    ClaimFits station share none := ⟨by simp, by simp, by simp, fun hs => absurd hs hj⟩

/-- Every change of state to another state than ACTIVE and JOINING restores the law from the ranges alone. -/
theorem changeState_ownLaw {new : StationState} (hcls : s.mc.identity.capacityClass ≤ 15) (h : ShareRanges s.alloc)
    (ha : new ≠ .active) (hj : new ≠ .joining) : OwnLaw o (changeState new s) := by
  have alloc := changeState_alloc (s := s) ha (fun hn => absurd hn hj)
  have station := (changeState_reaches new s).1
  refine ⟨by simpa using hcls, by rw [alloc]; exact h.idle none, fun hs => absurd (station ▸ hs) ha,
    fun _ => by rw [alloc], ?_, fun _ _ => ?_⟩
  · rw [alloc, station]
    exact claimFits_none hj _
  · rw [alloc]
    exact ⟨Nat.zero_le _, by simp⟩

/-- The entry to JOINING, from a state without a claim (R32). -/
theorem enterJoining_ownLaw (hcls : s.mc.identity.capacityClass ≤ 15) (h : ShareRanges s.alloc) (hc : s.alloc.claim = none) :
    OwnLaw o (enterJoining s) := by
  have alloc := changeState_alloc (s := s) (new := .joining) (by decide) (fun _ => hc)
  have station : (enterJoining s).mc.station = .joining := by simp [enterJoining]
  have joined : (enterJoining s).alloc =
      { s.alloc with
        share := { s.alloc.share with held := 0, silence := 0, claimCounter := s.alloc.share.claimCounter + 1 }
        claim := some (freshClaim .floor (s.alloc.share.claimCounter + 1) s.alloc.share.floor) } := by
    simp only [enterJoining, openClaim, clearSilence, setShare, alloc]
  refine ⟨by simpa [enterJoining] using hcls, ?_, fun hs => ?_, fun _ => by rw [joined], ?_, fun _ _ => ?_⟩
  · rw [joined]
    exact ⟨h.floor, h.demand, Nat.zero_le _, h.lastTx, h.attempt, h.failures, Nat.zero_le _⟩
  · rw [station] at hs
    cases hs
  · rw [joined, station]
    refine ⟨?_, ?_, ?_, by simp⟩
    · rintro _ ⟨⟩
      exact freshClaim_law _ _ _
    · rintro _ ⟨⟩ _
      exact ⟨rfl, rfl⟩
    · rintro _ ⟨⟩ hk
      cases hk
  · rw [joined]
    refine ⟨Nat.zero_le _, ?_⟩
    rintro _ ⟨⟩ hk
    cases hk

/-- The commit of the join (R34): own held becomes the floor. -/
theorem commitJoin_ownLaw (c : ClaimRecord) (hcls : s.mc.identity.capacityClass ≤ 15) (h : ShareRanges s.alloc)
    (hsil : s.alloc.share.silence < 3) : OwnLaw o (commitJoin c s) := by
  obtain ⟨floor, demand, _, lastTx, attempt, _, silence⟩ := h
  unfold commitJoin
  generalize hv : removeClaim _ = v
  obtain ⟨u, hu, hs, hi, _, halloc⟩ := changeState_settles .active v
  have alloc : u.alloc =
      { s.alloc with share := { s.alloc.share with held := s.alloc.share.floor, failures := 0 }, claim := none } := by
    rw [halloc, ← hv]
    simp [heldForState, abandonOutside, setShare]
  rw [hu]
  refine settle_ownLaw none ⟨?_, ?_, fun _ => ?_, fun hn => absurd hs hn, ?_, fun _ _ => ?_⟩
  · rw [hi, ← hv]
    simpa using hcls
  · rw [alloc]
    exact ⟨floor, demand, Nat.le_trans floor (by decide), lastTx, attempt, Nat.zero_le _, silence⟩
  · rw [alloc]
    exact ⟨Nat.le_refl _, hsil⟩
  · rw [alloc, hs]
    exact claimFits_none (by decide) _
  · rw [alloc]
    exact ⟨Nat.le_refl _, by simp⟩

/-! ## The ends of the own claim -/

theorem afterClaim_ownLaw {c : ClaimRecord} {state : StationState} (h : OwnLaw o s) (hc : s.alloc.claim = some c)
    (ha : state ≠ .active) (hj : state ≠ .joining) (kind : EventKind) (station : Option Nat) (number : Option Byte)
    (value : Option Half) : OwnLaw o (afterClaim c.kind state (removeClaim (raise kind station number value s))) := by
  cases hk : c.kind
  case increase =>
    have active := (h.claim.increase c hc hk).1
    exact countFailure_ownLaw (removeClaim_ownLaw (h.same rfl rfl rfl rfl) (by simp [active]))
  case floor =>
    obtain ⟨floor, demand, held, lastTx, attempt, failures, silence⟩ := h.ranges
    refine changeState_ownLaw (by simpa using h.cls) ?_ ha hj
    rw [removeClaim_alloc]
    exact ⟨floor, demand, held, lastTx, attempt, failures, silence⟩

theorem failClaim_ownLaw (reason : EndReason) (objector : Option Nat) (h : OwnLaw o s) :
    OwnLaw o (failClaim reason objector s) := by
  unfold failClaim
  split
  · exact h
  · exact afterClaim_ownLaw h ‹_› (by split <;> decide) (by split <;> decide) _ _ _ _

theorem lapseClaim_ownLaw (h : OwnLaw o s) : OwnLaw o (lapseClaim s) := by
  unfold lapseClaim
  split
  · exact h
  · exact afterClaim_ownLaw h ‹_› (by decide) (by decide) _ _ _ _

/-- How far the commit attempt has come is nothing to a claim that ends. -/
theorem lapseClaim_rewritten {c : ClaimRecord} (b : Bool) (hc : s.alloc.claim = some c) :
    lapseClaim (setClaim (some { c with inFlight := b }) s) = lapseClaim s := by
  simp only [lapseClaim, setClaim_claim, hc]
  rfl

theorem abandonClaim_rewritten {c : ClaimRecord} (b : Bool) (reason : EndReason) (hc : s.alloc.claim = some c) :
    abandonClaim reason (setClaim (some { c with inFlight := b }) s) = abandonClaim reason s := by
  simp only [abandonClaim, setClaim_claim, hc]
  rfl

theorem dropDue_iff (c : ClaimRecord) (s : State) :
    dropDue c s = true ↔ c.kind = .increase ∧ s.alloc.share.demand ≤ s.alloc.share.held := by
  simp [dropDue]

theorem settleCommit_ownLaw (h : OwnLaw o s) : OwnLaw o (settleCommit s) := by
  unfold settleCommit
  split
  · exact h
  · rename_i c hc
    split
    · have abandoned : dropDue c (setClaim (some { c with inFlight := false }) s) = true →
          OwnLaw o (abandonClaim .demandDrop (setClaim (some { c with inFlight := false }) s)) := by
        intro hdue
        have active := (h.claim.increase c hc ((dropDue_iff _ _).1 hdue).1).1
        rw [abandonClaim_rewritten _ _ hc]
        exact abandonClaim_ownLaw _ h (by simp [active])
      have lapsed : OwnLaw o (lapseClaim (setClaim (some { c with inFlight := false }) s)) := by
        rw [lapseClaim_rewritten _ hc]
        exact lapseClaim_ownLaw h
      unfold settleFailedCommit
      split
      · rename_i hdue
        split
        · exact lapsed
        · exact abandoned hdue
      · exact lapsed
      · rename_i hdue
        exact abandoned hdue
      · rename_i hpassed _
        obtain ⟨window, deadline, roll, assents, sending, _, _⟩ := h.claim.law c hc
        exact setClaim_ownLaw h hc ⟨window, deadline, roll, assents, sending, by simp, by simp [hpassed]⟩ rfl rfl
    · exact h

/-! ## Attempts and their outcomes -/

theorem OwnLaw.attempt (h : OwnLaw o s) (a : HoldAttempt) (ha : a.held ≤ 6400) :
    OwnLaw o { s with alloc := { s.alloc with holdAttempt := some a } } := by
  obtain ⟨cls, ⟨floor, demand, held, lastTx, _, failures, silence⟩, active, inactive, claim, overcommit⟩ := h
  refine ⟨cls, ⟨floor, demand, held, lastTx, ?_, failures, silence⟩, active, inactive, claim, overcommit⟩
  rintro _ ⟨⟩
  exact ha

/-- The claim that a HOLD assembled now commits (R58, R82). -/
theorem commitDue_eq_some {c : ClaimRecord} :
    commitDue s = some c ↔ s.alloc.claim = some c ∧ c.phase = .committing ∧ c.deadlinePassed = false
      ∧ ((s.mc.station = .active ∧ c.kind = .increase) ∨ (s.mc.station = .joining ∧ c.kind = .floor)) := by
  unfold commitDue
  split
  · rename_i d hd
    rw [hd]
    constructor
    · intro hdue
      split at hdue
      · cases hdue
        exact ⟨rfl, ‹_›⟩
      · cases hdue
    · rintro ⟨⟨⟩, hdue⟩
      rw [if_pos hdue]
  · rename_i hnone
    simp [hnone]

theorem holdNow_held (h : OwnLaw o s) : (holdNow s).held ≤ 6400 := by
  unfold holdNow
  split
  · exact Nat.zero_le _
  · split
    · rename_i c hdue
      obtain ⟨hc, _, _, ⟨_, hk⟩ | ⟨hs, hk⟩⟩ := commitDue_eq_some.1 hdue
      · exact (h.claim.increase c hc hk).2.2
      · show s.alloc.share.held + c.amount ≤ 6400
        rw [h.inactive (by simp [hs]), (h.claim.floor c hc hk).2]
        have := h.ranges.floor
        omega
    · exact h.ranges.held

/-- A HOLD that commits does so for a claim in COMMITTING. -/
theorem holdNow_commit (hcommit : (holdNow s).commit.isSome = true) : ∃ c, commitDue s = some c := by
  unfold holdNow at hcommit
  split at hcommit
  · cases hcommit
  · split at hcommit
    · exact ⟨_, ‹_›⟩
    · cases hcommit

theorem noteAttempt_ownLaw (h : OwnLaw o s) : OwnLaw o (noteAttempt (holdNow s) s) := by
  have noted := h.attempt (holdNow s) (holdNow_held h)
  unfold noteAttempt
  split
  · rename_i hcommit
    obtain ⟨c, hdue⟩ := holdNow_commit hcommit
    obtain ⟨hc, hphase, _⟩ := commitDue_eq_some.1 hdue
    obtain ⟨window, deadline, roll, assents, sending, _, passed⟩ := h.claim.law c hc
    have flight : ({ c with inFlight := true } : ClaimRecord).Law :=
      ⟨window, deadline, roll, assents, sending, fun _ => hphase, fun _ => rfl⟩
    exact (setClaim_ownLaw noted hc flight rfl rfl).same (by simp [setClaim, hc]) rfl rfl rfl
  · exact noted

theorem startAttempt_ownLaw (slot : SlotId) (h : OwnLaw o s) : OwnLaw o (startAttempt slot s) := by
  cases slot
  case hold => exact endIfChanged_ownLaw _ ((noteAttempt_ownLaw h).same rfl rfl rfl rfl)
  case claim =>
    simp only [startAttempt, startClaim]
    split
    · exact h.same rfl rfl rfl rfl
    · exact h
  case answer k =>
    simp only [startAttempt, startAnswer]
    split
    · exact h.same rfl rfl rfl rfl
    · exact h

theorem noteHold_ownLaw (a : HoldAttempt) (ha : a.held ≤ 6400) (h : OwnLaw o s) : OwnLaw o (noteHold a s) :=
  (h.share { s.alloc.share with lastTx := a.held, holdSeq := s.alloc.share.holdSeq + 1, silence := 0 } rfl rfl
    h.ranges.demand ha h.ranges.failures (Nat.zero_le _) (fun _ => Nat.zero_lt_succ _)).same rfl rfl rfl rfl

/-- The commit of an INCREASE claim, whose amount 6400 allows (R59). -/
theorem commitIncrease_ownLaw {c : ClaimRecord} (h : OwnLaw o s) (hc : s.alloc.claim = some c)
    (hs : s.mc.station = .active) :
    OwnLaw o (commitIncrease c s) := by
  have hk : c.kind = .increase := by
    cases hk : c.kind
    · have joining := (h.claim.floor c hc hk).1
      rw [hs] at joining
      cases joining
    · rfl
  have most := (h.claim.increase c hc hk).2.2
  obtain ⟨cls, ⟨floor, demand, _, lastTx, attempt, _, silence⟩, active, _, _, overcommit⟩ := h
  obtain ⟨hfloor, hsil⟩ := active hs
  unfold commitIncrease
  generalize hu : removeClaim _ = u
  have alloc : u.alloc = { s.alloc with
      share := { s.alloc.share with held := s.alloc.share.held + c.amount, failures := 0 }, claim := none } := by
    simp [← hu, clearFailures, setHeld, recomputeDrive, setShare]
  have station : u.mc.station = .active := by simp [← hu, hs]
  refine decrease_ownLaw ⟨by simpa [← hu] using cls, ?_, fun _ => ?_, fun hn => absurd station hn, ?_, fun hoc hset => ?_⟩
  · rw [alloc]
    exact ⟨floor, demand, most, lastTx, attempt, Nat.zero_le _, silence⟩
  · rw [alloc]
    exact ⟨Nat.le_trans hfloor (Nat.le_add_right _ _), hsil⟩
  · rw [alloc, station]
    exact claimFits_none (by decide) _
  · exact absurd hk ((overcommit hoc (by simpa [← hu] using hset)).2 c hc)

theorem holdChecks_ownLaw (a : HoldAttempt) (h : OwnLaw o s) : OwnLaw o (holdChecks a s) :=
  h.same (by simp) (by simp) (by simp) (by simp)

theorem holdFollows_ownLaw (a : HoldAttempt) (h : OwnLaw o s) (hsil : s.alloc.share.silence < 3) :
    OwnLaw o (holdFollows a s) := by
  unfold holdFollows
  split
  · exact changeState_ownLaw h.cls h.ranges (by decide) (by decide)
  · rename_i c hs hc
    refine holdChecks_ownLaw a ?_
    split
    · exact commitIncrease_ownLaw h hc hs
    · exact h
  · exact holdChecks_ownLaw a h
  · rename_i c _ _
    split
    · exact holdChecks_ownLaw a (commitJoin_ownLaw c h.cls h.ranges hsil)
    · exact h
  · exact h

theorem holdCompleted_ownLaw (h : OwnLaw o s) : OwnLaw o (holdCompleted s) := by
  unfold holdCompleted
  split
  · rename_i a ha
    have done : OwnLaw o (holdDone a s) :=
      (noteHold_ownLaw a (h.ranges.attempt a ha) h).same (by simp [holdDone]) (by simp [holdDone]) (by simp [holdDone])
        (by simp [holdDone])
    exact endUpdate_ownLaw none (holdFollows_ownLaw a done (by simp [holdDone]))
  · exact h.same (by simp) (by simp) (by simp) (by simp)

theorem holdOutlived_ownLaw (h : OwnLaw o s) : OwnLaw o (holdOutlived s) := by
  unfold holdOutlived
  split
  · rename_i a ha
    exact endUpdate_ownLaw none (noteHold_ownLaw a (h.ranges.attempt a ha) h)
  · exact h

theorem rollNow_lt (s : State) : ∀ i ∈ rollNow s, i < 24 := by
  intro i hi
  exact List.mem_range.1 (List.mem_of_mem_filter hi)

theorem ClaimRecord.await_law (c : ClaimRecord) {roll : List Nat} (h : ∀ i ∈ roll, i < 24) : (c.await roll).Law := by
  refine ⟨?_, ?_, h, ?_, ?_, ?_, ?_⟩ <;> simp [ClaimRecord.await, Config.responseWindow, Config.commitDeadline]

theorem takeRoll_ownLaw {c : ClaimRecord} (h : OwnLaw o s) (hc : s.alloc.claim = some c) : OwnLaw o (takeRoll c s) := by
  unfold takeRoll
  split
  · exact failClaim_ownLaw _ _ h
  · exact commitIfCovered_ownLaw (setClaim_ownLaw h hc (c.await_law (rollNow_lt s)) rfl rfl)

theorem claimCompleted_ownLaw (h : OwnLaw o s) : OwnLaw o (claimCompleted s) := by
  unfold claimCompleted
  split
  · exact h.same (by simp) (by simp) (by simp) (by simp)
  · rename_i c hc
    have emptied : OwnLaw o (emptyClaim s) := h.same (by simp) (by simp) (by simp) (by simp)
    have sent : OwnLaw o (announceSent c.kind (emptyClaim s)) := by
      cases c.kind
      case floor => exact clearSilence_ownLaw emptied
      case increase => exact emptied
    exact endUpdate_ownLaw none (takeRoll_ownLaw sent (by simp [hc]))

theorem claimOutlived_ownLaw (a : Attempt) (h : OwnLaw o s) : OwnLaw o (claimOutlived a s) := by
  unfold claimOutlived
  split
  · exact endIfChanged_ownLaw _ (clearSilence_ownLaw h)
  · exact h

theorem slotCompleted_ownLaw (a : Attempt) (h : OwnLaw o s) : OwnLaw o (slotCompleted a s) := by
  unfold slotCompleted
  split <;> split
  · exact holdCompleted_ownLaw h
  · exact holdOutlived_ownLaw h
  · exact claimCompleted_ownLaw h
  · exact claimOutlived_ownLaw a h
  · exact h.same (by simp) (by simp) (by simp) (by simp)
  · exact h

theorem exhaustHold_ownLaw (collided : Bool) (h : OwnLaw o s) : OwnLaw o (exhaustHold collided s) := by
  unfold exhaustHold holdExhausted restOrDrop
  split
  · split
    · exact h.same (by simp) (by simp) (by simp) (by simp)
    · exact changeState_ownLaw (by simpa using h.cls) (by simpa using h.ranges) (by decide) (by decide)
    · exact h.same (by simp) (by simp) (by simp) (by simp)
  · exact h

theorem dropAnswer_ownLaw (k reason : Nat) (h : OwnLaw o s) : OwnLaw o (dropAnswer k reason s) :=
  endIfChanged_ownLaw _ (h.same (by simp) (by simp) (by simp) (by simp))

theorem answerFailed_ownLaw (k : Nat) (collided : Bool) (h : OwnLaw o s) : OwnLaw o (answerFailed k collided s) := by
  unfold answerFailed reportAnswer exhaustAnswer
  split
  · exact dropAnswer_ownLaw _ _ (h.same rfl rfl rfl rfl)
  split
  · exact dropAnswer_ownLaw _ _ (h.same (by simp) (by simp) (by simp) (by simp))
  · exact h.same rfl rfl rfl rfl

theorem claimFailed_ownLaw (collided : Bool) (h : OwnLaw o s) : OwnLaw o (claimFailed collided s) := by
  unfold claimFailed exhaustClaim
  split
  · exact endUpdate_ownLaw none (failClaim_ownLaw _ _ (h.same (by simp) (by simp) (by simp) (by simp)))
  · exact h.same rfl rfl rfl rfl

theorem slotFailed_ownLaw (collided : Bool) (slot : SlotId) (h : OwnLaw o s) : OwnLaw o (slotFailed collided slot s) := by
  cases slot <;> unfold slotFailed <;> dsimp only <;> split
  · exact endIfChanged_ownLaw _ (settleCommit_ownLaw (exhaustHold_ownLaw _ (h.same rfl rfl rfl rfl)))
  · exact h
  · exact claimFailed_ownLaw _ h
  · exact h
  · exact answerFailed_ownLaw _ _ h
  · exact h

end Sys2Proof.Machine
end

section
/-! PROOFS. The own holding through the frames taken, time, and every command (O56). -/

namespace Sys2Proof.Machine

variable {s t : State} {o : Prop}

/-! ## Frames taken -/

theorem endBackoffIf_ownLaw (fell : Bool) (h : OwnLaw o s) : OwnLaw o (endBackoffIf fell s) := by
  unfold endBackoffIf
  split
  · exact clearBackoff_ownLaw h
  · exact h

theorem takeHold_ownLaw (x : Nat) (f : HoldFields) (h : OwnLaw o s) : OwnLaw o (takeHold x f s) := by
  unfold takeHold holdChecked holdSuspect holdTrusted
  split
  · exact endUpdate_ownLaw _ (h.same (by simp) (by simp) (by simp) (by simp))
  · exact endUpdate_ownLaw _ (endBackoffIf_ownLaw _ (h.same (by simp) (by simp) (by simp) (by simp)))

theorem takeFarewell_ownLaw (x : Nat) (h : OwnLaw o s) : OwnLaw o (takeFarewell x s) := by
  unfold takeFarewell farewellChecked
  split
  · exact endUpdate_ownLaw _ (h.same (by simp) (by simp) (by simp) (by simp))
  · refine endUpdate_ownLaw _ (endBackoffIf_ownLaw _ ?_)
    have struck (value : Option Half) := strikeOff_ownLaw x
      (h.same (t := raise .peerLeft (some x) none value (modEntry x (Entry.returnAbsent true) (checkParity x s)))
        (by simp) (by simp) (by simp) (by simp))
    exact (struck (some (valueOf (entryAt (checkParity x s) x).counted))).same (by simp) (by simp) (by simp) (by simp)

theorem takeAnnounce_ownLaw (j : Nat) (n : Byte) (cls lease : Nat) (h : OwnLaw o s) :
    OwnLaw o (takeAnnounce j n cls lease s) := by
  unfold takeAnnounce rejoin
  split
  · exact strikeOff_ownLaw j (h.same (by simp) (by simp) (by simp) (by simp))
  · exact h.same (by simp) (by simp) (by simp) (by simp)

theorem takeClaim_ownLaw (x priority : Nat) (h : OwnLaw o s) : OwnLaw o (takeClaim x priority s) :=
  h.same (by simp) (by simp) (by simp) (by simp)

theorem objectTo_ownLaw (k x : Nat) (n : Byte) (reason : ObjectReason) (h : OwnLaw o s) :
    OwnLaw o (objectTo k x n reason s) := h.same (by simp) (by simp) (by simp) (by simp)

theorem assentTo_ownLaw (k x : Nat) (n : Byte) (amount : Nat) (h : OwnLaw o s) : OwnLaw o (assentTo k x n amount s) :=
  h.same (by simp) (by simp) (by simp) (by simp)

theorem openIncrease_isSome (s : State) :
    (openIncrease s).isSome = true ↔ s.alloc.claim.any (fun c => c.kind == .increase) = true := by
  unfold openIncrease
  split
  · rename_i hc
    rw [hc]
    split <;> simp_all
  · rename_i hc
    simp [hc]

theorem answerClaim_ownLaw (k x : Nat) (n : Byte) (amount priority : Nat) (h : OwnLaw o s) :
    OwnLaw o (answerClaim k x n amount priority s) := by
  have object := fun reason => objectTo_ownLaw k x n reason h
  unfold answerClaim
  split
  · exact object _
  split
  · exact object _
  split
  · exact object _
  split
  · exact object _
  split
  · exact assentTo_ownLaw _ _ _ _ h
  split
  · rename_i hyield
    have active := h.active_of_increase ((openIncrease_isSome s).1 (Bool.and_eq_true_iff.1 hyield).1)
    have yielded := abandonClaim_ownLaw .yielded h (by simp [active])
    unfold answerByRoom
    split
    · exact assentTo_ownLaw _ _ _ _ yielded
    · exact objectTo_ownLaw _ _ _ _ yielded
  · exact object _

/-- The squeeze cuts own held to no less than the floor (R73). -/
theorem shed_ownLaw (j : Nat) (n : Byte) (floor : Nat) (h : OwnLaw o s) : OwnLaw o (shed j n floor s) := by
  unfold shed
  split
  · rename_i hmust
    have lowered : OwnLaw o (setHeld (ceiling s floor) s) :=
      setHeld_ownLaw h (Nat.le_of_lt (of_decide_eq_true hmust)) fun _ => Nat.le_add_right _ _
    obtain ⟨cls, ⟨hfloor, demand, held, lastTx, attempt, failures, silence⟩, active, inactive, claim, overcommit⟩ := lowered
    have cut : OwnLaw o (beforeCut (setHeld (ceiling s floor) s)) := by
      refine ⟨cls, ⟨hfloor, demand, held, lastTx, ?_, failures, silence⟩, active, inactive, claim, overcommit⟩
      intro b hb
      obtain ⟨a, ha, rfl⟩ := Option.mem_map.1 hb
      exact attempt a ha
    exact cut.same (by simp [squeeze, beforeCut]) (by simp [squeeze]) (by simp [squeeze]) (by simp [squeeze])
  · exact h

theorem answerAnnounce_ownLaw (k j : Nat) (n : Byte) (floor priority cls lease : Nat) (h : OwnLaw o s) :
    OwnLaw o (answerAnnounce k j n floor priority cls lease s) := by
  have object := fun reason => objectTo_ownLaw k j n reason h
  unfold answerAnnounce
  split
  · exact object _
  split
  · exact object _
  split
  · exact object _
  split
  · exact object _
  split
  · exact object _
  · exact (shed_ownLaw j n floor h).same rfl rfl rfl rfl

theorem decideAnswer_ownLaw (slot : Option Nat) {answer : Nat → State → State}
    (hanswer : ∀ k s, OwnLaw o s → OwnLaw o (answer k s)) (h : OwnLaw o s) : OwnLaw o (decideAnswer slot answer s) := by
  unfold decideAnswer
  split
  · split
    · exact hanswer _ _ (h.same (by simp) (by simp) (by simp) (by simp))
    · exact h
  · exact h

theorem takeAssent_ownLaw (x target : Nat) (n : Byte) (h : OwnLaw o s) : OwnLaw o (takeAssent x target n s) := by
  unfold takeAssent
  split
  · rename_i c hc
    split
    · rename_i hassent
      obtain ⟨_, _, _, hroll, _⟩ := hassent
      obtain ⟨window, deadline, roll, assents, sending, inFlight, passed⟩ := h.claim.law c hc
      refine commitIfCovered_ownLaw (setClaim_ownLaw h hc ⟨window, deadline, roll, ?_, sending, inFlight, passed⟩ rfl rfl)
      intro i hi
      rcases List.mem_append.1 hi with hi | hi
      · exact assents i hi
      · obtain rfl : i = x := by simpa using hi
        simpa using hroll
    · exact h
  · exact h

theorem failNamed_ownLaw (x target : Nat) (n : Byte) (r : ObjectReason) (h : OwnLaw o s) :
    OwnLaw o (failNamed x target n r s) := by
  unfold failNamed
  split
  · exact failClaim_ownLaw _ _ h
  · exact h

theorem toFault_ownLaw (h : OwnLaw o s) : OwnLaw o (toFault s) := by
  unfold toFault
  split
  · exact h
  · exact changeState_ownLaw h.cls h.ranges (by decide) (by decide)

theorem frameVerdict_ownLaw (h : OwnLaw o s) : OwnLaw o (frameVerdict s) := by
  unfold frameVerdict judgeFrame goodFrame takeDuplicate
  split
  · split
    · exact h.same (by simp) (by simp) (by simp) (by simp)
    split
    · exact h.same rfl rfl rfl rfl
    split
    · split
      · exact h.same (by simp) (by simp) (by simp) (by simp)
      split
      · exact h.same rfl rfl rfl rfl
      · exact toFault_ownLaw (h.same rfl rfl rfl rfl)
    · exact h.same rfl rfl rfl rfl
  · exact h

/-! ## Time -/

theorem takeTick_ownLaw (b : TickBlock) (h : OwnLaw o s) : OwnLaw o (takeTick b s) := by
  unfold takeTick
  split
  · cases b
    case shareTable => exact h.same rfl rfl rfl rfl
    case timeBase => exact h.same rfl rfl rfl rfl
    case allocation =>
      have ticked : OwnLaw o (setShare { s.alloc.share with backoff := s.alloc.share.backoff.map (· - 1) } s) :=
        h.share _ rfl rfl h.ranges.demand h.ranges.lastTx h.ranges.failures h.ranges.silence fun hs => (h.active hs).2
      cases hc : s.alloc.claim with
      | none => exact ticked.same (by simp [blockTick, Allocation.tick, setShare, hc]) rfl rfl rfl
      | some c =>
        have kind : c.tick.kind = c.kind ∧ c.tick.amount = c.amount := by
          unfold ClaimRecord.tick
          split <;> exact ⟨rfl, rfl⟩
        exact (setClaim_ownLaw ticked hc (h.claim.law c hc).tick kind.1 kind.2).same
          (by simp [blockTick, Allocation.tick, setShare, setClaim, hc]) rfl rfl rfl
  · exact h

theorem OwnLaw.foldl {α : Type} {f : State → α → State} (hf : ∀ s a, OwnLaw o s → OwnLaw o (f s a)) (l : List α)
    (h : OwnLaw o s) : OwnLaw o (l.foldl f s) := foldl_stable hf l h

theorem takeTicks_ownLaw (blocks : List TickBlock) (h : OwnLaw o s) : OwnLaw o (takeTicks blocks s) :=
  h.foldl (fun _ b => takeTick_ownLaw b) blocks

theorem tick_ownLaw (event : TickEvent) (h : OwnLaw o s) : OwnLaw o (tick event s) := by
  unfold tick
  split
  · exact h
  · split
    · rename_i upsets _
      have taken := takeTicks_ownLaw TickBlock.all h
      have upset : OwnLaw o (upsetAll upsets (takeTicks TickBlock.all s)) := taken.foldl
        (fun s u h => h.same (t := upset u s) (by simp) (by simp) (by simp) (by simp)) upsets
      exact takeTicks_ownLaw _ (upset.same rfl rfl rfl rfl)
    · exact takeTicks_ownLaw _ h

theorem ageEntry_ownLaw (i : Nat) (h : OwnLaw o s) : OwnLaw o (ageEntry i s) := by
  unfold ageEntry ageBy
  split
  · split
    · split
      · exact strikeOff_ownLaw i (h.same (by simp) (by simp) (by simp) (by simp))
      split
      · exact strikeOff_ownLaw i (h.same (by simp) (by simp) (by simp) (by simp))
      · exact h.same (by simp) (by simp) (by simp) (by simp)
    · exact h.same (by simp) (by simp) (by simp) (by simp)
  · exact h

theorem tableBoundary_ownLaw (h : OwnLaw o s) : OwnLaw o (tableBoundary s) :=
  endUpdate_ownLaw none (h.foldl (fun _ i => ageEntry_ownLaw i) _)

theorem joinIfDue_ownLaw (h : OwnLaw o s) : OwnLaw o (joinIfDue s) := by
  unfold joinIfDue
  (repeat' split)
  · rename_i hs _
    exact enterJoining_ownLaw h.cls h.ranges (h.no_claim (by simp [hs]) (by simp [hs]))
  · exact h
  · rename_i hs _
    exact enterJoining_ownLaw h.cls h.ranges (h.no_claim (by simp [hs]) (by simp [hs]))
  · exact h
  · exact h

/-- The silence counter raised, and the fence that its third boundary brings in ACTIVE before the update ends (R40, R87). -/
theorem allocationBoundary_ownLaw (h : OwnLaw o s) : OwnLaw o (allocationBoundary s) := by
  have ranges : ShareRanges (raiseSilence s).alloc :=
    ⟨h.ranges.floor, h.ranges.demand, h.ranges.held, h.ranges.lastTx, h.ranges.attempt, h.ranges.failures,
      Nat.min_le_right _ _⟩
  have raised : (s.mc.station = .active → (raiseSilence s).alloc.share.silence < 3) → OwnLaw o (raiseSilence s) :=
      fun hsil =>
    h.share _ rfl rfl h.ranges.demand h.ranges.lastTx h.ranges.failures (Nat.min_le_right _ _) hsil
  unfold allocationBoundary
  split
  · refine endUpdate_ownLaw none ?_
    unfold fenceIfSilent
    split
    · exact changeState_ownLaw (by simpa using h.cls) (by simpa using ranges) (by decide) (by decide)
    · rename_i hbelow
      refine (raised fun _ => Nat.lt_of_not_le ?_).same (by simp) (by simp) (by simp) (by simp)
      simpa [Config.fenceSilence] using hbelow
  · rename_i hs
    exact endUpdate_ownLaw none (raised fun hact => absurd (hs.symm.trans hact) (by decide))
  · exact h

theorem takeBoundary_ownLaw (b : Block) (h : OwnLaw o s) : OwnLaw o (takeBoundary b s) := by
  unfold takeBoundary
  split
  · have taken : OwnLaw o { s with time := { s.time with boundaryDue := s.time.boundaryDue.erase b } } :=
      h.same rfl rfl rfl rfl
    cases b <;> unfold blockBoundary <;> dsimp only
    case shareTable => exact tableBoundary_ownLaw taken
    case membership => exact joinIfDue_ownLaw (taken.same (by simp) (by simp) (by simp) (by simp))
    case allocation => exact allocationBoundary_ownLaw taken
    case outbox =>
      unfold outboxBoundary
      split
      · exact taken.same rfl rfl rfl rfl
      · exact taken
  · exact h

theorem commitDeadlinePassed_ownLaw (h : OwnLaw o s) : OwnLaw o (commitDeadlinePassed s) := by
  unfold commitDeadlinePassed
  split
  · rename_i c hc
    split
    · split
      · rename_i hflight
        obtain ⟨window, deadline, roll, assents, sending, inFlight, _⟩ := h.claim.law c hc
        exact setClaim_ownLaw h hc ⟨window, deadline, roll, assents, sending, inFlight, fun _ => hflight⟩ rfl rfl
      · exact endUpdate_ownLaw none (lapseClaim_ownLaw h)
    · exact h
  · exact h

theorem backoffEnd_ownLaw (h : OwnLaw o s) : OwnLaw o (backoffEnd s) := by
  unfold backoffEnd startByItself
  split
  · split
    · exact settle_ownLaw none (tryStart_ownLaw (clearBackoff_ownLaw h))
    · exact clearBackoff_ownLaw h
  · exact h

theorem fenceUnfed_ownLaw (h : OwnLaw o s) : OwnLaw o (fenceUnfed s) := by
  unfold fenceUnfed
  split
  iterate 3 exact endUpdate_ownLaw none (changeState_ownLaw h.cls h.ranges (by decide) (by decide))
  exact h

theorem watchdogExpired_ownLaw (h : OwnLaw o s) : OwnLaw o (watchdogExpired s) := by
  unfold watchdogExpired
  split
  · have raised : OwnLaw o (raise .watchdogExpired none none (some (valueOf s.time.watchdog.interval)) s) :=
      h.same (by simp) (by simp) (by simp) (by simp)
    exact (fenceUnfed_ownLaw raised).same (by simp) (by simp) (by simp) (by simp)
  · exact h

/-! ## Queued requests taken -/

theorem configurable_iff (st : StationState) : configurable st = true ↔ st = .offline ∨ st = .detached ∨ st = .monitor := by
  cases st <;> simp [configurable]

/-- A record applied in a state without claim and held share (R49, R186). -/
theorem applyRecord_ownLaw {r : ConfigRecord} {polarity : Polarity} {steering : PerClass Steer} (h : OwnLaw o s)
    (hs : configurable s.mc.station = true) (hfloor : r.floor.toNat ≤ 250) :
        OwnLaw o (applyRecord r polarity steering s) := by
  have idle : s.mc.station ≠ .active ∧ s.mc.station ≠ .joining := by
    rcases (configurable_iff _).1 hs with hs | hs | hs <;> simp [hs]
  have none := h.no_claim idle.1 idle.2
  obtain ⟨cls, ⟨_, demand, held, lastTx, attempt, failures, silence⟩, _, inactive, _, _⟩ := h
  have zero := inactive idle.1
  refine ⟨cls, ⟨hfloor, demand, held, lastTx, attempt, failures, silence⟩, fun hact => absurd hact idle.1, inactive, ?_,
    fun _ _ => ⟨?_, ?_⟩⟩
  · show ClaimFits s.mc.station _ s.alloc.claim
    rw [none]
    exact claimFits_none idle.2 _
  · show s.alloc.share.held ≤ _
    rw [zero]
    exact Nat.zero_le _
  · show ∀ c ∈ s.alloc.claim, _
    simp [none]

theorem recordInRange_floor {r : ConfigRecord} {p : Polarity × PerClass Steer} (h : recordInRange r = some p) :
    r.floor.toNat ≤ 250 := by
  unfold recordInRange at h
  split at h
  · rename_i hr
    exact hr.1
  · simp at h

theorem configureTaken_ownLaw (h : OwnLaw o s) : OwnLaw o (configureTaken s) := by
  have reported : ∀ r, OwnLaw o (report r (popFifo s)) := fun r => h.same (by simp) (by simp) (by simp) (by simp)
  unfold configureTaken
  split
  · split
    · exact h
    · unfold takeConfigure
      split
      · rename_i hs
        split
        · exact reported _
        · rename_i polarity steering hr
          split
          · exact reported _
          · have applied := applyRecord_ownLaw (polarity := polarity) (steering := steering)
              (h.same (t := popFifo s) rfl rfl rfl rfl) hs (recordInRange_floor hr)
            exact endUpdate_ownLaw none (applied.same (by simp) (by simp) (by simp) (by simp))
      · exact reported _
  · exact h

theorem actOnActive_ownLaw (h : OwnLaw o s) : OwnLaw o (actOnActive s) := by
  have resolved : ∀ result, OwnLaw o (resolveFirst result s) := fun _ => h.same (by simp) (by simp) (by simp) (by simp)
  have begun : s.mc.station ≠ .active → s.mc.station ≠ .joining → OwnLaw o (beginJoin s) := by
    intro ha hj
    unfold beginJoin
    split
    · exact enterJoining_ownLaw h.cls h.ranges (h.no_claim ha hj)
    · exact changeState_ownLaw h.cls h.ranges (by decide) (by decide)
  unfold actOnActive
  split
  iterate 3
    rename_i hs
    split
    · exact begun (by simp [hs]) (by simp [hs])
    · exact resolved _
  · exact resolved _
  · exact resolved _

theorem actOnDetached_ownLaw (h : OwnLaw o s) : OwnLaw o (actOnDetached s) := by
  have resolved : ∀ result, OwnLaw o (resolveFirst result s) := fun _ => h.same (by simp) (by simp) (by simp) (by simp)
  unfold actOnDetached
  split
  iterate 6 exact changeState_ownLaw h.cls h.ranges (by decide) (by decide)
  iterate 5 exact resolved _

theorem followDemand_ownLaw (h : OwnLaw o s) : OwnLaw o (followDemand s) := by
  unfold followDemand
  split
  · rename_i hs
    have dropped : OwnLaw o (dropByDemand s) := by
      unfold dropByDemand
      split
      · exact abandonClaim_ownLaw _ h (by simp [hs])
      · exact h
    exact (decrease_ownLaw dropped).same rfl rfl rfl rfl
  · exact h

theorem demandTaken_ownLaw (h : OwnLaw o s) : OwnLaw o (demandTaken s) := by
  unfold demandTaken
  split
  · split
    · exact h
    · rename_i target _ _ _
      unfold takeDemand
      split
      · exact h.same (by simp) (by simp) (by simp) (by simp)
      · rename_i hrange
        have written : OwnLaw o (setShare { (popFifo s).alloc.share with demand := target.toNat } (popFifo s)) :=
          (h.same (t := popFifo s) rfl rfl rfl rfl).share _ rfl rfl (Nat.le_of_not_lt hrange) h.ranges.lastTx
            h.ranges.failures h.ranges.silence fun hs => (h.active hs).2
        exact endUpdate_ownLaw none (followDemand_ownLaw (written.same (by simp) (by simp) (by simp) (by simp)))
  · exact h

/-! ## The commands -/

theorem enterReset_ownLaw (rstN : Bool) (internal : Nat) (s : State) : OwnLaw o (enterReset rstN internal s) := by
  refine ⟨Nat.zero_le _, ⟨Nat.zero_le _, Nat.zero_le _, Nat.zero_le _, Nat.zero_le _, ?_, Nat.zero_le _, Nat.zero_le _⟩,
    ?_, fun _ => rfl, claimFits_none ?_ _, fun _ => ?_⟩
  · rintro b ⟨⟩
  · rintro ⟨⟩
  · rintro ⟨⟩
  · rintro ⟨⟩

theorem resetEnd_ownLaw (straps : Straps) (h : OwnLaw o s) : OwnLaw o (resetEnd straps s) := by
  unfold resetEnd
  split
  · split
    · exact changeState_ownLaw (Nat.le_of_lt_succ straps.cc.isLt) h.ranges (by split <;> decide) (by split <;> decide)
    · exact h.same rfl rfl rfl rfl
  · exact h

theorem effect_ownLaw (c : Instr) (h : OwnLaw o s) : OwnLaw o (effect c s) := by
  by_cases hc : quiet c = true
  · exact h.of_untouched (effect_untouched c hc s)
  cases c
  case rstNAsserted => exact enterReset_ownLaw _ _ _
  case powerUp => exact enterReset_ownLaw _ _ _
  case resetEnd straps => exact resetEnd_ownLaw straps h
  case tick event => exact tick_ownLaw event h
  case leaseBoundary order => exact h.foldl (fun _ b => takeBoundary_ownLaw b) order
  case earmarkExpiry station =>
    simp only [effect, earmarkExpiry]
    split
    · exact endUpdate_ownLaw none (h.same (by simp) (by simp) (by simp) (by simp))
    · exact h
  case responseWindowPassed =>
    simp only [effect, responseWindowPassed]
    split
    · exact endUpdate_ownLaw none (failClaim_ownLaw _ _ h)
    · exact h
  case commitDeadlinePassed => exact commitDeadlinePassed_ownLaw h
  case backoffEnd => exact backoffEnd_ownLaw h
  case answerDeadline slot =>
    simp only [effect, answerDeadline]
    split
    · split
      · exact h.same rfl rfl rfl rfl
      · exact dropAnswer_ownLaw _ _ h
    · exact h
  case watchdogExpired => exact watchdogExpired_ownLaw h
  case pilotPeriodStart levels between =>
    simp only [effect, pilotPeriodStart]
    split
    · exact h.same (by simp) (by simp) (by simp) (by simp)
    · exact h
  case faultInChange => exact h.same (by simp [effect]) (by simp [effect]) (by simp [effect]) (by simp [effect])
  case txInhibitAsserted =>
    simp only [effect, txInhibitAsserted]
    split
    · split
      · exact slotFailed_ownLaw _ _ (h.same rfl rfl rfl rfl)
      · exact h.same rfl rfl rfl rfl
    · exact h.same rfl rfl rfl rfl
  case lineOffer =>
    simp only [effect, lineOffer]
    split
    · split
      · exact startAttempt_ownLaw _ (h.same rfl rfl rfl rfl)
      · exact h
    · exact h
  case attemptCompleted =>
    simp only [effect, attemptCompleted]
    split
    · split
      · exact slotCompleted_ownLaw _ (h.same rfl rfl rfl rfl)
      · exact h
    · exact h
  case attemptCollided =>
    simp only [effect, attemptCollided]
    split
    · split
      · exact slotFailed_ownLaw _ _ (h.same rfl rfl rfl rfl)
      · exact h
    · exact h
  case frameVerdict => exact frameVerdict_ownLaw h
  case holdReceived =>
    simp only [effect, holdReceived]
    split
    · split
      · exact h
      · exact takeHold_ownLaw _ _ (h.same rfl rfl rfl rfl)
    · exact h
  case farewellReceived =>
    simp only [effect, farewellReceived]
    split
    · split
      · exact takeFarewell_ownLaw _ (h.same rfl rfl rfl rfl)
      · exact h
    · exact h
  case announceReceived =>
    simp only [effect, announceReceived]
    split
    · exact endUpdate_ownLaw none (decideAnswer_ownLaw _ (fun _ _ => answerAnnounce_ownLaw _ _ _ _ _ _ _)
        (takeAnnounce_ownLaw _ _ _ _ (h.same rfl rfl rfl rfl)))
    · exact h
  case claimReceived =>
    simp only [effect, claimReceived]
    split
    · exact endUpdate_ownLaw none (decideAnswer_ownLaw _ (fun _ _ => answerClaim_ownLaw _ _ _ _ _)
        (takeClaim_ownLaw _ _ (h.same rfl rfl rfl rfl)))
    · exact h
  case assentReceived =>
    simp only [effect, assentReceived]
    split
    · exact endUpdate_ownLaw none (takeAssent_ownLaw _ _ _ (h.same rfl rfl rfl rfl))
    · exact h
  case objectReceived =>
    simp only [effect, objectReceived]
    split
    · exact endUpdate_ownLaw none (failNamed_ownLaw _ _ _ _ (h.same (by simp) (by simp) (by simp) (by simp)))
    · exact h
  case transactionEnd shifted =>
    rcases transactionEnd_untouched shifted s with ⟨_, _, _, heq⟩ | hsame
    · simp only [effect, heq]
      exact enterReset_ownLaw _ _ _
    · exact h.of_untouched hsame
  case snapshotTaken =>
    simp only [effect, snapshotTaken]
    split
    · have settled := settle_ownLaw none (h.same (t := checkAllParity s) (by simp) (by simp) (by simp) (by simp))
      exact tryStart_ownLaw (settled.same (t := keepCopy (settle none (checkAllParity s))) (by simp) (by simp)
          (by simp) (by simp))
    · exact h
  case configureTaken => exact configureTaken_ownLaw h
  case stateRequestActiveTaken =>
    simp only [effect, stateRequestActiveTaken]
    split
    · split
      · exact h
      · exact actOnActive_ownLaw (h.same rfl rfl rfl rfl)
    · exact h
  case stateRequestDetachedTaken =>
    simp only [effect, stateRequestDetachedTaken]
    split
    · split
      · exact h
      · exact actOnDetached_ownLaw (h.same (by simp) (by simp) (by simp) (by simp))
    · exact h
  case demandTaken => exact demandTaken_ownLaw h
  all_goals exact absurd rfl hc

theorem oscPeriod_ownLaw (h : OwnLaw o s) : OwnLaw o (oscPeriod s) := by
  unfold oscPeriod
  split
  · exact h.same rfl rfl rfl rfl
  · split
    · exact tick_ownLaw _ (h.same rfl rfl rfl rfl)
    · exact h.same rfl rfl rfl rfl

theorem step_ownLaw (h : OwnLaw o s) (hstep : step s = .next t) : OwnLaw o t :=
  step_keeps (P := OwnLaw o) (fun _ _ h => h.same rfl rfl rfl rfl) (fun _ => oscPeriod_ownLaw)
      (fun c _ => effect_ownLaw c) s t
    h hstep

/-- Settles O56: the own holding operation by operation, the kept sums by the end of each update. -/
theorem everyStepKeepsTheHolding : Obligations.EveryStepKeepsTheHolding :=
  ⟨fun s t h hstep => (holdingLaw_iff t).2 (step_ownLaw ((holdingLaw_iff s).1 h) hstep), fun _ _ => step_sumsLaw⟩

end Sys2Proof.Machine
end

section
/-! PROOFS. The six slots and the transmitter (O57): what each part of the law is, and which writes keep it. -/

namespace Sys2Proof.Machine

variable {s t : State} {q : Option SlotId} {o o' : Outbox} {tx : Transmitter} {p r : SlotId}
  {answers : List AnswerSlot} {list : List Nat} {j k : Nat}

/-! ## Slots in flight -/

/-- A slot of this Outbox is in flight. -/
def Outbox.inFlight (o : Outbox) : SlotId → Bool
  | .hold => o.hold.inFlight
  | .claim => o.claim.inFlight
  | .answer k => (o.answers[k]?.getD AnswerSlot.empty).inFlight

theorem inFlightAt_eq (s : State) (p : SlotId) : inFlightAt s p = s.outbox.inFlight p := by cases p <;> rfl

/-- The slots in flight are those that the transmitter sends from, but for `q`, whose attempt has just ended. -/
structure FlightLaw (q : Option SlotId) (o : Outbox) (tx : Transmitter) : Prop where
  sent : ∀ p, o.inFlight p = true → tx.slot? = some p ∨ q = some p
  live : ∀ p, tx.liveSlot? = some p → o.inFlight p = true

theorem attempt?_sending (a : Attempt) :
    (Transmitter.sending a).attempt? = if a.stopped = true then none else some a := rfl

theorem slot?_eq_some : tx.slot? = some p ↔ ∃ a, tx = .sending a ∧ a.stopped = false ∧ a.slot = p := by
  cases tx with
  | sending a => by_cases ha : a.stopped = true <;> simp [Transmitter.slot?, attempt?_sending, ha]
  | _ => simp [Transmitter.slot?, Transmitter.attempt?]

theorem liveSlot?_eq_some : tx.liveSlot? = some p ↔ ∃ a, tx = .sending a ∧ a.live = true ∧ a.slot = p := by
  cases tx with
  | sending a =>
    by_cases ha : a.stopped = true
    · simp [Transmitter.liveSlot?, attempt?_sending, ha, Attempt.live]
    · by_cases hl : a.live = true <;> simp [Transmitter.liveSlot?, attempt?_sending, ha, hl]
  | _ => simp [Transmitter.liveSlot?, Transmitter.attempt?]

theorem cutFrom_of_slot_ne {a : Attempt} (h : a.slot ≠ p) : Transmitter.cutFrom p (.sending a) = .sending a := by
  simp [cutFrom_sending, h]

theorem cutFrom_slot? (h : tx.slot? = some r) (hr : r ≠ p) : (tx.cutFrom p).slot? = some r := by
  obtain ⟨a, rfl, hs, rfl⟩ := slot?_eq_some.1 h
  rw [cutFrom_of_slot_ne hr]
  exact h

/-- No attempt of the slot is open once it has been cut. -/
theorem cutFrom_liveSlot? (h : (tx.cutFrom p).liveSlot? = some r) : r ≠ p ∧ tx.liveSlot? = some r := by
  cases tx with
  | sending a =>
    rw [cutFrom_sending] at h
    split at h
    · simp [Transmitter.liveSlot?, Transmitter.attempt?] at h
    · rename_i hcut
      refine ⟨?_, h⟩
      rintro rfl
      obtain ⟨b, hb, hl, hslot⟩ := liveSlot?_eq_some.1 h
      obtain rfl : a = b := Transmitter.sending.inj hb
      exact hcut ⟨hslot, hl⟩
  | _ => simp [Transmitter.cutFrom, Transmitter.liveSlot?, Transmitter.attempt?] at h

theorem cutFrom_attempt? {a : Attempt} (h : (tx.cutFrom p).attempt? = some a) : tx.attempt? = some a := by
  cases tx with
  | sending b =>
    rw [cutFrom_sending] at h
    split at h
    · simp [Transmitter.attempt?] at h
    · exact h
  | _ => exact h

theorem FlightLaw.congr (h : FlightLaw q o tx) (hsame : ∀ r, o'.inFlight r = o.inFlight r) : FlightLaw q o' tx :=
  ⟨fun r hr => h.sent r (hsame r ▸ hr), fun r hr => (hsame r).trans (h.live r hr)⟩

/-- A slot that is emptied or refilled leaves flight, its attempt cut (R123, R124). -/
theorem FlightLaw.withdraw (h : FlightLaw q o tx) (hq : q = none ∨ q = some p) (hclear : o'.inFlight p = false)
    (hsame : ∀ r, r ≠ p → o'.inFlight r = o.inFlight r) : FlightLaw none o' (tx.cutFrom p) := by
  refine ⟨fun r hr => .inl ?_, fun r hr => ?_⟩
  · have hrp : r ≠ p := by
      rintro rfl
      simp [hclear] at hr
    rcases h.sent r (hsame r hrp ▸ hr) with hslot | hslot
    · exact cutFrom_slot? hslot hrp
    · rcases hq with rfl | rfl
      · simp at hslot
      · exact absurd (Option.some.inj hslot).symm hrp
  · obtain ⟨hrp, hlive⟩ := cutFrom_liveSlot? hr
    exact (hsame r hrp).trans (h.live r hlive)

/-- A report reaches the slot whose attempt has ended: none is in flight any more. -/
theorem FlightLaw.reported (h : FlightLaw (some p) o tx) (hlive : tx.liveSlot? = none) (hclear : o'.inFlight p = false)
    (hsame : ∀ r, r ≠ p → o'.inFlight r = o.inFlight r) : FlightLaw none o' tx := by
  refine ⟨fun r hr => .inl ?_, fun r hr => by simp [hlive] at hr⟩
  have hrp : r ≠ p := by
    rintro rfl
    simp [hclear] at hr
  rcases h.sent r (hsame r hrp ▸ hr) with hslot | hslot
  · exact hslot
  · exact absurd (Option.some.inj hslot).symm hrp

/-- The attempt of the transmitter ends: its slot is left to the report (R113 to R116). -/
theorem FlightLaw.ended {a : Attempt} {tx' : Transmitter} (h : FlightLaw none o (.sending a))
    (hlive : tx'.liveSlot? = none) :
    FlightLaw (some a.slot) o tx' := by
  refine ⟨fun r hr => .inr ?_, fun r hr => by simp [hlive] at hr⟩
  rcases h.sent r hr with hslot | hslot
  · obtain ⟨b, hb, _, rfl⟩ := slot?_eq_some.1 hslot
    rw [Transmitter.sending.inj hb]
  · simp at hslot

/-- The report finds the slot emptied or refilled (log 34): nothing is in flight. -/
theorem FlightLaw.outlived (h : FlightLaw (some p) o tx) (hidle : o.inFlight p = false) : FlightLaw none o tx := by
  refine ⟨fun r hr => .inl ?_, h.live⟩
  rcases h.sent r hr with hslot | hslot
  · exact hslot
  · rw [← Option.some.inj hslot, hidle] at hr
    simp at hr

/-- An attempt starts from an idle transmitter (R112). -/
theorem FlightLaw.started {a : Attempt} (h : FlightLaw none o .none) (hrun : a.stopped = false)
    (hset : o'.inFlight a.slot = true) (hsame : ∀ r, r ≠ a.slot → o'.inFlight r = o.inFlight r) :
    FlightLaw none o' (.sending a) := by
  refine ⟨fun r hr => .inl (slot?_eq_some.2 ⟨a, rfl, hrun, ?_⟩), fun r hr => ?_⟩
  · by_contra hne
    rcases h.sent r (hsame r (Ne.symm hne) ▸ hr) with hslot | hslot
    · simp [Transmitter.slot?, Transmitter.attempt?] at hslot
    · simp at hslot
  · obtain ⟨b, hb, _, rfl⟩ := liveSlot?_eq_some.1 hr
    rw [← Transmitter.sending.inj hb]
    exact hset

/-- The transmitter moves on from bit to bit without a new attempt. -/
theorem FlightLaw.moved {tx' : Transmitter} (h : FlightLaw q o tx) (hslot : tx.slot? = tx'.slot?)
    (hlive : ∀ p, tx'.liveSlot? = some p → tx.liveSlot? = some p) : FlightLaw q o tx' :=
  ⟨fun p hp => hslot ▸ h.sent p hp, fun p hp => h.live p (hlive p hp)⟩

/-! ## The bits of the attempt -/

/-- What the transmitter sends is an attempt of one of the six slots, its bits sent and read in step. -/
structure SendLaw (tx : Transmitter) (b : BitClock) : Prop where
  range : ∀ p, tx.slot? = some p → p.inRange = true
  bits : ∀ a, tx.attempt? = some a → a.Law b

theorem SendLaw.of_no_attempt {b : BitClock} (h : tx.attempt? = none) : SendLaw tx b :=
  ⟨fun p hp => by simp [Transmitter.slot?, h] at hp, fun a ha => by simp [h] at ha⟩

theorem SendLaw.cutFrom {b : BitClock} (h : SendLaw tx b) : SendLaw (tx.cutFrom p) b := by
  refine ⟨fun r hr => ?_, fun a ha => h.bits a (cutFrom_attempt? ha)⟩
  obtain ⟨a, ha, rfl⟩ := Option.map_eq_some_iff.1 hr
  exact h.range _ (Option.map_eq_some_iff.2 ⟨a, cutFrom_attempt? ha, rfl⟩)

/-! ## The ANSWER slots -/

/-- The slot at an index of the four. -/
def slotAt (answers : List AnswerSlot) (k : Nat) : AnswerSlot := answers[k]?.getD AnswerSlot.empty

theorem answerAt_eq (s : State) (k : Nat) : answerAt s k = slotAt s.outbox.answers k := rfl

theorem slotAt_set (answers : List AnswerSlot) (k : Nat) (a : AnswerSlot) (j : Nat) :
    slotAt (answers.set k a) j = if j = k ∧ k < answers.length then a else slotAt answers j := by
  unfold slotAt
  rw [List.getElem?_set]
  by_cases hk : k = j
  · subst hk
    by_cases hl : k < answers.length <;> simp [hl]
  · simp [hk, Ne.symm hk]

theorem slotAt_modify (answers : List AnswerSlot) (k : Nat) (f : AnswerSlot → AnswerSlot) (j : Nat) :
    slotAt (answers.modify k f) j = if j = k ∧ k < answers.length then f (slotAt answers j) else slotAt answers j := by
  unfold slotAt
  rw [List.getElem?_modify]
  by_cases hk : k = j
  · subst hk
    by_cases hl : k < answers.length <;> simp [hl]
  · simp [hk, Ne.symm hk]

theorem slotAt_map (answers : List AnswerSlot) (f : AnswerSlot → AnswerSlot) (hj : j < answers.length) :
    slotAt (answers.map f) j = f (slotAt answers j) := by
  simp [slotAt, hj]

theorem slotAt_mem (hj : j < answers.length) : slotAt answers j ∈ answers := by
  simp [slotAt, hj]

theorem exists_slotAt_of_mem {a : AnswerSlot} (h : a ∈ answers) : ∃ k, k < answers.length ∧ slotAt answers k = a := by
  obtain ⟨k, hk, rfl⟩ := List.getElem_of_mem h
  exact ⟨k, hk, by simp [slotAt, hk]⟩

theorem AnswerSlot.empty_law : AnswerSlot.empty.Law := rfl

theorem AnswerSlot.law_filled {a : AnswerSlot} (hf : a.occupancy = .filled) :
    a.Law ↔ a.key.isSome = true ∧ a.content.isSome = true ∧ a.deadline.isSome = true
      ∧ (a.rewritten = true → a.inFlight = true) := by
  unfold AnswerSlot.Law
  rw [hf]

theorem AnswerSlot.law_reserved {a : AnswerSlot} (hr : a.occupancy = .reserved) :
    a.Law ↔ a.key.isSome = true ∧ a.content = none ∧ a.inFlight = false ∧ a.rewritten = false := by
  unfold AnswerSlot.Law
  rw [hr]

theorem AnswerSlot.law_empty {a : AnswerSlot} (he : a.occupancy = .empty) : a.Law ↔ a = AnswerSlot.empty := by
  unfold AnswerSlot.Law
  rw [he]

theorem AnswerSlot.Law.filled_of_inFlight {a : AnswerSlot} (h : a.Law) (hf : a.inFlight = true) : a.occupancy = .filled := by
  cases ho : a.occupancy with
  | filled => rfl
  | reserved => simp [((law_reserved ho).1 h).2.2.1] at hf
  | empty => simp [(law_empty ho).1 h, AnswerSlot.empty] at hf

/-- The four ANSWER slots and the answer list (R119, R120). -/
structure AnswersLaw (answers : List AnswerSlot) (list : List Nat) : Prop where
  length : answers.length = 4
  law : ∀ a ∈ answers, a.Law
  nodup : list.Nodup
  listed : ∀ k < 4, k ∈ list ↔ (slotAt answers k).occupancy = .filled
  range : ∀ k ∈ list, k < 4
  keys : ∀ j < 4, ∀ k < 4, j ≠ k → (slotAt answers j).key.isSome = true → (slotAt answers j).key ≠ (slotAt answers k).key

theorem AnswersLaw.at (h : AnswersLaw answers list) (k : Nat) : (slotAt answers k).Law := by
  by_cases hk : k < answers.length
  · exact h.law _ (slotAt_mem hk)
  · rw [slotAt, List.getElem?_eq_none (Nat.le_of_not_lt hk)]
    exact AnswerSlot.empty_law

/-- Each slot keeps its occupancy and its key. -/
theorem AnswersLaw.congr {answers' : List AnswerSlot} (h : AnswersLaw answers list) (hlen : answers'.length = 4)
    (hlaw : ∀ k < 4, (slotAt answers' k).Law)
    (hsame : ∀ k < 4, (slotAt answers' k).occupancy = (slotAt answers k).occupancy
      ∧ (slotAt answers' k).key = (slotAt answers k).key) : AnswersLaw answers' list := by
  refine ⟨hlen, fun a ha => ?_, h.nodup, fun k hk => ?_, h.range, fun j hj k hk hjk => ?_⟩
  · obtain ⟨k, hk, rfl⟩ := exists_slotAt_of_mem ha
    exact hlaw k (hlen ▸ hk)
  · rw [(hsame k hk).1]
    exact h.listed k hk
  · rw [(hsame j hj).2, (hsame k hk).2]
    exact h.keys j hj k hk hjk

theorem AnswersLaw.map {f : AnswerSlot → AnswerSlot} (h : AnswersLaw answers list)
    (hf : ∀ a, a.Law → (f a).Law ∧ (f a).occupancy = a.occupancy ∧ (f a).key = a.key) : AnswersLaw (answers.map f) list := by
  have at_map : ∀ k < 4, slotAt (answers.map f) k = f (slotAt answers k) := fun k hk => slotAt_map _ _ (h.length ▸ hk)
  refine h.congr (by simp [h.length]) (fun k hk => ?_) fun k hk => ?_
  · rw [at_map k hk]
    exact (hf _ (h.at k)).1
  · rw [at_map k hk]
    exact (hf _ (h.at k)).2

theorem AnswersLaw.modify {f : AnswerSlot → AnswerSlot} (h : AnswersLaw answers list) (k : Nat)
    (hf : (f (slotAt answers k)).Law ∧ (f (slotAt answers k)).occupancy = (slotAt answers k).occupancy
      ∧ (f (slotAt answers k)).key = (slotAt answers k).key) : AnswersLaw (answers.modify k f) list := by
  have at_modify := slotAt_modify answers k f
  refine h.congr (by simp [h.length]) (fun j _ => ?_) fun j _ => ?_
  · rw [at_modify]
    split
    · rename_i hj
      exact hj.1 ▸ hf.1
    · exact h.at j
  · rw [at_modify]
    split
    · rename_i hj
      exact hj.1 ▸ hf.2
    · exact ⟨rfl, rfl⟩

/-- One slot rewritten, and the answer list with it. -/
theorem AnswersLaw.set {a : AnswerSlot} {list' : List Nat} (h : AnswersLaw answers list) (hk : k < 4) (ha : a.Law)
    (hnodup : list'.Nodup) (hmem : ∀ j, j ∈ list' ↔ if j = k then a.occupancy = .filled else j ∈ list)
    (hkey : a.key.isSome = true → ∀ j < 4, j ≠ k → (slotAt answers j).key ≠ a.key) :
    AnswersLaw (answers.set k a) list' := by
  have at_set : ∀ j, slotAt (answers.set k a) j = if j = k then a else slotAt answers j := by
    intro j
    simp [slotAt_set, h.length, hk]
  refine ⟨by simp [h.length], fun b hb => ?_, hnodup, fun j hj => ?_, fun j hj => ?_, fun i hi j hj hij => ?_⟩
  · rcases List.mem_or_eq_of_mem_set hb with hb | rfl
    · exact h.law b hb
    · exact ha
  · rw [hmem j, at_set j]
    split
    · rfl
    · exact h.listed j hj
  · by_cases hjk : j = k
    · exact hjk ▸ hk
    · exact h.range j (by simpa [hjk] using (hmem j).1 hj)
  · rw [at_set i, at_set j]
    split
    · rename_i hik
      subst hik
      rw [if_neg (Ne.symm hij)]
      exact fun hsome => (hkey hsome j hj (Ne.symm hij)).symm
    · rename_i hik
      split
      · intro hsome heq
        exact hkey (heq ▸ hsome) i hi hik heq
      · exact h.keys i hi j hj hij

theorem AnswersLaw.empty (h : AnswersLaw answers list) (k : Nat) :
    AnswersLaw (answers.set k AnswerSlot.empty) (list.filter (· != k)) := by
  by_cases hk : k < 4
  · refine h.set hk AnswerSlot.empty_law (h.nodup.filter _) (fun j => ?_) (by simp [AnswerSlot.empty])
    by_cases hj : j = k <;> simp [hj, AnswerSlot.empty]
  · have hset : answers.set k AnswerSlot.empty = answers := List.set_eq_of_length_le (by rw [h.length]; omega)
    have hfilter : list.filter (· != k) = list := List.filter_eq_self.2 fun j hj => by
      have := h.range j hj
      simp; omega
    rw [hset, hfilter]
    exact h

/-! ## The law of the slots, part by part -/

/-- The reservations of the frames on their way name one of the four slots (R67). -/
def Reservations (l : LineInterface) : Prop :=
  (∀ k, l.rx.reservation = some k → k < 4) ∧ ∀ d ∈ l.inbox, ∀ k, d.reservation = some k → k < 4

/-- The slots and the transmitter without their owners and the station state. -/
structure Slots (q : Option SlotId) (s : State) : Prop where
  hold : s.outbox.hold = HoldSlot.empty ∨ s.outbox.hold.occupancy = .filled
  answers : AnswersLaw s.outbox.answers s.outbox.answerList
  reservations : Reservations s.line
  flight : FlightLaw q s.outbox s.line.tx
  sends : SendLaw s.line.tx s.line.bits
  attempt : s.outbox.hold.inFlight = true → s.alloc.holdAttempt.isSome = true

/-- The slots agree with the claim that owns them: the CLAIM slot with its record, a commit attempt with the HOLD slot. -/
structure Owned (s : State) : Prop where
  slot : ClaimSlotLaw s
  commit : ∀ c, s.alloc.claim = some c → c.inFlight = true → s.outbox.hold.inFlight = true

/-- The slots hold what the station state allows (R28, R117). -/
structure Allowed (s : State) : Prop where
  slot : SlotLaw s
  reset : s.mc.station = .reset → s.line.tx.attempt? = none

/-- The law of the slots, with the slot `q` whose attempt has just ended left to its report. -/
structure SlotsLaw (q : Option SlotId) (s : State) : Prop where
  slots : Slots q s
  owned : Owned s
  allowed : Allowed s

theorem outboxLaw_iff (s : State) : OutboxLaw s ↔ SlotsLaw none s ∧ ClaimLaw s := by
  constructor
  · rintro ⟨slot, claimSlot, ⟨hold, length, law, nodup, listed, range, keys, rx, inbox⟩,
      ⟨fhold, fclaim, fanswer, live, inRange, bits, reset, commit, attempt⟩, claim⟩
    refine ⟨⟨⟨hold, ⟨length, law, nodup, listed, range, keys⟩, ⟨rx, inbox⟩, ⟨fun p hp => .inl ?_, fun p hp => ?_⟩,
      ⟨inRange, bits⟩, attempt⟩, ⟨claimSlot, commit⟩, slot, reset⟩, claim⟩
    · cases p with
      | hold => exact fhold hp
      | claim => exact fclaim hp
      | answer k =>
        refine fanswer k ?_ hp
        by_contra hk
        have : (answerAt s k) = AnswerSlot.empty := by
          rw [answerAt, List.getElem?_eq_none (by rw [length]; omega)]
          rfl
        change (answerAt s k).inFlight = true at hp
        simp [this, AnswerSlot.empty] at hp
    · rw [← inFlightAt_eq]
      exact live p hp
  · rintro ⟨⟨⟨hold, ⟨length, law, nodup, listed, range, keys⟩, ⟨rx, inbox⟩, ⟨sent, live⟩, ⟨inRange, bits⟩, attempt⟩,
      ⟨claimSlot, commit⟩, slot, reset⟩, claim⟩
    have flight : ∀ p, s.outbox.inFlight p = true → s.line.tx.slot? = some p := by simpa using sent
    exact ⟨slot, claimSlot, ⟨hold, length, law, nodup, listed, range, keys, rx, inbox⟩,
      ⟨flight .hold, flight .claim, fun k _ => flight (.answer k), fun p hp => inFlightAt_eq s p ▸ live p hp, inRange, bits,
        reset, commit, attempt⟩, claim⟩

theorem claimSlot_of_none (h : ClaimSlotLaw s) (hc : s.alloc.claim = none) : s.outbox.claim = ClaimSlot.empty := by
  unfold ClaimSlotLaw at h
  rwa [hc] at h

theorem claimSlotLaw_of_none (hc : s.alloc.claim = none) (hslot : s.outbox.claim = ClaimSlot.empty) : ClaimSlotLaw s := by
  unfold ClaimSlotLaw
  rwa [hc]

theorem claimSlotLaw_some {c : ClaimRecord} (hc : s.alloc.claim = some c) :
    ClaimSlotLaw s ↔ if c.phase = .sending then
        s.outbox.claim.occupancy = .filled ∧ s.outbox.claim.key = some c.number ∧ s.outbox.claim.content = some c.kind
      else s.outbox.claim = ClaimSlot.empty := by
  unfold ClaimSlotLaw
  rw [hc]

theorem Owned.of_no_claim (hc : s.alloc.claim = none) (hslot : s.outbox.claim = ClaimSlot.empty) : Owned s :=
  ⟨claimSlotLaw_of_none hc hslot, fun c h => by simp [hc] at h⟩

/-! ## What the law reads -/

theorem Slots.same (h : Slots q s) (ha : t.alloc.holdAttempt = s.alloc.holdAttempt := by simp)
    (ho : t.outbox = s.outbox := by simp) (hl : t.line = s.line := by simp) : Slots q t := by
  obtain ⟨hold, answers, reservations, flight, sends, attempt⟩ := h
  exact ⟨ho ▸ hold, ho ▸ answers, hl ▸ reservations, by rw [ho, hl]; exact flight, by rw [hl]; exact sends,
    by rw [ho, ha]; exact attempt⟩

theorem Owned.same (h : Owned s) (hc : t.alloc.claim = s.alloc.claim) (hslot : t.outbox.claim = s.outbox.claim)
    (hhold : t.outbox.hold = s.outbox.hold) : Owned t := by
  obtain ⟨slot, commit⟩ := h
  refine ⟨?_, by rw [hc, hhold]; exact commit⟩
  unfold ClaimSlotLaw at slot ⊢
  rw [hc, hslot]
  exact slot

theorem Allowed.same (h : Allowed s) (hs : t.mc.station = s.mc.station) (ho : t.outbox = s.outbox)
    (htx : t.line.tx = s.line.tx) : Allowed t := by
  obtain ⟨slot, reset⟩ := h
  refine ⟨?_, by rw [hs, htx]; exact reset⟩
  unfold SlotLaw at slot ⊢
  rw [hs, ho]
  exact slot

theorem SlotsLaw.same (h : SlotsLaw q s) (hs : t.mc.station = s.mc.station := by simp)
    (hc : t.alloc.claim = s.alloc.claim := by simp) (ha : t.alloc.holdAttempt = s.alloc.holdAttempt := by simp)
    (ho : t.outbox = s.outbox := by simp) (hl : t.line = s.line := by simp) : SlotsLaw q t :=
  ⟨h.slots.same ha ho hl, h.owned.same hc (by rw [ho]) (by rw [ho]), h.allowed.same hs ho (by rw [hl])⟩

/-- Only what the receiver holds has changed. -/
theorem SlotsLaw.received (h : SlotsLaw q s) (hs : t.mc.station = s.mc.station) (ha : t.alloc = s.alloc)
    (ho : t.outbox = s.outbox)
    (htx : t.line.tx = s.line.tx) (hb : t.line.bits = s.line.bits) (hr : Reservations t.line) : SlotsLaw q t := by
  obtain ⟨⟨hold, answers, _, flight, sends, attempt⟩, owned, allowed⟩ := h
  exact ⟨⟨ho ▸ hold, ho ▸ answers, hr, by rw [ho, htx]; exact flight, by rw [htx, hb]; exact sends,
      by rw [ho, ha]; exact attempt⟩,
    owned.same (by rw [ha]) (by rw [ho]) (by rw [ho]), allowed.same hs ho htx⟩

/-- Slots that are emptied are allowed in every state. -/
theorem Allowed.shrink (h : Allowed s) (hs : t.mc.station = s.mc.station)
    (hhold : t.outbox.hold.occupancy ≠ .empty → s.outbox.hold.occupancy ≠ .empty)
    (hclaim : t.outbox.claim.occupancy ≠ .empty → s.outbox.claim.occupancy ≠ .empty)
    (hanswers : ∀ a ∈ t.outbox.answers, a.occupancy ≠ .empty → ∃ b ∈ s.outbox.answers, b.occupancy ≠ .empty)
    (htx : s.line.tx.attempt? = none → t.line.tx.attempt? = none) : Allowed t := by
  obtain ⟨⟨hold, claim, answers⟩, reset⟩ := h
  refine ⟨⟨fun hn => hs ▸ hold (hhold hn), fun hn => hs ▸ claim (hclaim hn), fun a ha hn => ?_⟩,
      fun hr => htx (reset (hs ▸ hr))⟩
  obtain ⟨b, hb, hbn⟩ := hanswers a ha hn
  exact hs ▸ answers b hb hbn

end Sys2Proof.Machine
end

section
/-! PROOFS. The slots through the shared operations: slots emptied and filled, ends of the own claim, changes of
station state and
the end of an update (O57). -/

namespace Sys2Proof.Machine

variable {s t : State} {q : Option SlotId} {k : Nat}

/-! ## Slots emptied and refilled -/

/-- The HOLD slot emptied or refilled, an attempt of it cut (R121, R123, R124). -/
theorem Slots.putHold {f : HoldSlot} (h : Slots q s) (hq : q = none ∨ q = some .hold)
    (hf : f = HoldSlot.empty ∨ f.occupancy = .filled) (hidle : f.inFlight = false) :
    Slots none (cutAttempt .hold (setOutbox { s.outbox with hold := f } s)) := by
  obtain ⟨hold, answers, reservations, flight, sends, attempt⟩ := h
  refine ⟨hf, answers, reservations, flight.withdraw hq hidle fun r hr => ?_, sends.cutFrom,
      fun hin => by simp [hidle] at hin⟩
  cases r with
  | hold => exact absurd rfl hr
  | claim => rfl
  | answer j => rfl

theorem Slots.emptyHold (h : Slots q s) (hq : q = none ∨ q = some .hold) : Slots none (emptyHold s) :=
  h.putHold hq (.inl rfl) rfl

theorem Slots.refillHold (h : Slots none s) : Slots none (refillHold s) := h.putHold (.inl rfl) (.inr rfl) rfl

theorem Slots.emptyClaim (h : Slots q s) (hq : q = none ∨ q = some .claim) : Slots none (emptyClaim s) := by
  obtain ⟨hold, answers, reservations, flight, sends, attempt⟩ := h
  refine ⟨hold, answers, reservations, flight.withdraw hq rfl fun r hr => ?_, sends.cutFrom, attempt⟩
  cases r with
  | hold => rfl
  | claim => exact absurd rfl hr
  | answer j => rfl

theorem Outbox.inFlight_answers {o o' : Outbox} {r : SlotId} (hhold : o'.hold = o.hold) (hclaim : o'.claim = o.claim)
    (hr : ∀ j, r = .answer j → (slotAt o'.answers j).inFlight = (slotAt o.answers j).inFlight) :
    o'.inFlight r = o.inFlight r := by
  cases r with
  | hold => exact congrArg HoldSlot.inFlight hhold
  | claim => exact congrArg ClaimSlot.inFlight hclaim
  | answer j => exact hr j rfl

theorem Slots.emptyAnswer (k : Nat) (h : Slots q s) (hq : q = none ∨ q = some (.answer k)) :
    Slots none (emptyAnswer k s) := by
  obtain ⟨hold, answers, reservations, flight, sends, attempt⟩ := h
  refine ⟨hold, answers.empty k, reservations, flight.withdraw hq ?_ fun r hr => ?_, sends.cutFrom, attempt⟩
  · show (slotAt (s.outbox.answers.set k AnswerSlot.empty) k).inFlight = false
    rw [slotAt_set]
    split
    · rfl
    · rename_i hk
      have hlen : s.outbox.answers.length ≤ k := by simpa using hk
      simp [slotAt, List.getElem?_eq_none hlen, AnswerSlot.empty]
  · refine Outbox.inFlight_answers rfl rfl ?_
    rintro j rfl
    show (slotAt (s.outbox.answers.set k AnswerSlot.empty) j).inFlight = _
    rw [slotAt_set, if_neg]
    exact fun hj => hr (congrArg SlotId.answer hj.1)

theorem cutFrom_none {tx : Transmitter} {p : SlotId} (h : tx.attempt? = none) : (tx.cutFrom p).attempt? = none := by
  rw [Option.eq_none_iff_forall_not_mem] at h ⊢
  exact fun a ha => h a (cutFrom_attempt? ha)

theorem Allowed.emptyHold (h : Allowed s) : Allowed (emptyHold s) :=
  h.shrink (by simp) (by simp [HoldSlot.empty]) (by simp) (fun a ha hn => ⟨a, by simpa using ha, hn⟩)
    fun htx => by simpa using cutFrom_none htx

theorem Allowed.emptyClaim (h : Allowed s) : Allowed (emptyClaim s) :=
  h.shrink (by simp) (by simp) (by simp [ClaimSlot.empty]) (fun a ha hn => ⟨a, by simpa using ha, hn⟩)
    fun htx => by simpa using cutFrom_none htx

theorem Allowed.emptyAnswer (k : Nat) (h : Allowed s) : Allowed (emptyAnswer k s) := by
  refine h.shrink (by simp) (by simp) (by simp) (fun a ha hn => ⟨a, ?_, hn⟩) fun htx => by simpa using cutFrom_none htx
  rw [(emptyAnswer_answers k s).1] at ha
  rcases List.mem_or_eq_of_mem_set ha with ha | rfl
  · exact ha
  · exact absurd rfl hn

theorem SlotsLaw.emptyAnswer (k : Nat) (h : SlotsLaw q s) (hq : q = none ∨ q = some (.answer k)) :
    SlotsLaw none (emptyAnswer k s) :=
  ⟨h.slots.emptyAnswer k hq, h.owned.same (by simp) (by simp) (by simp), h.allowed.emptyAnswer k⟩

/-- The HOLD slot goes while no commit attempt is in flight. -/
theorem SlotsLaw.emptyHold (h : SlotsLaw q s) (hq : q = none ∨ q = some .hold)
    (hc : ∀ c, s.alloc.claim = some c → c.inFlight = false) : SlotsLaw none (emptyHold s) := by
  refine ⟨h.slots.emptyHold hq, ⟨?_, fun c hsome hin => ?_⟩, h.allowed.emptyHold⟩
  · have slot := h.owned.slot
    unfold ClaimSlotLaw at slot ⊢
    simpa using slot
  · rw [hc c (by simpa using hsome)] at hin
    simp at hin

theorem holdAllowed_station (h : holdAllowed s = true) : s.mc.station = .active ∨ s.mc.station = .joining := by
  simp only [holdAllowed, Bool.or_eq_true, Bool.and_eq_true, beq_iff_eq] at h
  exact h.imp_right And.left

theorem requestHold_slotsLaw (h : SlotsLaw q s) : SlotsLaw q (requestHold s) := by
  unfold requestHold
  split
  · rename_i hask
    obtain ⟨hallowed, hfree⟩ := Bool.and_eq_true_iff.1 hask
    obtain ⟨⟨hold, answers, reservations, flight, sends, attempt⟩, ⟨slot, commit⟩, ⟨hstation, hclaim, hanswers⟩, reset⟩ := h
    have empty : s.outbox.hold = HoldSlot.empty := hold.resolve_right (by simpa using hfree)
    have idle : s.outbox.hold.inFlight = false := by simp [empty, HoldSlot.empty]
    refine ⟨⟨.inr rfl, answers, reservations, flight.congr fun r => ?_, sends, fun hin => by simp [freshHold] at hin⟩,
      ⟨slot, fun c hc hin => by simp [idle] at commit; exact absurd hin (by simp [commit c hc])⟩,
      ⟨fun _ => (holdAllowed_station hallowed).elim .inl fun hj => .inr (.inl hj), hclaim, hanswers⟩, reset⟩
    cases r with
    | hold => exact idle.symm
    | claim => rfl
    | answer j => rfl
  · exact h

/-! ## Ends of the own claim -/

theorem removeClaim_slotsLaw (h : Slots q s) (hq : q = none ∨ q = some .claim) (ha : Allowed s) :
    SlotsLaw none (removeClaim s) :=
  have dropped : Slots q (setClaim none s) := h.same
  have allowed : Allowed (setClaim none s) := ha.same (by simp) (by simp) (by simp)
  ⟨dropped.emptyClaim hq, Owned.of_no_claim (by simp) (by simp), allowed.emptyClaim⟩

theorem SlotsLaw.removeClaim (h : SlotsLaw none s) : SlotsLaw none (removeClaim s) :=
  removeClaim_slotsLaw h.slots (.inl rfl) h.allowed

theorem countFailure_slotsLaw (h : SlotsLaw q s) : SlotsLaw q (countFailure s) := h.same

theorem countIf_slotsLaw (counted : Bool) (h : SlotsLaw q s) : SlotsLaw q (countIf counted s) := by
  unfold countIf
  split
  · exact countFailure_slotsLaw h
  · exact h

theorem abandonClaim_slotsLaw (reason : EndReason) (h : SlotsLaw none s) : SlotsLaw none (abandonClaim reason s) := by
  unfold abandonClaim
  split
  · exact h
  · rename_i c _
    have raised (value : Option Half) : SlotsLaw none (raise .claimAbandoned none (some c.number) value s) := h.same
    exact countIf_slotsLaw _ (raised _).removeClaim

theorem abandonIncrease_slotsLaw (reason : EndReason) (h : SlotsLaw none s) : SlotsLaw none (abandonIncrease reason s) := by
  unfold abandonIncrease
  split
  · exact abandonClaim_slotsLaw reason h
  · exact h

/-! ## The own held and the end of an update -/

theorem lowerHeld_slotsLaw (n : Nat) (h : SlotsLaw q s) : SlotsLaw q (lowerHeld n s) := requestHold_slotsLaw h.same

theorem decrease_slotsLaw (h : SlotsLaw q s) : SlotsLaw q (decrease s) := by
  unfold decrease
  split
  · exact lowerHeld_slotsLaw _ h
  · exact h

theorem cutToFloor_slotsLaw (h : SlotsLaw q s) : SlotsLaw q (cutToFloor s) := by
  unfold cutToFloor
  split
  · exact lowerHeld_slotsLaw _ h
  · exact h

theorem clearOvercommit_slotsLaw (h : SlotsLaw q s) : SlotsLaw q (clearOvercommit s) := h.same

theorem setOvercommit_slotsLaw (source : Option Nat) (h : SlotsLaw none s) : SlotsLaw none (setOvercommit source s) := by
  have marked : SlotsLaw none
      (raise .overcommitSet source none (some (valueOf s.table.sums.held)) (markOvercommit true s)) := h.same
  have cut := cutToFloor_slotsLaw (abandonIncrease_slotsLaw .overcommit marked)
  have refreshed : SlotsLaw none (refreshSums (cutToFloor (abandonIncrease .overcommit
    (raise .overcommitSet source none (some (valueOf s.table.sums.held)) (markOvercommit true s))))) := cut.same
  unfold setOvercommit clearIfFits
  split
  · exact clearOvercommit_slotsLaw refreshed
  · exact refreshed

theorem settle_slotsLaw (source : Option Nat) (h : SlotsLaw none s) : SlotsLaw none (settle source s) := by
  have refreshed : SlotsLaw none (setCondition .suspectPresent (anySuspect s) (refreshSums s)) := h.same
  unfold settle settleOvercommit
  split
  · exact setOvercommit_slotsLaw source refreshed
  · split
    · exact clearOvercommit_slotsLaw refreshed
    · exact refreshed

/-- A claim opened over no claim fills an empty CLAIM slot (R122). -/
theorem openClaim_slotsLaw (kind : ClaimKind) (amount : Nat) (h : SlotsLaw none s) (hc : s.alloc.claim = none)
    (hs : s.mc.station = .active ∨ s.mc.station = .joining) : SlotsLaw none (openClaim kind amount s) := by
  obtain ⟨⟨hold, answers, reservations, flight, sends, attempt⟩, ⟨slot, _⟩, ⟨hstation, _, hanswers⟩, reset⟩ := h
  refine ⟨⟨hold, answers, reservations, flight.congr fun r => ?_, sends, attempt⟩, ⟨?_, ?_⟩,
      ⟨hstation, fun _ => hs, hanswers⟩, reset⟩
  · cases r with
    | claim =>
      show false = s.outbox.claim.inFlight
      rw [claimSlot_of_none slot hc]
      rfl
    | hold => rfl
    | answer j => rfl
  · exact (claimSlotLaw_some rfl).2 (by simp [freshClaim, freshClaimSlot, openClaim])
  · rintro c hopen hin
    obtain rfl : freshClaim kind (s.alloc.share.claimCounter + 1) amount = c := Option.some.inj hopen
    simp [freshClaim] at hin

theorem tryStart_slotsLaw (h : SlotsLaw none s) : SlotsLaw none (tryStart s) := by
  unfold tryStart
  split
  · rename_i hstart
    obtain ⟨active, _, free, _⟩ := (mayStart_iff s).1 hstart
    have opened := openClaim_slotsLaw .increase (min (s.alloc.share.demand - s.alloc.share.held) s.table.sums.room) h free
      (.inl active)
    exact opened.same
  · exact h

theorem endUpdate_slotsLaw (source : Option Nat) (h : SlotsLaw none s) : SlotsLaw none (endUpdate source s) :=
  tryStart_slotsLaw (settle_slotsLaw source h)

theorem endIfChanged_slotsLaw {before : State} (h : SlotsLaw none s) : SlotsLaw none (endIfChanged before s) := by
  unfold endIfChanged
  split
  · exact endUpdate_slotsLaw none h
  · exact h

/-! ## Changes of station state -/

theorem dropReservations_slots (h : Slots q s) : Slots q (dropReservations s) := by
  obtain ⟨hold, answers, _, flight, sends, attempt⟩ := h
  refine ⟨hold, answers, ⟨fun k hk => by simp [dropReservations] at hk, fun d hd k hk => ?_⟩, flight, sends, attempt⟩
  obtain ⟨e, _, rfl⟩ := List.mem_map.1 hd
  simp at hk

theorem emptyAnswers_slots (n : Nat) (h : Slots none s) :
    Slots none ((List.range n).foldl (fun s k => emptyAnswer k (dropSlotEarmark k s)) s) :=
  foldl_stable (P := Slots none) (fun s k h => (h.same (t := dropSlotEarmark k s)).emptyAnswer k (.inl rfl)) _ h

theorem discardAnswers_slots (h : Slots none s) : Slots none (discardAnswers s) :=
  dropReservations_slots (emptyAnswers_slots 4 h)

theorem emptyAnswers_slotAt (n : Nat) (s : State) :
    ∀ k, k < n ∨ slotAt s.outbox.answers k = AnswerSlot.empty →
      slotAt ((List.range n).foldl (fun s k => emptyAnswer k (dropSlotEarmark k s)) s).outbox.answers k
          = AnswerSlot.empty := by
  induction n with
  | zero => simp
  | succ n ih =>
    intro k hk
    rw [List.range_succ, List.foldl_append]
    simp only [List.foldl_cons, List.foldl_nil, emptyAnswer_answers, dropSlotEarmark_keeps, slotAt_set]
    split
    · rfl
    · rename_i hother
      by_cases hkn : k = n
      · subst hkn
        have hlen : ¬ k < _ := fun hl => hother ⟨rfl, hl⟩
        rw [slotAt, List.getElem?_eq_none (Nat.le_of_not_lt hlen)]
        rfl
      · exact ih k (hk.imp_left fun hlt => by omega)

/-- The ANSWER slots once discarded are EMPTY (R28). -/
theorem discardAnswers_empty (h : Slots none s) : ∀ a ∈ (discardAnswers s).outbox.answers, a = AnswerSlot.empty := by
  intro a ha
  have length := (discardAnswers_slots h).answers.length
  obtain ⟨k, hk, rfl⟩ := exists_slotAt_of_mem ha
  exact emptyAnswers_slotAt 4 s k (.inl (length ▸ hk))

theorem discardSlots_slots (new : StationState) (h : Slots none s) : Slots none (discardSlots new s) := by
  have withdrawn := (discardAnswers_slots h).emptyClaim (.inl rfl)
  unfold discardSlots
  split
  · exact h
  · exact withdrawn.refillHold
  · exact withdrawn.refillHold
  · exact withdrawn.emptyHold (.inl rfl)

/-- What the slots hold once a state has taken the ones it allows (R28). -/
theorem discardSlots_left {new : StationState} (h : Slots none s) (hn : new ≠ .active) :
    (discardSlots new s).outbox.claim = ClaimSlot.empty
      ∧ (∀ a ∈ (discardSlots new s).outbox.answers, a = AnswerSlot.empty)
      ∧ ((discardSlots new s).outbox.hold.occupancy ≠ .empty → new = .leaving ∨ new = .fenced) := by
  have empty := discardAnswers_empty h
  cases new
  case active => exact absurd rfl hn
  case leaving => exact ⟨by simp [discardSlots], by simpa [discardSlots] using empty, fun _ => .inl rfl⟩
  case fenced => exact ⟨by simp [discardSlots], by simpa [discardSlots] using empty, fun _ => .inr rfl⟩
  all_goals exact ⟨by simp [discardSlots], by simpa [discardSlots] using empty, by simp [discardSlots, HoldSlot.empty]⟩

theorem abandonOutside_slots (new : StationState) (h : Slots none s) : Slots none (abandonOutside new s) := by
  have counted (b : Bool) (u : State) (hu : Slots none u) : Slots none (countIf b u) := by
    unfold countIf
    split
    · exact hu.same
    · exact hu
  unfold abandonOutside abandonClaim
  split
  · exact h
  split
  · exact h
  · refine counted _ _ (Slots.emptyClaim (q := none) ?_ (.inl rfl))
    exact h.same

/-- A change of state from any slots to those it allows; the claim is the caller's to have closed, where the state does not
close it. -/
theorem changeState_slotsLaw {new : StationState} (hr : new ≠ .reset) (h : Slots none s) (ha : new = .active → Owned s)
    (hj : new = .joining → s.alloc.claim = none) : SlotsLaw none (changeState new s) := by
  unfold changeState
  generalize hv : setStation new (raise _ _ _ _ (abandonOutside new s)) = v
  have slots : Slots none v := hv ▸ (abandonOutside_slots new h).same
  have claim : v.alloc.claim = (abandonOutside new s).alloc.claim := by simp [← hv]
  have left : Slots none (discardSlots new v) ∧ Owned (discardSlots new v) := by
    refine ⟨discardSlots_slots new slots, ?_⟩
    by_cases hact : new = .active
    · subst hact
      have owned : Owned v := (ha rfl).same (by simp [claim, abandonOutside]) (by simp [← hv, abandonOutside])
        (by simp [← hv, abandonOutside])
      exact owned
    · refine Owned.of_no_claim ?_ (discardSlots_left slots hact).1
      simp [claim, abandonOutside_alloc hact hj]
  refine settle_slotsLaw none ⟨left.1.same, left.2.same (by simp) (by simp) (by simp), ⟨?_, ?_⟩⟩
  · by_cases hact : new = .active
    · refine ⟨fun _ => .inl ?_, fun _ => .inl ?_, fun _ _ _ => ?_⟩ <;> simp [← hv, hact]
    · obtain ⟨noClaim, noAnswer, hold⟩ := discardSlots_left slots hact
      refine ⟨fun hn => ?_, fun hn => ?_, fun a hmem hn => ?_⟩
      · rcases hold (by simpa using hn) with rfl | rfl
        · exact .inr (.inr (.inl (by simp [← hv])))
        · exact .inr (.inr (.inr (by simp [← hv])))
      · simp [noClaim, ClaimSlot.empty] at hn
      · rw [noAnswer a (by simpa using hmem)] at hn
        exact absurd rfl hn
  · intro hreset
    exact absurd (by simpa [← hv] using hreset) hr

theorem enterJoining_slotsLaw (h : Slots none s) (hc : s.alloc.claim = none) : SlotsLaw none (enterJoining s) := by
  have joining := changeState_slotsLaw (s := s) (new := .joining) (by decide) h (by simp) fun _ => hc
  refine openClaim_slotsLaw .floor _ (joining.same (t := clearSilence _)) ?_ (.inr ?_)
  · simp only [clearSilence_keeps]
    rw [changeState_alloc (by decide) fun _ => hc]
  · simp

/-! ## What the claim does -/

theorem afterClaim_slotsLaw (kind : ClaimKind) {state : StationState} (ha : state ≠ .active) (hj : state ≠ .joining)
    (hr : state ≠ .reset) (h : SlotsLaw none s) : SlotsLaw none (afterClaim kind state s) := by
  cases kind
  case increase => exact countFailure_slotsLaw h
  case floor => exact changeState_slotsLaw hr h.slots (fun hn => absurd hn ha) fun hn => absurd hn hj

/-- A claim that fails is withdrawn, whatever its slot held. -/
theorem failClaim_slotsLaw_of_some {c : ClaimRecord} (reason : EndReason) (objector : Option Nat) (h : Slots none s)
    (ha : Allowed s) (hc : s.alloc.claim = some c) : SlotsLaw none (failClaim reason objector s) := by
  unfold failClaim
  rw [hc]
  refine afterClaim_slotsLaw _ ?_ ?_ ?_ (removeClaim_slotsLaw h.same (.inl rfl) (ha.same (by simp) (by simp) (by simp)))
  all_goals split <;> decide

theorem failClaim_slotsLaw (reason : EndReason) (objector : Option Nat) (h : SlotsLaw none s) :
    SlotsLaw none (failClaim reason objector s) := by
  cases hc : s.alloc.claim with
  | none => simpa [failClaim, hc] using h
  | some c => exact failClaim_slotsLaw_of_some reason objector h.slots h.allowed hc

theorem lapseClaim_slotsLaw_of_some {c : ClaimRecord} (h : Slots none s) (ha : Allowed s) (hc : s.alloc.claim = some c) :
    SlotsLaw none (lapseClaim s) := by
  unfold lapseClaim
  rw [hc]
  exact afterClaim_slotsLaw _ (by decide) (by decide) (by decide)
    (removeClaim_slotsLaw h.same (.inl rfl) (ha.same (by simp) (by simp) (by simp)))

theorem lapseClaim_slotsLaw (h : SlotsLaw none s) : SlotsLaw none (lapseClaim s) := by
  cases hc : s.alloc.claim with
  | none => simpa [lapseClaim, hc] using h
  | some c => exact lapseClaim_slotsLaw_of_some h.slots h.allowed hc

/-- The open claim rewritten in place: its number, its kind and whether it waits for its frame stay. -/
theorem setClaim_slotsLaw {c c' : ClaimRecord} (h : SlotsLaw q s) (hc : s.alloc.claim = some c)
    (hphase : c'.phase = .sending ↔ c.phase = .sending) (hnumber : c'.number = c.number) (hkind : c'.kind = c.kind)
    (hflight : c'.inFlight = true → c.inFlight = true) : SlotsLaw q (setClaim (some c') s) := by
  refine ⟨h.slots.same, ⟨?_, ?_⟩, h.allowed.same (by simp) (by simp) (by simp)⟩
  · have slot := (claimSlotLaw_some hc).1 h.owned.slot
    refine (claimSlotLaw_some (setClaim_claim _ _)).2 ?_
    simp only [hphase, hnumber, hkind]
    simpa using slot
  · intro d hd hin
    obtain rfl : c' = d := Option.some.inj hd
    simpa using h.owned.commit c hc (hflight hin)

/-- A claim past its sending has no frame to wait for: the CLAIM slot is EMPTY already. -/
theorem setClaim_past_slotsLaw {c' : ClaimRecord} (h : Slots q s) (ha : Allowed s) (hslot : s.outbox.claim = ClaimSlot.empty)
    (hphase : c'.phase ≠ .sending) (hflight : c'.inFlight = true → s.outbox.hold.inFlight = true) :
    SlotsLaw q (setClaim (some c') s) := by
  refine ⟨h.same, ⟨?_, ?_⟩, ha.same (by simp) (by simp) (by simp)⟩
  · refine (claimSlotLaw_some (setClaim_claim _ _)).2 ?_
    rw [if_neg hphase]
    simpa using hslot
  · intro d hd hin
    obtain rfl : c' = d := Option.some.inj hd
    simpa using hflight hin

theorem commitIfCovered_slotsLaw (h : SlotsLaw q s) : SlotsLaw q (commitIfCovered s) := by
  unfold commitIfCovered
  split
  · rename_i hcovered
    cases hc : s.alloc.claim with
    | none => simp [hc] at hcovered
    | some c =>
      have awaiting : c.phase = .awaiting := by
        simp only [hc, Option.any_some, Bool.and_eq_true, beq_iff_eq] at hcovered
        exact hcovered.1
      unfold enterCommitting
      rw [hc]
      exact requestHold_slotsLaw (setClaim_slotsLaw h hc (by simp [awaiting]) rfl rfl id)
  · exact h

theorem strikeOff_slotsLaw (i : Nat) (h : SlotsLaw q s) : SlotsLaw q (strikeOff i s) := by
  unfold strikeOff
  split
  · cases hc : s.alloc.claim with
    | none => exact commitIfCovered_slotsLaw (h.same (by simp) (by simp [hc]))
    | some c => exact commitIfCovered_slotsLaw (setClaim_slotsLaw h hc Iff.rfl rfl rfl id)
  · exact h

end Sys2Proof.Machine
end

section
/-! PROOFS. The slots through attempts and their reports, the answers, and the frames taken (O57). -/

namespace Sys2Proof.Machine

variable {s t : State} {q : Option SlotId} {k x : Nat} {n : Byte}

/-! ## Attempts started -/

/-- An attempt starts from an idle transmitter, its slot the one more in flight (R112). -/
theorem beginSending_slots {slot : SlotId} (f : Frame) (h : Slots none s) (hidle : s.line.tx = .none)
    (hr : slot.inRange = true)
    (ha : t.alloc.holdAttempt = s.alloc.holdAttempt ∨ t.alloc.holdAttempt.isSome = true) (hl : t.line = s.line)
    (hhold : t.outbox.hold = s.outbox.hold
      ∨ (t.outbox.hold.occupancy = .filled ∧ t.alloc.holdAttempt.isSome = true))
    (hanswers : AnswersLaw t.outbox.answers t.outbox.answerList) (hset : t.outbox.inFlight slot = true)
    (hsame : ∀ r, r ≠ slot → t.outbox.inFlight r = s.outbox.inFlight r) : Slots none (beginSending slot f t) := by
  obtain ⟨hold, _, reservations, flight, _, attempt⟩ := h
  rw [hidle] at flight
  refine ⟨?_, hanswers, by rw [← hl] at reservations; exact reservations, flight.started rfl hset hsame, ⟨?_, ?_⟩,
      fun hin => ?_⟩
  · rcases hhold with hhold | hhold
    · exact hhold ▸ hold
    · exact .inr hhold.1
  · intro p hp
    obtain ⟨a, htx, _, rfl⟩ := slot?_eq_some.1 hp
    rw [← Transmitter.sending.inj htx]
    exact hr
  · intro a hattempt
    obtain rfl := Option.some.inj hattempt
    exact ⟨Nat.zero_le _, Nat.le_refl _, Nat.zero_le _⟩
  · rcases hhold with hhold | hhold
    · rcases ha with ha | ha
      · exact ha ▸ attempt (hhold ▸ hin)
      · exact ha
    · exact hhold.2

theorem startHold_slotsLaw (h : SlotsLaw none s) (hidle : s.line.tx = .none) (hs : s.mc.station ≠ .reset)
    (hfilled : s.outbox.hold.occupancy = .filled) : SlotsLaw none (startHold s) := by
  unfold startHold
  obtain ⟨slots, ⟨slot, _⟩, ⟨station, _⟩⟩ := h
  refine endIfChanged_slotsLaw ⟨?_, ⟨?_, fun _ _ _ => rfl⟩, ⟨station, fun hr => absurd hr hs⟩⟩
  · refine beginSending_slots _ slots hidle rfl (.inr rfl) rfl (.inr ⟨hfilled, rfl⟩) slots.answers rfl fun r hr => ?_
    cases r with
    | hold => exact absurd rfl hr
    | claim => rfl
    | answer j => rfl
  · show ClaimSlotLaw (noteAttempt (holdNow s) s)
    unfold ClaimSlotLaw at slot ⊢
    unfold noteAttempt
    cases hc : s.alloc.claim <;> cases hcommit : (holdNow s).commit.isSome <;> simpa [hc, hcommit] using slot

theorem startClaim_slotsLaw (h : SlotsLaw none s) (hidle : s.line.tx = .none) (hs : s.mc.station ≠ .reset)
    (hfilled : s.outbox.claim.occupancy = .filled) : SlotsLaw none (startClaim s) := by
  unfold startClaim
  split
  · obtain ⟨slots, ⟨slot, commit⟩, ⟨station, _⟩⟩ := h
    refine ⟨?_, ⟨?_, commit⟩, ⟨station, fun hr => absurd hr hs⟩⟩
    · refine beginSending_slots _ slots hidle rfl (.inl rfl) rfl (.inl rfl) slots.answers rfl fun r hr => ?_
      cases r with
      | hold => rfl
      | claim => exact absurd rfl hr
      | answer j => rfl
    · have busy : s.outbox.claim ≠ ClaimSlot.empty := fun he => by simp [he, ClaimSlot.empty] at hfilled
      show ClaimSlotLaw (markClaimInFlight s)
      unfold ClaimSlotLaw at slot ⊢
      unfold markClaimInFlight
      cases hc : s.alloc.claim with
      | none => exact absurd (by simpa [hc] using slot) busy
      | some c =>
        by_cases hphase : c.phase = .sending
        · simpa [hc, hphase] using slot
        · exact absurd (by simpa [hc, hphase] using slot) busy
  · exact h

theorem startAnswer_slotsLaw (h : SlotsLaw none s) (hidle : s.line.tx = .none) (hs : s.mc.station ≠ .reset) (hk : k < 4)
    (hfilled : (answerAt s k).occupancy = .filled) : SlotsLaw none (startAnswer k s) := by
  unfold startAnswer
  split
  · obtain ⟨slots, owned, ⟨⟨hold, claim, answers⟩, _⟩⟩ := h
    have law := slots.answers.at k
    have hlen : k < s.outbox.answers.length := slots.answers.length ▸ hk
    have marked := slots.answers.modify (f := fun a => { a with inFlight := true }) k
      ⟨by obtain ⟨key, content, deadline, _⟩ := (AnswerSlot.law_filled hfilled).1 law
          exact (AnswerSlot.law_filled (a := { slotAt s.outbox.answers k with inFlight := true }) hfilled).2
              ⟨key, content, deadline, fun _ => rfl⟩, rfl, rfl⟩
    refine ⟨?_, owned.same rfl rfl rfl, ⟨⟨hold, claim, fun a ha hn => ?_⟩, fun hr => absurd hr hs⟩⟩
    · refine beginSending_slots _ slots hidle (by simpa [SlotId.inRange] using hk) (.inl rfl) rfl
          (.inl rfl) marked ?_ fun r hr => ?_
      · show (slotAt (s.outbox.answers.modify k _) k).inFlight = true
        rw [slotAt_modify, if_pos ⟨rfl, hlen⟩]
      · refine Outbox.inFlight_answers rfl rfl ?_
        rintro j rfl
        show (slotAt (s.outbox.answers.modify k _) j).inFlight = _
        rw [slotAt_modify, if_neg]
        exact fun hj => hr (congrArg SlotId.answer hj.1)
    · exact answers (answerAt s k) (slotAt_mem hlen) (by simp [hfilled])
  · exact h

/-- What the chosen slot holds (R125, R126). -/
theorem chooseSlot_eq_some {slot : SlotId} (h : chooseSlot s = some slot) :
    match slot with
    | .hold => s.outbox.hold.eligible = true
    | .claim => s.outbox.claim.eligible = true
    | .answer k => k ∈ s.outbox.answerList ∧ (answerAt s k).eligible = true := by
  unfold chooseSlot at h
  split at h
  · rename_i k hfind
    obtain rfl := Option.some.inj h
    exact ⟨List.mem_of_find?_eq_some hfind, by simpa using List.find?_some hfind⟩
  · split at h
    · obtain rfl := Option.some.inj h
      assumption
    · split at h
      · obtain rfl := Option.some.inj h
        assumption
      · simp at h

/-! ## Bit boundaries -/

theorem Attempt.Law.next {a : Attempt} {b : BitClock} (h : a.Law b) :
    a.sent < a.read → ({ a with sent := a.sent + 1 } : Attempt).Law b.start := by
  obtain ⟨total, sent, read⟩ := h
  intro hlt
  have step : b.taken.toNat ≤ 1 := Bool.toNat_le _
  refine ⟨total, ?_, ?_⟩
  · show a.sent + 1 ≤ a.read
    omega
  · show a.read ≤ a.sent + 1 + _
    omega

theorem Attempt.Law.wait {a : Attempt} {b c : BitClock} (h : a.Law b) (hle : a.read ≤ a.sent) : a.Law c :=
  ⟨h.1, h.2.1, Nat.le_trans hle (Nat.le_add_right _ _)⟩

theorem advance_slots {o : Outbox} {tx : Transmitter} {b : BitClock} (hf : FlightLaw none o tx) (hsend : SendLaw tx b) :
    FlightLaw none o tx.advance ∧ SendLaw tx.advance b.start := by
  cases tx with
  | none => exact ⟨hf, .of_no_attempt rfl⟩
  | marking a start => exact ⟨hf.moved rfl (fun p hp => hp), .of_no_attempt rfl⟩
  | sending a =>
    by_cases hs : a.stopped = true
    · have idle : (Transmitter.sending a).attempt? = none := by simp [attempt?_sending, hs]
      have moves : (Transmitter.sending a).advance = .none := by simp [Transmitter.advance, hs]
      have slot : (Transmitter.sending a).slot? = Transmitter.none.slot? := by
        rw [Transmitter.slot?, idle]
        rfl
      rw [moves]
      exact ⟨hf.moved slot fun p hp => by simp [Transmitter.liveSlot?, Transmitter.attempt?] at hp, .of_no_attempt rfl⟩
    · have law := hsend.bits a (by simp [attempt?_sending, hs])
      have range := hsend.range a.slot (slot?_eq_some.2 ⟨a, rfl, by simpa using hs, rfl⟩)
      by_cases hlt : a.sent < a.read
      · have moves : (Transmitter.sending a).advance = .sending { a with sent := a.sent + 1 } := by
          simp [Transmitter.advance, hs, hlt]
        rw [moves]
        refine ⟨hf.moved (by simp [Transmitter.slot?, attempt?_sending, hs]) fun p hp => ?_,
            ⟨fun p hp => ?_, fun c hc => ?_⟩⟩
        · obtain ⟨c, hc, hlive, rfl⟩ := liveSlot?_eq_some.1 hp
          rw [← Transmitter.sending.inj hc] at hlive ⊢
          exact liveSlot?_eq_some.2 ⟨a, rfl, hlive, rfl⟩
        · obtain ⟨c, hc, _, rfl⟩ := slot?_eq_some.1 hp
          rw [← Transmitter.sending.inj hc]
          exact range
        · obtain ⟨_, rfl⟩ : ¬a.stopped = true ∧ { a with sent := a.sent + 1 } = c := by simpa [attempt?_sending] using hc
          exact law.next hlt
      · have waits : (Transmitter.sending a).advance = .sending a := by simp [Transmitter.advance, hs, hlt]
        rw [waits]
        refine ⟨hf, hsend.range, fun c hc => ?_⟩
        obtain rfl : a = c := by simpa [attempt?_sending, hs] using hc
        exact law.wait (Nat.le_of_not_lt hlt)

end Sys2Proof.Machine
end

section
/-! PROOFS. The slots through the reports of their attempts and the answers decided (O57). -/

namespace Sys2Proof.Machine

variable {s t : State} {q : Option SlotId} {k x : Nat} {n : Byte}

/-! ## Ends of attempts -/

/-- The transmitter ends or stops an attempt, and its slot waits for the report (R113 to R116). -/
theorem SlotsLaw.ended {a : Attempt} (h : SlotsLaw none s) (htx : s.line.tx = .sending a) (hs : t.mc.station = s.mc.station)
    (halloc : t.alloc = s.alloc) (ho : t.outbox = s.outbox) (hrx : t.line.rx = s.line.rx)
        (hinbox : t.line.inbox = s.line.inbox)
    (hidle : t.line.tx.attempt? = none) : SlotsLaw (some a.slot) t := by
  obtain ⟨⟨hold, answers, ⟨rx, inbox⟩, flight, _, attempt⟩, owned, ⟨slot, _⟩⟩ := h
  rw [htx] at flight
  have dead : t.line.tx.liveSlot? = none := by simp [Transmitter.liveSlot?, hidle]
  refine ⟨⟨ho ▸ hold, ho ▸ answers, ⟨hrx ▸ rx, hinbox ▸ inbox⟩, ho ▸ flight.ended dead, .of_no_attempt hidle,
    by rw [ho, halloc]; exact attempt⟩, owned.same (by rw [halloc]) (by rw [ho]) (by rw [ho]), ⟨?_, fun _ => hidle⟩⟩
  unfold SlotLaw at slot ⊢
  rw [hs, ho]
  exact slot

theorem endAttempt_slotsLaw {a : Attempt} (h : SlotsLaw none s) (htx : s.line.tx = .sending a) :
    SlotsLaw (some a.slot) (endAttempt s) :=
  h.ended htx (by simp) (by simp) (by simp) (by simp) (by simp) (by simp [Transmitter.attempt?])

theorem stopAttempt_slotsLaw {a : Attempt} (h : SlotsLaw none s) (htx : s.line.tx = .sending a) :
    SlotsLaw (some a.slot) (stopAttempt s) := by
  refine h.ended htx (by simp) (by simp) (by simp) (by simp) (by simp) ?_
  rw [stopAttempt_tx, htx]
  rfl

/-- The report finds its slot emptied or refilled meanwhile. -/
theorem SlotsLaw.outlived {p : SlotId} (h : SlotsLaw (some p) s) (hidle : s.outbox.inFlight p = false) :
    SlotsLaw none s := by
  obtain ⟨⟨hold, answers, reservations, flight, sends, attempt⟩, owned, allowed⟩ := h
  exact ⟨⟨hold, answers, reservations, flight.outlived hidle, sends, attempt⟩, owned, allowed⟩

/-- The law but for the commit attempt in flight, which a report of the HOLD slot has still to reach. -/
structure Unsettled (s : State) : Prop where
  slots : Slots none s
  slot : ClaimSlotLaw s
  allowed : Allowed s

theorem SlotsLaw.unsettled (h : SlotsLaw none s) : Unsettled s := ⟨h.slots, h.owned.slot, h.allowed⟩

theorem Unsettled.settled (h : Unsettled s) (hc : ∀ c, s.alloc.claim = some c → c.inFlight = false) : SlotsLaw none s :=
  ⟨h.slots, ⟨h.slot, fun c hsome hin => by simp [hc c hsome] at hin⟩, h.allowed⟩

theorem emptyHold_unsettled (h : Slots q s) (hq : q = none ∨ q = some .hold) (hslot : ClaimSlotLaw s) (ha : Allowed s) :
    Unsettled (emptyHold s) := by
  refine ⟨h.emptyHold hq, ?_, ha.emptyHold⟩
  unfold ClaimSlotLaw at hslot ⊢
  simpa using hslot

/-! ## Reports of the HOLD slot -/

/-- The waiting-on-shed mark is nothing to the law of a slot, but that an EMPTY one has none. -/
theorem AnswerSlot.Law.lift {b : AnswerSlot} (h : b.Law) : ({ b with waitingShed := false } : AnswerSlot).Law := by
  obtain ⟨occupancy, key, content, attempts, inFlight, waitingShed, expired, deadline, rewritten⟩ := b
  cases occupancy
  case empty =>
    rw [(law_empty rfl).1 h]
    rfl
  case reserved => exact h
  case filled => exact h

theorem shedCheck_slotsLaw (a : HoldAttempt) (h : SlotsLaw none s) : SlotsLaw none (shedCheck a s) := by
  unfold shedCheck
  split
  · obtain ⟨⟨hold, answers, reservations, flight, sends, attempt⟩, owned, ⟨shold, sclaim, sanswers⟩, reset⟩ := h
    have lifted := answers.map (f := fun b => { b with waitingShed := false }) fun b hb => ⟨hb.lift, rfl, rfl⟩
    refine ⟨⟨hold, lifted, reservations, flight.congr fun r => ?_, sends, attempt⟩, owned.same rfl rfl rfl,
      ⟨shold, sclaim, fun b hb hn => ?_⟩, reset⟩
    · refine Outbox.inFlight_answers rfl rfl fun j _ => ?_
      show (slotAt (s.outbox.answers.map _) j).inFlight = _
      by_cases hj : j < s.outbox.answers.length
      · rw [slotAt_map _ _ hj]
      · simp [slotAt, hj]
    · obtain ⟨c, hc, rfl⟩ := List.mem_map.1 hb
      exact sanswers c hc hn
  · split
    · exact requestHold_slotsLaw h
    · exact h

theorem holdChecks_slotsLaw (a : HoldAttempt) (h : SlotsLaw none s) : SlotsLaw none (holdChecks a s) := by
  have shed := shedCheck_slotsLaw a h
  have owed : SlotsLaw none (owedCommit (shedCheck a s)) := by
    unfold owedCommit
    split
    · exact requestHold_slotsLaw shed
    · exact shed
  unfold holdChecks staleCheck
  split
  · exact requestHold_slotsLaw owed
  · exact owed

theorem commitIncrease_slotsLaw (c : ClaimRecord) (h : Slots none s) (ha : Allowed s) :
    SlotsLaw none (commitIncrease c s) := by
  refine decrease_slotsLaw (removeClaim_slotsLaw (q := none) ?_ (.inl rfl) ?_)
  · exact h.same
  · exact ha.same (by simp) (by simp) (by simp)

theorem commitJoin_slotsLaw (c : ClaimRecord) (h : Slots none s) (ha : Allowed s) : SlotsLaw none (commitJoin c s) := by
  have removed : SlotsLaw none (removeClaim (raise .claimCommitted none (some c.number) (some (valueOf s.alloc.share.floor))
      (setShare { s.alloc.share with held := s.alloc.share.floor, failures := 0 } s))) :=
    removeClaim_slotsLaw (q := none) h.same (.inl rfl) (ha.same (by simp) (by simp) (by simp))
  exact changeState_slotsLaw (by decide) removed.slots (fun _ => removed.owned) (by simp)

theorem holdFollows_slotsLaw (a : HoldAttempt) (h : Unsettled s)
    (hnone : s.mc.station ≠ .active → s.mc.station ≠ .joining → s.alloc.claim = none) :
    SlotsLaw none (holdFollows a s) := by
  unfold holdFollows
  split
  · exact changeState_slotsLaw (by decide) h.slots (by simp) (by simp)
  · rename_i c _ hc
    refine holdChecks_slotsLaw a ?_
    split
    · exact commitIncrease_slotsLaw c h.slots h.allowed
    · rename_i hflight
      exact h.settled fun d hd => by
        obtain rfl : c = d := Option.some.inj (hc.symm.trans hd)
        simpa using hflight
  · rename_i _ hc
    exact holdChecks_slotsLaw a (h.settled (by simp [hc]))
  · rename_i c _ hc
    split
    · exact holdChecks_slotsLaw a (commitJoin_slotsLaw c h.slots h.allowed)
    · rename_i hflight
      exact h.settled fun d hd => by
        obtain rfl : c = d := Option.some.inj (hc.symm.trans hd)
        simpa using hflight
  · rename_i hleaving hactSome hactNone hjoinSome
    refine h.settled fun c hc => ?_
    by_cases hact : s.mc.station = .active
    · exact absurd hc (hactSome c hact)
    by_cases hj : s.mc.station = .joining
    · exact absurd hc (hjoinSome c hj)
    rw [hnone hact hj] at hc
    simp at hc

theorem holdCompleted_slotsLaw (h : SlotsLaw (some .hold) s) (hin : s.outbox.hold.inFlight = true)
    (hnone : s.mc.station ≠ .active → s.mc.station ≠ .joining → s.alloc.claim = none) :
    SlotsLaw none (holdCompleted s) := by
  unfold holdCompleted
  split
  · rename_i a _
    have noted : SlotsLaw (some .hold) (noteHold a s) := h.same
    have done : Unsettled (holdDone a s) := emptyHold_unsettled noted.slots (.inr rfl) noted.owned.slot noted.allowed
    exact endUpdate_slotsLaw none (holdFollows_slotsLaw a done (by simpa using hnone))
  · rename_i hno
    have := h.slots.attempt hin
    simp [hno] at this

/-- The HOLD slot rewritten in place, FILLED as it is. -/
theorem Unsettled.putHold {f : HoldSlot} (h : Unsettled s) (hfilled : s.outbox.hold.occupancy = .filled)
    (hocc : f.occupancy = .filled) (hin : f.inFlight = s.outbox.hold.inFlight) :
    Unsettled (setOutbox { s.outbox with hold := f } s) := by
  obtain ⟨⟨hold, answers, reservations, flight, sends, attempt⟩, slot, ⟨shold, sclaim, sanswers⟩, reset⟩ := h
  refine ⟨⟨.inr hocc, answers, reservations, flight.congr fun r => ?_, sends, fun h => attempt (hin ▸ h)⟩, slot,
    ⟨fun _ => shold (by simp [hfilled]), sclaim, sanswers⟩, reset⟩
  cases r with
  | hold => exact hin
  | claim => rfl
  | answer j => rfl

theorem countHold_unsettled (collided : Bool) (h : SlotsLaw (some .hold) s) (hin : s.outbox.hold.inFlight = true)
    (hlive : s.line.tx.liveSlot? = none) :
    Unsettled (countHold collided s) ∧ (countHold collided s).outbox.hold.occupancy = .filled := by
  obtain ⟨⟨hold, answers, reservations, flight, sends, attempt⟩, ⟨slot, _⟩, ⟨shold, sclaim, sanswers⟩, reset⟩ := h
  have filled : s.outbox.hold.occupancy = .filled :=
    hold.resolve_left fun he => by simp [he, HoldSlot.empty] at hin
  refine ⟨⟨⟨.inr filled, answers, reservations, flight.reported hlive rfl fun r hr => ?_, sends,
      fun h => by simp [countHold] at h⟩,
    slot, ⟨shold, sclaim, sanswers⟩, reset⟩, filled⟩
  cases r with
  | hold => exact absurd rfl hr
  | claim => rfl
  | answer j => rfl

theorem restOrDrop_unsettled (h : Unsettled s) (hfilled : s.outbox.hold.occupancy = .filled) : Unsettled (restOrDrop s) := by
  have dropped : Unsettled (emptyHold s) := emptyHold_unsettled h.slots (.inl rfl) h.slot h.allowed
  unfold restOrDrop
  split
  · exact h.putHold hfilled hfilled rfl
  · exact (changeState_slotsLaw (by decide) dropped.slots (by simp) (by simp)).unsettled
  · exact dropped

theorem exhaustHold_unsettled (collided : Bool) (h : Unsettled s) (hfilled : s.outbox.hold.occupancy = .filled) :
    Unsettled (exhaustHold collided s) := by
  unfold exhaustHold
  split
  · unfold holdExhausted
    obtain ⟨slots, slot, allowed⟩ := h
    refine restOrDrop_unsettled ⟨slots.same, ?_, allowed.same (by simp) (by simp) (by simp)⟩ (by simpa using hfilled)
    unfold ClaimSlotLaw at slot ⊢
    simpa using slot
  · exact h

theorem settleFailedCommit_slotsLaw (c : ClaimRecord) (h : SlotsLaw none s) : SlotsLaw none (settleFailedCommit c s) := by
  unfold settleFailedCommit
  split
  · split
    · exact lapseClaim_slotsLaw h
    · exact abandonClaim_slotsLaw _ h
  · exact lapseClaim_slotsLaw h
  · exact abandonClaim_slotsLaw _ h
  · exact h

/-- Once the report has reached the claim, no commit attempt is in flight (R58). -/
theorem settleCommit_slotsLaw (h : Unsettled s) : SlotsLaw none (settleCommit s) := by
  unfold settleCommit
  split
  · rename_i hc
    exact h.settled (by simp [hc])
  · rename_i c hc
    split
    · refine settleFailedCommit_slotsLaw _ ⟨h.slots.same, ⟨?_, fun d hd hin => ?_⟩,
          h.allowed.same (by simp) (by simp) (by simp)⟩
      · have slot := (claimSlotLaw_some hc).1 h.slot
        exact (claimSlotLaw_some (setClaim_claim _ _)).2 (by simpa using slot)
      · obtain rfl := Option.some.inj hd
        simp at hin
    · rename_i hflight
      exact h.settled fun d hd => by
        obtain rfl : c = d := Option.some.inj (hc.symm.trans hd)
        simpa using hflight

theorem holdFailed_slotsLaw (collided : Bool) (h : SlotsLaw (some .hold) s) (hin : s.outbox.hold.inFlight = true)
    (hlive : s.line.tx.liveSlot? = none) : SlotsLaw none (holdFailed collided s) := by
  obtain ⟨counted, filled⟩ := countHold_unsettled collided h hin hlive
  exact endIfChanged_slotsLaw (settleCommit_slotsLaw (exhaustHold_unsettled collided counted filled))

/-! ## Reports of the CLAIM slot -/

theorem takeRoll_slotsLaw {c : ClaimRecord} (h : Slots none s) (ha : Allowed s) (hslot : s.outbox.claim = ClaimSlot.empty)
    (hc : s.alloc.claim = some c) : SlotsLaw none (takeRoll c s) := by
  unfold takeRoll
  split
  · exact failClaim_slotsLaw_of_some _ _ h ha hc
  · exact commitIfCovered_slotsLaw (setClaim_past_slotsLaw h ha hslot (by simp [ClaimRecord.await])
        (by simp [ClaimRecord.await]))

theorem claimCompleted_slotsLaw (h : SlotsLaw (some .claim) s) : SlotsLaw none (claimCompleted s) := by
  have slots := h.slots.emptyClaim (.inr rfl)
  have allowed := h.allowed.emptyClaim
  unfold claimCompleted
  split
  · rename_i hc
    exact ⟨slots, Owned.of_no_claim (by simpa using hc) (by simp), allowed⟩
  · rename_i c hc
    refine endUpdate_slotsLaw none (takeRoll_slotsLaw ?_ ?_ ?_ ?_)
    · exact slots.same
    · exact allowed.same (by simp) (by simp) (by simp)
    · simp
    · simpa using hc

theorem countClaim_slotsLaw (collided : Bool) (h : SlotsLaw (some .claim) s) (hin : s.outbox.claim.inFlight = true)
    (hlive : s.line.tx.liveSlot? = none) : SlotsLaw none (countClaim collided s) := by
  obtain ⟨⟨hold, answers, reservations, flight, sends, attempt⟩, ⟨slot, commit⟩, ⟨shold, sclaim, sanswers⟩, reset⟩ := h
  have busy : s.outbox.claim ≠ ClaimSlot.empty := fun he => by simp [he, ClaimSlot.empty] at hin
  refine ⟨⟨hold, answers, reservations, flight.reported hlive rfl fun r hr => ?_, sends, attempt⟩, ⟨?_, commit⟩,
    ⟨shold, sclaim, sanswers⟩, reset⟩
  · cases r with
    | hold => rfl
    | claim => exact absurd rfl hr
    | answer j => rfl
  · cases hc : s.alloc.claim with
    | none => exact absurd (claimSlot_of_none slot hc) busy
    | some c =>
      have sent := (claimSlotLaw_some hc).1 slot
      by_cases hphase : c.phase = .sending
      · rw [if_pos hphase] at sent
        exact (claimSlotLaw_some (s := countClaim collided s) hc).2 (by rw [if_pos hphase]; exact sent)
      · exact absurd (by simpa [hphase] using sent) busy

theorem claimFailed_slotsLaw (collided : Bool) (h : SlotsLaw (some .claim) s) (hin : s.outbox.claim.inFlight = true)
    (hlive : s.line.tx.liveSlot? = none) : SlotsLaw none (claimFailed collided s) := by
  have counted := countClaim_slotsLaw collided h hin hlive
  unfold claimFailed exhaustClaim
  generalize countClaim collided s = u at counted
  split
  · refine endUpdate_slotsLaw none ?_
    have slots (value : Option Half) : Slots none (raise .txGaveUp none u.outbox.claim.key value (emptyClaim u)) :=
      (counted.slots.emptyClaim (.inl rfl)).same
    have allowed (value : Option Half) : Allowed (raise .txGaveUp none u.outbox.claim.key value (emptyClaim u)) :=
      counted.allowed.emptyClaim.same (by simp) (by simp) (by simp)
    cases hc : u.alloc.claim with
    | none =>
      have same (v : State) (hv : v.alloc.claim = none) : failClaim .txFailed none v = v := by simp [failClaim, hv]
      rw [same _ (by simpa using hc)]
      exact ⟨slots _, Owned.of_no_claim (by simpa using hc) (by simp), allowed _⟩
    | some c => exact failClaim_slotsLaw_of_some (c := c) _ _ (slots _) (allowed _) (by simpa using hc)
  · exact counted

/-! ## Reports of an ANSWER slot -/

theorem dropAnswer_slotsLaw (k reason : Nat) (h : SlotsLaw none s) : SlotsLaw none (dropAnswer k reason s) := by
  have raised : SlotsLaw none (dropSlotEarmark k (raiseExpired reason (answerAt s k) s)) := h.same
  exact endIfChanged_slotsLaw (raised.emptyAnswer k (.inl rfl))

/-- One FILLED slot rewritten in place. -/
theorem modifyAnswer_slotsLaw {f : AnswerSlot → AnswerSlot} (h : SlotsLaw q s)
    (hf : (f (answerAt s k)).Law ∧ (f (answerAt s k)).occupancy = (answerAt s k).occupancy
      ∧ (f (answerAt s k)).key = (answerAt s k).key)
    (hflight : FlightLaw none { s.outbox with answers := s.outbox.answers.modify k f } s.line.tx) :
    SlotsLaw none (setOutbox { s.outbox with answers := s.outbox.answers.modify k f } s) := by
  obtain ⟨⟨hold, answers, reservations, _, sends, attempt⟩, owned, ⟨shold, sclaim, sanswers⟩, reset⟩ := h
  have same : ∀ j, (slotAt (s.outbox.answers.modify k f) j).occupancy = (slotAt s.outbox.answers j).occupancy := by
    intro j
    rw [slotAt_modify]
    split
    · rename_i hj
      rw [hj.1]
      exact hf.2.1
    · rfl
  refine ⟨⟨hold, answers.modify k hf, reservations, hflight, sends, attempt⟩, owned.same rfl rfl rfl,
    ⟨shold, sclaim, fun a ha hn => ?_⟩, reset⟩
  obtain ⟨j, hj, rfl⟩ := exists_slotAt_of_mem ha
  exact sanswers _ (slotAt_mem (by simpa using hj)) (same j ▸ hn)

theorem countAnswer_slotsLaw (charged : Bool) (h : SlotsLaw (some (.answer k)) s) (hk : k < 4)
    (hin : (answerAt s k).inFlight = true) (hlive : s.line.tx.liveSlot? = none) :
        SlotsLaw none (countAnswer k charged s) := by
  have law := h.slots.answers.at k
  have filled := AnswerSlot.Law.filled_of_inFlight law hin
  obtain ⟨key, content, deadline, _⟩ := (AnswerSlot.law_filled filled).1 law
  refine modifyAnswer_slotsLaw h ⟨?_, rfl, rfl⟩ (h.slots.flight.reported hlive ?_ fun r hr => ?_)
  · exact (AnswerSlot.law_filled (a := AnswerSlot.reported charged (slotAt s.outbox.answers k)) filled).2
      ⟨key, content, deadline, fun hr => by simp [AnswerSlot.reported] at hr⟩
  · show (slotAt (s.outbox.answers.modify k _) k).inFlight = false
    rw [slotAt_modify, if_pos ⟨rfl, h.slots.answers.length ▸ hk⟩]
    rfl
  · refine Outbox.inFlight_answers rfl rfl ?_
    rintro j rfl
    show (slotAt (s.outbox.answers.modify k _) j).inFlight = _
    rw [slotAt_modify, if_neg]
    exact fun hj => hr (congrArg SlotId.answer hj.1)

theorem exhaustAnswer_slotsLaw (k : Nat) (charged : Bool) (h : SlotsLaw none s) :
    SlotsLaw none (exhaustAnswer k charged s) := by
  unfold exhaustAnswer
  split
  · exact dropAnswer_slotsLaw k 1 h
  split
  · have gaveUp : SlotsLaw none (raiseGaveUp (answerAt s k) s) := h.same
    exact dropAnswer_slotsLaw k 2 gaveUp
  · exact h

theorem markExpired_slotsLaw (h : SlotsLaw none s) (hfilled : (answerAt s k).occupancy = .filled) :
    SlotsLaw none (markExpired k s) := by
  have law := (AnswerSlot.law_filled hfilled).1 (h.slots.answers.at k)
  refine modifyAnswer_slotsLaw h
    ⟨(AnswerSlot.law_filled (a := { answerAt s k with expired := true }) hfilled).2 law, rfl, rfl⟩
    (h.slots.flight.congr fun r => Outbox.inFlight_answers rfl rfl fun j _ => ?_)
  show (slotAt (s.outbox.answers.modify k _) j).inFlight = _
  rw [slotAt_modify]
  split <;> rfl

/-! ## Reports -/

theorem slotCompleted_slotsLaw {a : Attempt} (h : SlotsLaw (some a.slot) s)
    (hnone : s.mc.station ≠ .active → s.mc.station ≠ .joining → s.alloc.claim = none) :
    SlotsLaw none (slotCompleted a s) := by
  unfold slotCompleted
  split
  · rename_i hslot
    rw [hslot] at h
    split
    · rename_i hin
      exact holdCompleted_slotsLaw h hin hnone
    · rename_i hin
      have idle := h.outlived (Bool.eq_false_of_not_eq_true hin)
      unfold holdOutlived
      split
      · exact endUpdate_slotsLaw none idle.same
      · exact idle
  · rename_i hslot
    rw [hslot] at h
    split
    · exact claimCompleted_slotsLaw h
    · rename_i hin
      have idle := h.outlived (Bool.eq_false_of_not_eq_true hin)
      unfold claimOutlived
      split
      · exact endIfChanged_slotsLaw idle.same
      · exact idle
  · rename_i k hslot
    rw [hslot] at h
    split
    · exact h.emptyAnswer k (.inr rfl)
    · rename_i hin
      exact h.outlived (Bool.eq_false_of_not_eq_true hin)

theorem slotFailed_slotsLaw {p : SlotId} (collided : Bool) (h : SlotsLaw (some p) s) (hp : p.inRange = true)
    (hlive : s.line.tx.liveSlot? = none) : SlotsLaw none (slotFailed collided p s) := by
  unfold slotFailed
  split
  · split
    · rename_i hin
      exact holdFailed_slotsLaw collided h hin hlive
    · rename_i hin
      exact h.outlived (Bool.eq_false_of_not_eq_true hin)
  · split
    · rename_i hin
      exact claimFailed_slotsLaw collided h hin hlive
    · rename_i hin
      exact h.outlived (Bool.eq_false_of_not_eq_true hin)
  · split
    · rename_i k hin
      have hk : k < 4 := by simpa [SlotId.inRange] using hp
      exact exhaustAnswer_slotsLaw _ _ (countAnswer_slotsLaw _ h hk hin hlive)
    · rename_i hin
      exact h.outlived (Bool.eq_false_of_not_eq_true hin)

end Sys2Proof.Machine
end

section
/-! PROOFS. The slots through the receiver, the answers decided, time, and every command (O57). -/

namespace Sys2Proof.Machine

variable {s t : State} {k x : Nat} {n : Byte} {o : Prop}

/-! ## Answers withdrawn -/

theorem withdrawAssent_slotsLaw (x : Nat) (n : Byte) (h : SlotsLaw none s) : SlotsLaw none (withdrawAssent x n s) := by
  unfold withdrawAssent
  split
  · split
    · exact h.emptyAnswer _ (.inl rfl)
    · exact h
  · exact h

theorem withdrawFor_slotsLaw (x : Nat) (m : Option Earmark) (h : SlotsLaw none s) : SlotsLaw none (withdrawFor x m s) := by
  unfold withdrawFor
  split
  · exact withdrawAssent_slotsLaw _ _ h
  · exact h

theorem dropEarmark_slotsLaw (x : Nat) (h : SlotsLaw none s) : SlotsLaw none (dropEarmark x s) := by
  unfold dropEarmark
  split
  · split
    · have removed : SlotsLaw none (removeEarmark x s) := h.same
      exact withdrawAssent_slotsLaw _ _ removed
    · exact h
  · exact h

theorem dropEarmarkOf_slotsLaw (x : Nat) (n : Byte) (h : SlotsLaw none s) : SlotsLaw none (dropEarmarkOf x n s) := by
  unfold dropEarmarkOf
  split
  · exact dropEarmark_slotsLaw x h
  · exact h

theorem withdrawAnswer_slotsLaw (x : Nat) (n : Byte) (h : SlotsLaw none s) : SlotsLaw none (withdrawAnswer x n s) := by
  unfold withdrawAnswer
  split
  · exact h.emptyAnswer _ (.inl rfl)
  · exact h

/-! ## Answers decided -/

/-- Slot `k` may take an answer for the claim `n` of station `x`: no other slot holds that key (R120). -/
structure Free (k x : Nat) (n : Byte) (s : State) : Prop where
  index : k < 4
  keys : ∀ j, j ≠ k → (slotAt s.outbox.answers j).key ≠ some (x, n)

theorem Free.same (h : Free k x n s) (ho : t.outbox.answers = s.outbox.answers := by simp) : Free k x n t :=
  ⟨h.index, ho ▸ h.keys⟩

theorem Free.emptyAnswer (h : Free k x n s) (i : Nat) : Free k x n (emptyAnswer i s) := by
  refine ⟨h.index, fun j hj => ?_⟩
  rw [(emptyAnswer_answers i s).1, slotAt_set]
  split
  · simp [AnswerSlot.empty]
  · exact h.keys j hj

theorem Free.withdrawAssent (h : Free k x n s) (y : Nat) (m : Byte) : Free k x n (withdrawAssent y m s) := by
  unfold Machine.withdrawAssent
  split
  · split
    · exact h.emptyAnswer _
    · exact h
  · exact h

theorem Free.dropEarmarkOf (h : Free k x n s) (y : Nat) (m : Byte) : Free k x n (dropEarmarkOf y m s) := by
  unfold Machine.dropEarmarkOf dropEarmark
  split
  · split
    · split
      · have removed : Free k x n (removeEarmark y s) := h.same
        exact removed.withdrawAssent _ _
      · exact h
    · exact h
  · exact h

theorem Free.withdrawEarlier (h : Free k x n s) (y : Nat) (m : Byte) : Free k x n (withdrawEarlier y m s) := by
  unfold Machine.withdrawEarlier
  split
  · split
    · exact h
    · exact h.withdrawAssent _ _
  · exact h

theorem withdrawEarlier_slotsLaw (x : Nat) (n : Byte) (h : SlotsLaw none s) : SlotsLaw none (withdrawEarlier x n s) := by
  unfold withdrawEarlier
  split
  · split
    · exact h
    · exact withdrawAssent_slotsLaw _ _ h
  · exact h

/-- An answer written in ACTIVE into a free slot; an attempt in flight stays in progress (R68, R119). -/
theorem writeAnswer_slotsLaw (a : Answer) (shed : Bool) (h : SlotsLaw none s) (hs : s.mc.station = .active)
    (hfree : Free k x n s) : SlotsLaw none (writeAnswer k x n a shed s) := by
  obtain ⟨⟨hold, answers, reservations, flight, sends, attempt⟩, owned, ⟨shold, sclaim, _⟩, reset⟩ := h
  have written := answers.set (list' := s.outbox.answerList.filter (· != k) ++ [k]) (a :=
      { answerAt s k with
        occupancy := .filled, key := some (x, n), content := some a, attempts := 0, waitingShed := shed
        expired := false, deadline := some Config.responseWindow, rewritten := (answerAt s k).inFlight })
    hfree.index ⟨rfl, rfl, rfl, id⟩ ?_ (fun j => ?_) fun _ j _ hj => hfree.keys j hj
  · refine ⟨⟨hold, written, reservations, flight.congr fun r => Outbox.inFlight_answers rfl rfl fun j _ => ?_, sends,
        attempt⟩,
      owned.same rfl rfl rfl, ⟨shold, sclaim, fun _ _ _ => hs⟩, reset⟩
    show (slotAt (s.outbox.answers.set k _) j).inFlight = _
    rw [slotAt_set]
    split
    · rename_i hj
      rw [hj.1]
      rfl
    · rfl
  · refine List.nodup_append.2 ⟨answers.nodup.filter _, List.nodup_singleton k, fun i hi j hj => ?_⟩
    have hik := (List.mem_filter.1 hi).2
    obtain rfl := List.mem_singleton.1 hj
    simpa using hik
  · by_cases hj : j = k <;> simp [hj]

theorem objectTo_slotsLaw (reason : ObjectReason) (h : SlotsLaw none s) (hs : s.mc.station = .active)
    (hfree : Free k x n s) :
    SlotsLaw none (objectTo k x n reason s) :=
  writeAnswer_slotsLaw _ _ (dropEarmarkOf_slotsLaw x n h) (by simpa using hs) (hfree.dropEarmarkOf x n)

theorem assentTo_slotsLaw (amount : Nat) (h : SlotsLaw none s) (hs : s.mc.station = .active) (hfree : Free k x n s) :
    SlotsLaw none (assentTo k x n amount s) := by
  have withdrawn := withdrawEarlier_slotsLaw x n h
  have free := hfree.withdrawEarlier x n
  exact writeAnswer_slotsLaw (s := modEntry x (Entry.setAside n amount) (withdrawEarlier x n s)) _ _ withdrawn.same
    (by simpa using hs) free.same

theorem answerClaim_slotsLaw (amount priority : Nat) (h : SlotsLaw none s) (hs : s.mc.station = .active)
    (hfree : Free k x n s) :
    SlotsLaw none (answerClaim k x n amount priority s) := by
  have object := fun reason => objectTo_slotsLaw reason h hs hfree
  have yielded := abandonClaim_slotsLaw .yielded h
  have active : (abandonClaim .yielded s).mc.station = .active := by simpa using hs
  have free : Free k x n (abandonClaim .yielded s) := hfree.same
  unfold answerClaim
  split
  · exact object _
  split
  · exact object _
  split
  · exact object _
  split
  · exact object _
  split
  · exact assentTo_slotsLaw amount h hs hfree
  split
  · unfold answerByRoom
    split
    · exact assentTo_slotsLaw amount yielded active free
    · exact objectTo_slotsLaw _ yielded active free
  · exact object _

theorem shed_slotsLaw (j : Nat) (n : Byte) (floor : Nat) (h : SlotsLaw none s) : SlotsLaw none (shed j n floor s) := by
  unfold shed
  split
  · unfold squeeze
    refine requestHold_slotsLaw ?_
    obtain ⟨⟨hold, answers, reservations, flight, sends, attempt⟩, owned, allowed⟩ := h
    refine ⟨⟨by simpa [beforeCut] using hold, by simpa [beforeCut] using answers, by simpa [beforeCut] using reservations,
      by simpa [beforeCut] using flight, by simpa [beforeCut] using sends, by simpa [beforeCut] using attempt⟩,
      owned.same ?_ ?_ ?_, allowed.same ?_ ?_ ?_⟩ <;> simp [beforeCut]
  · exact h

theorem answerAnnounce_slotsLaw (floor priority cls lease : Nat) (h : SlotsLaw none s) (hs : s.mc.station = .active)
    (hfree : Free k x n s) : SlotsLaw none (answerAnnounce k x n floor priority cls lease s) := by
  have object := fun reason => objectTo_slotsLaw reason h hs hfree
  unfold answerAnnounce
  split
  · exact object _
  split
  · exact object _
  split
  · exact object _
  split
  · exact object _
  split
  · exact object _
  · have cut := shed_slotsLaw x n floor h
    exact writeAnswer_slotsLaw (s := modEntry x (pendingEntry n floor priority) (shed x n floor s)) _ _ cut.same
      (by simpa using hs) hfree.same

theorem slotFor_eq_some (h : slotFor s x n = some k) :
    k < s.outbox.answers.length ∧ (slotAt s.outbox.answers k).key = some (x, n) := by
  obtain ⟨hk, hkey, _⟩ := List.findIdx?_eq_some_iff_getElem.1 h
  exact ⟨hk, by simpa [slotAt, hk] using hkey⟩

theorem slotFor_eq_none (h : slotFor s x n = none) : ∀ a ∈ s.outbox.answers, a.key ≠ some (x, n) := by
  intro a ha
  simpa using List.findIdx?_eq_none_iff.1 h a ha

/-- The slot that takes the decision is free for it (R68, R120). -/
theorem decisionSlot_free {r : Option Nat} (h : Slots none s) (hr : ∀ k, r = some k → k < 4)
    (hslot : decisionSlot s x n r = some k) : Free k x n s := by
  have absent : ∀ j, 4 ≤ j → (slotAt s.outbox.answers j).key ≠ some (x, n) := fun j hj => by
    rw [slotAt, List.getElem?_eq_none (by rw [h.answers.length]; exact hj)]
    simp [AnswerSlot.empty]
  unfold decisionSlot at hslot
  split at hslot
  · simp at hslot
  · rename_i i hfor
    obtain rfl := Option.some.inj hslot
    obtain ⟨hk, hkey⟩ := slotFor_eq_some hfor
    rw [h.answers.length] at hk
    refine ⟨hk, fun j hj heq => ?_⟩
    by_cases hj4 : j < 4
    · exact h.answers.keys i hk j hj4 (Ne.symm hj) (by simp [hkey]) (hkey.trans heq.symm)
    · exact absent j (Nat.le_of_not_lt hj4) heq
  · rename_i i hfor
    split at hslot
    · obtain rfl := Option.some.inj hslot
      refine ⟨hr i rfl, fun j _ => ?_⟩
      by_cases hj4 : j < 4
      · exact slotFor_eq_none hfor _ (slotAt_mem (h.answers.length ▸ hj4))
      · exact absent j (Nat.le_of_not_lt hj4)
    · simp at hslot

theorem decideAnswer_slotsLaw {slot : Option Nat} {answer : Nat → State → State} (h : SlotsLaw none s)
    (hfree : ∀ k, slot = some k → Free k x n s)
    (hanswer : ∀ k s, SlotsLaw none s → s.mc.station = .active → Free k x n s → SlotsLaw none (answer k s)) :
    SlotsLaw none (decideAnswer slot answer s) := by
  unfold decideAnswer
  split
  · rename_i k
    split
    · rename_i hs
      have checked : SlotsLaw none (checkAllParity s) := h.same
      exact hanswer k _ checked (by simpa using hs) (hfree k rfl).same
    · exact h
  · exact h

end Sys2Proof.Machine
end

section
/-! PROOFS. The slots through the bit timing, the receiver and the frames taken (O57). -/

namespace Sys2Proof.Machine

variable {s t : State} {k x : Nat} {n : Byte} {o : Outbox} {tx : Transmitter} {b : BitClock} {l : LineInterface}

/-! ## The bit timing -/

/-- Only the line has moved, and no attempt has begun in RESET. -/
theorem SlotsLaw.moved (h : SlotsLaw none s) (hs : t.mc.station = s.mc.station) (ha : t.alloc = s.alloc)
    (ho : t.outbox = s.outbox)
    (hrx : Reservations t.line) (hf : FlightLaw none s.outbox t.line.tx) (hsend : SendLaw t.line.tx t.line.bits)
    (hidle : s.line.tx.attempt? = none → t.line.tx.attempt? = none) : SlotsLaw none t := by
  obtain ⟨⟨hold, answers, _, _, _, attempt⟩, owned, ⟨slot, reset⟩⟩ := h
  refine ⟨⟨ho ▸ hold, ho ▸ answers, hrx, ho ▸ hf, hsend, by rw [ho, ha]; exact attempt⟩,
    owned.same (by rw [ha]) (by rw [ho]) (by rw [ho]), ⟨?_, fun hr => hidle (reset (hs ▸ hr))⟩⟩
  unfold SlotLaw at slot ⊢
  rw [hs, ho]
  exact slot

/-- What the line keeps for the slots. -/
structure LineLaw (o : Outbox) (l : LineInterface) : Prop where
  reservations : Reservations l
  flight : FlightLaw none o l.tx
  sends : SendLaw l.tx l.bits

theorem Slots.lineLaw (h : Slots none s) : LineLaw s.outbox s.line := ⟨h.reservations, h.flight, h.sends⟩

theorem SlotsLaw.reline (h : SlotsLaw none s) (hl : LineLaw s.outbox t.line)
    (hidle : s.line.tx.attempt? = none → t.line.tx.attempt? = none) (hs : t.mc.station = s.mc.station := by simp)
    (ha : t.alloc = s.alloc := by simp) (ho : t.outbox = s.outbox := by simp) : SlotsLaw none t :=
  h.moved hs ha ho hl.reservations hl.flight hl.sends hidle

theorem LineLaw.nextBit (h : LineLaw o l) : LineLaw o l.nextBit :=
  have moved := advance_slots h.flight h.sends
  ⟨h.reservations, moved.1, moved.2⟩

theorem advance_idle (h : tx.attempt? = none) : tx.advance.attempt? = none := by
  cases tx with
  | none => rfl
  | marking a start => rfl
  | sending a =>
    have hs : a.stopped = true := by simpa [attempt?_sending] using h
    simp [Transmitter.advance, hs, Transmitter.attempt?]

theorem nextBit_idle (h : l.tx.attempt? = none) : l.nextBit.tx.attempt? = none := advance_idle h

theorem LineLaw.untaken (h : LineLaw o l) : LineLaw o l.untaken := by
  unfold LineInterface.untaken
  split
  · exact h.nextBit
  · exact h

theorem untaken_idle (h : l.tx.attempt? = none) : l.untaken.tx.attempt? = none := by
  unfold LineInterface.untaken
  split
  · exact nextBit_idle h
  · exact h

theorem start_taken (b : BitClock) : b.start.taken = false := by
  unfold BitClock.start
  split <;> rfl

theorem untaken_bits (l : LineInterface) : l.untaken.bits.taken = false := by
  unfold LineInterface.untaken
  split
  · exact start_taken _
  · rename_i h
    simpa using h

theorem SendLaw.clock {c : BitClock} (h : SendLaw tx b) (hb : b.taken = false) : SendLaw tx c :=
  ⟨h.range, fun a ha => (h.bits a ha).wait (by simpa [hb] using (h.bits a ha).2.2)⟩

theorem LineLaw.edge (h : LineLaw o l) : LineLaw o l.edge := by
  unfold LineInterface.edge
  split
  · exact h.nextBit
  · rename_i hhalf
    have untaken : l.bits.taken = false := by
      cases ht : l.bits.taken with
      | false => rfl
      | true => simp [BitClock.half, ht] at hhalf
    exact ⟨h.reservations, h.flight, h.sends.clock untaken⟩

theorem edge_idle (h : l.tx.attempt? = none) : l.edge.tx.attempt? = none := by
  unfold LineInterface.edge
  split
  · exact nextBit_idle h
  · exact h

theorem LineLaw.period (h : LineLaw o l) : LineLaw o l.period := by
  unfold LineInterface.period
  split
  · exact h.nextBit
  · exact ⟨h.reservations, h.flight, ⟨h.sends.range, h.sends.bits⟩⟩

theorem period_idle (h : l.tx.attempt? = none) : l.period.tx.attempt? = none := by
  unfold LineInterface.period
  split
  · exact nextBit_idle h
  · exact h

/-- In RESET the transmitter goes idle; it sends no attempt there. -/
theorem LineLaw.release (h : LineLaw o l) (hidle : l.tx.attempt? = none) :
    LineLaw o l.release ∧ l.release.tx.attempt? = none := by
  unfold LineInterface.release
  split
  · have slot : l.tx.slot? = Transmitter.none.slot? := by
      rw [Transmitter.slot?, hidle]
      rfl
    exact ⟨⟨h.reservations, h.flight.moved slot fun p hp => by simp [Transmitter.liveSlot?, Transmitter.attempt?] at hp,
      .of_no_attempt rfl⟩, rfl⟩
  · exact ⟨h, hidle⟩

theorem Attempt.Law.taken {a : Attempt} (h : a.Law b) (hb : b.taken = false) (hlive : a.live = true) :
    ({ a with taken := a.taken + 1 } : Attempt).Law b.take ∧ ({ a with mismatch := true } : Attempt).Law b.take := by
  obtain ⟨total, sent, read⟩ := h
  simp only [Attempt.live, Bool.and_eq_true, Bool.not_eq_true', decide_eq_true_eq] at hlive
  obtain ⟨⟨hmatch, hleft⟩, _⟩ := hlive
  simp only [Attempt.read, hmatch, hb, Bool.toNat_false, Nat.add_zero] at sent read
  refine ⟨⟨?_, ?_, ?_⟩, ⟨?_, ?_, ?_⟩⟩ <;> simp only [Attempt.read, Attempt.total, hmatch, BitClock.take,
      Bool.toNat_false, Bool.toNat_true] at * <;> omega

theorem compare_slots (recessive : Bool) (hf : FlightLaw none o tx) (hsend : SendLaw tx b) (hb : b.taken = false) :
    FlightLaw none o (tx.compare recessive) ∧ SendLaw (tx.compare recessive) b.take := by
  cases tx with
  | none => exact ⟨hf, .of_no_attempt rfl⟩
  | marking a start => exact ⟨hf, .of_no_attempt rfl⟩
  | sending a =>
    unfold Transmitter.compare
    dsimp only
    split
    · rename_i hlive
      have running : a.stopped = false := by
        simp only [Attempt.live, Bool.and_eq_true, Bool.not_eq_true'] at hlive
        exact hlive.2
      have law := (hsend.bits a (by simp [attempt?_sending, running])).taken hb hlive
      have range := hsend.range a.slot (slot?_eq_some.2 ⟨a, rfl, running, rfl⟩)
      have read : ∀ c : Attempt, c.slot = a.slot → c.stopped = a.stopped → c.Law b.take →
          FlightLaw none o (.sending c) ∧ SendLaw (.sending c) b.take := by
        intro c hslot hstop hlaw
        refine ⟨hf.moved ?_ fun p hp => ?_, ⟨fun p hp => ?_, fun d hd => ?_⟩⟩
        · simp [Transmitter.slot?, attempt?_sending, hslot, hstop, running]
        · obtain ⟨d, hd, _, rfl⟩ := liveSlot?_eq_some.1 hp
          rw [← Transmitter.sending.inj hd, hslot]
          exact liveSlot?_eq_some.2 ⟨a, rfl, hlive, rfl⟩
        · obtain ⟨d, hd, _, rfl⟩ := slot?_eq_some.1 hp
          rw [← Transmitter.sending.inj hd, hslot]
          exact range
        · obtain rfl : c = d := by simpa [attempt?_sending, hstop, running] using hd
          exact hlaw
      split
      · exact read _ rfl rfl law.1
      · exact read _ rfl rfl law.2
    · exact ⟨hf, hsend.clock hb⟩

theorem compare_idle (recessive : Bool) (h : tx.attempt? = none) : (tx.compare recessive).attempt? = none := by
  cases tx with
  | none => rfl
  | marking a start => rfl
  | sending a =>
    have hs : a.stopped = true := by simpa [attempt?_sending] using h
    have dead : a.live = false := by simp [Attempt.live, hs]
    simp [Transmitter.compare, dead, h]

/-- A bit taken adds no reservation. -/
theorem takeBit_reservation (recessive : Bool) (r : Receiver) (tx tx' : Transmitter) :
    ((r.afterSync tx).takeBit recessive tx').reservation = none
      ∨ ((r.afterSync tx).takeBit recessive tx').reservation = r.reservation := by
  have bit : ∀ r : Receiver, (r.takeBit recessive tx').reservation = r.reservation := by
    intro r
    unfold Receiver.takeBit
    split <;> rfl
  rw [bit]
  unfold Receiver.afterSync
  split
  · exact .inl rfl
  · exact .inr rfl

theorem Reservations.rx (h : Reservations l) {l' : LineInterface} (hinbox : l'.inbox = l.inbox)
    (hrx : l'.rx.reservation = none ∨ l'.rx.reservation = l.rx.reservation) : Reservations l' := by
  refine ⟨fun k hk => ?_, hinbox ▸ h.2⟩
  rcases hrx with hrx | hrx
  · simp [hrx] at hk
  · exact h.1 k (hrx ▸ hk)

theorem LineLaw.takeBit (recessive : Bool) (h : LineLaw o l) (hb : l.bits.taken = false) : LineLaw o (l.takeBit recessive) :=
  have compared := compare_slots recessive h.flight h.sends hb
  ⟨h.reservations.rx rfl (takeBit_reservation _ _ _ _), compared.1, compared.2⟩

/-! ## The receiver -/

theorem LineLaw.rx (h : LineLaw o l) {l' : LineInterface} (htx : l'.tx = l.tx) (hb : l'.bits = l.bits)
    (hinbox : l'.inbox = l.inbox)
    (hrx : l'.rx.reservation = none ∨ l'.rx.reservation = l.rx.reservation) : LineLaw o l' :=
  ⟨h.reservations.rx hinbox hrx, htx ▸ h.flight, by rw [htx, hb]; exact h.sends⟩

theorem noteReservation_slotsLaw (h : SlotsLaw none s) (hk : k < 4) : SlotsLaw none (noteReservation k s) := by
  refine h.reline ⟨⟨fun i hi => ?_, h.slots.reservations.2⟩, h.slots.flight, h.slots.sends⟩ id
  exact Option.some.inj hi ▸ hk

/-- In ACTIVE a header reserves the slot of its key, or an EMPTY one for it (R67). -/
theorem reserveAnswer_slotsLaw (kind x : Nat) (n : Byte) (h : SlotsLaw none s) (hs : s.mc.station = .active) :
    SlotsLaw none (reserveAnswer kind x n s) := by
  unfold reserveAnswer
  split
  · rename_i k hfor
    exact noteReservation_slotsLaw h (h.slots.answers.length ▸ (slotFor_eq_some hfor).1)
  · rename_i hfor
    split
    · rename_i k hfind
      obtain ⟨hk, hempty, _⟩ := List.findIdx?_eq_some_iff_getElem.1 hfind
      rw [h.slots.answers.length] at hk
      refine noteReservation_slotsLaw ?_ hk
      obtain ⟨⟨hold, answers, reservations, flight, sends, attempt⟩, owned, ⟨shold, sclaim, _⟩, reset⟩ := h
      have empty : (slotAt s.outbox.answers k).occupancy = .empty := by
        simpa [slotAt, answers.length ▸ hk] using hempty
      have blank := (AnswerSlot.law_empty empty).1 (answers.at k)
      have reserved := answers.set (a := AnswerSlot.reservedFor x n) hk ⟨rfl, rfl, rfl, rfl⟩ answers.nodup (fun j => ?_)
        fun _ j hj _ => slotFor_eq_none hfor _ (slotAt_mem (answers.length ▸ hj))
      · refine ⟨⟨hold, reserved, reservations, flight.congr fun r => Outbox.inFlight_answers rfl rfl fun j _ => ?_,
            sends, attempt⟩,
          owned.same rfl rfl rfl, ⟨shold, sclaim, fun _ _ _ => hs⟩, reset⟩
        show (slotAt (s.outbox.answers.set k _) j).inFlight = _
        rw [slotAt_set]
        split
        · rename_i hj
          rw [hj.1, blank]
          rfl
        · rfl
      · split
        · rename_i hj
          simp [hj, answers.listed k hk, empty, AnswerSlot.reservedFor]
        · rfl
    · exact h.same

theorem frameHeader_slotsLaw (h : SlotsLaw none s) : SlotsLaw none (frameHeader s) := by
  have skipped : SlotsLaw none (enterSkip s) := h.reline (h.slots.lineLaw.rx rfl rfl rfl (.inl rfl)) id
  have body : SlotsLaw none (enterBody s) := h.reline (h.slots.lineLaw.rx rfl rfl rfl (.inr rfl)) id
  unfold frameHeader raiseFrameBad
  split
  · split
    · exact h
    · split
      · exact skipped
      · exact skipped.same
    · split
      · rename_i hs
        exact reserveAnswer_slotsLaw _ _ _ body hs.1
      · exact body
  · exact h

theorem deliver_slotsLaw (f : Frame) {r : Option Nat} (h : SlotsLaw none s) (hr : ∀ k, r = some k → k < 4) :
    SlotsLaw none (deliver f r s) := by
  refine h.reline ⟨⟨h.slots.reservations.1, fun d hd => ?_⟩, h.slots.flight, h.slots.sends⟩ id
  rcases List.mem_append.1 hd with hd | hd
  · exact h.slots.reservations.2 d hd
  · obtain rfl := List.mem_singleton.1 hd
    exact hr

theorem toFault_slotsLaw (h : SlotsLaw none s) : SlotsLaw none (toFault s) := by
  unfold toFault
  split
  · exact h
  · exact changeState_slotsLaw (by decide) h.slots (by simp) (by simp)

theorem frameVerdict_slotsLaw (h : SlotsLaw none s) : SlotsLaw none (frameVerdict s) := by
  have reserved : ∀ k, s.line.rx.reservation = some k → k < 4 := h.slots.reservations.1
  have hunting : SlotsLaw none (toHunt s) := h.reline (h.slots.lineLaw.rx rfl rfl rfl (.inl rfl)) id
  unfold frameVerdict judgeFrame
  split
  · split
    · have released : SlotsLaw none (releaseReservation s.line.rx.reservation (toHunt s)) := by
        unfold releaseReservation
        split
        · split
          · exact hunting.emptyAnswer _ (.inl rfl)
          · exact hunting
        · exact hunting
      unfold raiseFrameBad
      split
      · exact released
      · exact released.same
    · unfold goodFrame takeDuplicate
      split
      · exact hunting
      split
      · split
        · exact deliver_slotsLaw _ hunting.same reserved
        split
        · exact hunting
        · exact toFault_slotsLaw hunting.same
      · exact deliver_slotsLaw _ hunting reserved
  · exact h

/-! ## Frames taken -/

theorem popInbox_slotsLaw (h : SlotsLaw none s) : SlotsLaw none (popInbox s) :=
  h.reline ⟨⟨h.slots.reservations.1, fun d hd => h.slots.reservations.2 d (List.mem_of_mem_tail hd)⟩, h.slots.flight,
    h.slots.sends⟩ id

theorem endBackoffIf_slotsLaw (fell : Bool) (h : SlotsLaw none s) : SlotsLaw none (endBackoffIf fell s) := by
  unfold endBackoffIf
  split
  · exact h.same
  · exact h

theorem takeHold_slotsLaw (x : Nat) (f : HoldFields) (h : SlotsLaw none s) : SlotsLaw none (takeHold x f s) := by
  have checked : SlotsLaw none (checkParity x s) := h.same
  unfold takeHold holdChecked
  split
  · exact endUpdate_slotsLaw _ (withdrawFor_slotsLaw _ _ checked.same)
  · exact endUpdate_slotsLaw _ (endBackoffIf_slotsLaw _ (withdrawFor_slotsLaw _ _ checked.same))

theorem takeFarewell_slotsLaw (x : Nat) (h : SlotsLaw none s) : SlotsLaw none (takeFarewell x s) := by
  have checked : SlotsLaw none (checkParity x s) := h.same
  unfold takeFarewell farewellChecked
  split
  · exact endUpdate_slotsLaw _ checked
  · exact endUpdate_slotsLaw _ (endBackoffIf_slotsLaw _ (withdrawFor_slotsLaw _ _ (strikeOff_slotsLaw x checked.same)))

theorem takeAnnounce_slotsLaw (j : Nat) (n : Byte) (cls lease : Nat) (h : SlotsLaw none s) :
    SlotsLaw none (takeAnnounce j n cls lease s) := by
  have checked : SlotsLaw none (checkParity j s) := h.same
  unfold takeAnnounce rejoin
  split
  · exact strikeOff_slotsLaw j (withdrawFor_slotsLaw _ _ checked.same)
  · exact checked

theorem Free.takeAnnounce {k : Nat} (j : Nat) (m : Byte) (cls lease : Nat) (h : Free k x n s) :
    Free k x n (takeAnnounce j m cls lease s) := by
  have withdrawn : ∀ (e : Option Earmark) (s : State), Free k x n s → Free k x n (withdrawFor j e s) := by
    intro e s hs
    unfold withdrawFor
    split
    · exact hs.withdrawAssent _ _
    · exact hs
  unfold Machine.takeAnnounce rejoin
  generalize entryAt (checkParity j s) j = e
  split
  · have returned : Free k x n (modEntry j (Entry.returnAbsent false)
        (raise .peerRejoined (some j) (some m) (some (valueOf e.stored.held)) (checkParity j s))) := h.same
    have gone := withdrawn e.stored.earmark _ returned
    exact gone.same
  · exact h.same

theorem takeAssent_slotsLaw (x target : Nat) (n : Byte) (h : SlotsLaw none s) : SlotsLaw none (takeAssent x target n s) := by
  unfold takeAssent
  split
  · rename_i c hc
    split
    · exact commitIfCovered_slotsLaw (setClaim_slotsLaw h hc Iff.rfl rfl rfl id)
    · exact h
  · exact h

theorem takeObject_slotsLaw (x target : Nat) (n : Byte) (r : ObjectReason) (h : SlotsLaw none s) :
    SlotsLaw none (takeObject x target n r s) := by
  have withdrawn := withdrawAnswer_slotsLaw target n (dropEarmarkOf_slotsLaw target n h)
  unfold takeObject failNamed
  refine endUpdate_slotsLaw none ?_
  split
  · exact failClaim_slotsLaw _ _ withdrawn
  · exact withdrawn

theorem announceReceived_slotsLaw (h : SlotsLaw none s) : SlotsLaw none (announceReceived s) := by
  unfold announceReceived
  split
  · rename_i j n f p cls lease r rest hinbox
    have reserved : ∀ k, r = some k → k < 4 := fun k hk =>
      h.slots.reservations.2 _ (by rw [hinbox]; exact List.mem_cons_self) k hk
    refine endUpdate_slotsLaw none (decideAnswer_slotsLaw (takeAnnounce_slotsLaw _ _ _ _ (popInbox_slotsLaw h))
        (fun k hk => ?_)
      fun k s hs active free => answerAnnounce_slotsLaw f p cls lease hs active free)
    exact ((decisionSlot_free h.slots reserved hk).same (t := popInbox s)).takeAnnounce _ _ _ _
  · exact h

theorem claimReceived_slotsLaw (h : SlotsLaw none s) : SlotsLaw none (claimReceived s) := by
  unfold claimReceived
  split
  · rename_i x n a p r rest hinbox
    have reserved : ∀ k, r = some k → k < 4 := fun k hk =>
      h.slots.reservations.2 _ (by rw [hinbox]; exact List.mem_cons_self) k hk
    refine endUpdate_slotsLaw none (decideAnswer_slotsLaw (popInbox_slotsLaw h).same (fun k hk => ?_)
      fun k s hs active free => answerClaim_slotsLaw a p hs active free)
    exact (decisionSlot_free h.slots reserved hk).same
  · exact h

end Sys2Proof.Machine
end

section
/-! PROOFS. The slots through time, the port, the queued requests and every command (O57). -/

namespace Sys2Proof.Machine

variable {s t : State} {o : Prop}

/-! ## Time -/

theorem AnswerSlot.Law.ticked {a : AnswerSlot} (h : a.Law) : a.tick.Law := by
  obtain ⟨occupancy, key, content, attempts, inFlight, waitingShed, expired, deadline, rewritten⟩ := a
  cases occupancy
  case empty =>
    rw [(law_empty rfl).1 h]
    rfl
  case reserved => exact h
  case filled =>
    obtain ⟨hkey, hcontent, hdeadline, hrewritten⟩ := h
    exact ⟨hkey, hcontent, by simpa [AnswerSlot.tick] using hdeadline, hrewritten⟩

theorem blockTick_slotsLaw (b : TickBlock) (h : SlotsLaw none s) : SlotsLaw none (blockTick b s) := by
  cases b
  case shareTable => exact h.same rfl rfl rfl rfl rfl
  case timeBase => exact h.same rfl rfl rfl rfl rfl
  case allocation =>
    obtain ⟨⟨hold, answers, reservations, flight, sends, attempt⟩, ⟨slot, commit⟩, ⟨shold, sclaim, sanswers⟩, reset⟩ := h
    refine ⟨⟨hold, answers.map (f := AnswerSlot.tick) fun a ha => ⟨ha.ticked, rfl, rfl⟩, reservations,
        flight.congr fun r => ?_,
      sends, attempt⟩, ⟨?_, fun c hc hin => ?_⟩, ⟨shold, sclaim, fun a ha hn => ?_⟩, reset⟩
    · refine Outbox.inFlight_answers rfl rfl fun j _ => ?_
      show (slotAt (s.outbox.answers.map _) j).inFlight = _
      by_cases hj : j < s.outbox.answers.length
      · rw [slotAt_map _ _ hj]
        rfl
      · simp [slotAt, hj]
    · unfold ClaimSlotLaw at slot ⊢
      cases hc : s.alloc.claim with
      | none => simpa [blockTick, Allocation.tick, hc] using slot
      | some c => cases hphase : c.phase <;> simpa [blockTick, Allocation.tick, ClaimRecord.tick, hc, hphase] using slot
    · obtain ⟨d, hd, rfl⟩ := Option.map_eq_some_iff.1 hc
      refine commit d hd ?_
      cases hphase : d.phase <;> simpa [ClaimRecord.tick, hphase] using hin
    · obtain ⟨b, hb, rfl⟩ := List.mem_map.1 ha
      exact sanswers b hb hn

theorem takeTicks_slotsLaw (blocks : List TickBlock) (h : SlotsLaw none s) : SlotsLaw none (takeTicks blocks s) := by
  refine foldl_stable (P := SlotsLaw none) (fun s b h => ?_) blocks h
  unfold takeTick
  split
  · exact blockTick_slotsLaw b (h.same rfl rfl rfl rfl rfl)
  · exact h

theorem tick_slotsLaw (event : TickEvent) (h : SlotsLaw none s) : SlotsLaw none (tick event s) := by
  unfold tick
  split
  · exact h
  · split
    · rename_i upsets _
      have taken := takeTicks_slotsLaw TickBlock.all h
      have upset : SlotsLaw none (upsetAll upsets (takeTicks TickBlock.all s)) := taken.same
      have issued : SlotsLaw none (issueTick (upsetAll upsets (takeTicks TickBlock.all s))) :=
        upset.same rfl rfl rfl rfl rfl
      exact takeTicks_slotsLaw _ issued
    · exact takeTicks_slotsLaw _ h

theorem ageEntry_slotsLaw (i : Nat) (h : SlotsLaw none s) : SlotsLaw none (ageEntry i s) := by
  have checked : SlotsLaw none (checkParity i s) := h.same
  unfold ageEntry ageBy
  split
  · split
    · split
      · exact strikeOff_slotsLaw i (withdrawFor_slotsLaw _ _ checked.same)
      split
      · exact strikeOff_slotsLaw i checked.same
      · exact checked.same
    · exact checked
  · exact h

theorem joinIfDue_slotsLaw (h : SlotsLaw none s) (own : OwnLaw o s) : SlotsLaw none (joinIfDue s) := by
  unfold joinIfDue
  (repeat' split)
  · rename_i hs _
    exact enterJoining_slotsLaw h.slots (own.no_claim (by simp [hs]) (by simp [hs]))
  · exact h
  · rename_i hs _
    exact enterJoining_slotsLaw h.slots (own.no_claim (by simp [hs]) (by simp [hs]))
  · exact h
  · exact h

theorem allocationBoundary_slotsLaw (h : SlotsLaw none s) : SlotsLaw none (allocationBoundary s) := by
  have raised : SlotsLaw none (raiseSilence s) := h.same
  unfold allocationBoundary
  split
  · refine endUpdate_slotsLaw none ?_
    have requested := requestHold_slotsLaw raised
    unfold fenceIfSilent
    split
    · exact changeState_slotsLaw (by decide) requested.slots (by simp) (by simp)
    · exact requested
  · exact endUpdate_slotsLaw none raised
  · exact h

theorem outboxBoundary_slotsLaw (h : SlotsLaw none s) : SlotsLaw none (outboxBoundary s) := by
  unfold outboxBoundary
  split
  · obtain ⟨⟨hold, answers, reservations, flight, sends, attempt⟩, ⟨slot, commit⟩, ⟨shold, sclaim, sanswers⟩, reset⟩ := h
    refine ⟨⟨?_, answers, reservations, flight.congr fun r => ?_, sends, attempt⟩, ⟨slot, commit⟩,
        ⟨shold, sclaim, sanswers⟩, reset⟩
    · refine hold.imp (fun he => ?_) id
      simp [he, HoldSlot.empty]
    · cases r with
      | hold => rfl
      | claim => rfl
      | answer j => rfl
  · exact h

theorem takeBoundary_slotsLaw (b : Block) (h : SlotsLaw none s) (own : OwnLaw o s) : SlotsLaw none (takeBoundary b s) := by
  unfold takeBoundary
  split
  · have taken : SlotsLaw none { s with time := { s.time with boundaryDue := s.time.boundaryDue.erase b } } :=
      h.same rfl rfl rfl rfl rfl
    cases b <;> unfold blockBoundary <;> dsimp only
    case shareTable => exact endUpdate_slotsLaw none (foldl_stable (P := SlotsLaw none)
        (fun _ i => ageEntry_slotsLaw i) _ taken)
    case membership =>
      refine joinIfDue_slotsLaw (o := o) taken.same ?_
      exact own.same (by simp) (by simp) (by simp) (by simp)
    case allocation => exact allocationBoundary_slotsLaw taken
    case outbox => exact outboxBoundary_slotsLaw taken
  · exact h

theorem leaseBoundary_slotsLaw (order : List Block) (h : SlotsLaw none s) (own : OwnLaw o s) :
    SlotsLaw none (leaseBoundary order s) :=
  (foldl_stable (P := fun s => SlotsLaw none s ∧ OwnLaw o s)
    (fun _ b h => ⟨takeBoundary_slotsLaw b h.1 h.2, takeBoundary_ownLaw b h.2⟩) order ⟨h, own⟩).1

theorem commitDeadlinePassed_slotsLaw (h : SlotsLaw none s) : SlotsLaw none (commitDeadlinePassed s) := by
  unfold commitDeadlinePassed
  split
  · rename_i c hc
    split
    · split
      · exact setClaim_slotsLaw h hc Iff.rfl rfl rfl id
      · exact endUpdate_slotsLaw none (lapseClaim_slotsLaw h)
    · exact h
  · exact h

theorem backoffEnd_slotsLaw (h : SlotsLaw none s) : SlotsLaw none (backoffEnd s) := by
  have cleared : SlotsLaw none (setShare { s.alloc.share with backoff := none } s) := h.same
  unfold backoffEnd startByItself
  split
  · split
    · exact settle_slotsLaw none (tryStart_slotsLaw cleared)
    · exact cleared
  · exact h

theorem watchdogExpired_slotsLaw (h : SlotsLaw none s) : SlotsLaw none (watchdogExpired s) := by
  have fenced : ∀ u : State, SlotsLaw none u → SlotsLaw none (fenceUnfed u) := by
    intro u hu
    unfold fenceUnfed
    split
    iterate 3 exact endUpdate_slotsLaw none (changeState_slotsLaw (by decide) hu.slots (by simp) (by simp))
    exact hu
  have raised : SlotsLaw none (raise .watchdogExpired none none (some (valueOf s.time.watchdog.interval)) s) := h.same
  unfold watchdogExpired
  split
  · exact (fenced _ raised).same
  · exact h

theorem answerDeadline_slotsLaw (k : Nat) (h : SlotsLaw none s) : SlotsLaw none (answerDeadline k s) := by
  unfold answerDeadline
  split
  · rename_i hdue
    split
    · simp only [AnswerSlot.overdue, Bool.and_eq_true, beq_iff_eq] at hdue
      exact markExpired_slotsLaw h hdue.1.1
    · exact dropAnswer_slotsLaw k 1 h
  · exact h

/-! ## The pilot's hand-over and queued requests -/

theorem faultInChange_slotsLaw (h : SlotsLaw none s) : SlotsLaw none (faultInChange s) := by
  have taken : SlotsLaw none (recomputeDrive { s with pilot := { s.pilot with faultDue := false } }) :=
    h.same rfl rfl rfl rfl rfl
  unfold faultInChange requestActiveHold
  split
  · split
    · exact requestHold_slotsLaw taken
    · exact taken
  · exact h

theorem beginJoin_slotsLaw (h : SlotsLaw none s) (hc : s.alloc.claim = none) : SlotsLaw none (beginJoin s) := by
  unfold beginJoin
  split
  · exact enterJoining_slotsLaw h.slots hc
  · exact changeState_slotsLaw (by decide) h.slots (by simp) (by simp)

theorem actOnActive_slotsLaw (h : SlotsLaw none s) (own : OwnLaw o s) : SlotsLaw none (actOnActive s) := by
  have resolved : ∀ result, SlotsLaw none (resolveFirst result s) := fun _ => h.same
  unfold actOnActive
  split
  iterate 3
    rename_i hs
    split
    · exact beginJoin_slotsLaw h (own.no_claim (by simp [hs]) (by simp [hs]))
    · exact resolved _
  · exact resolved _
  · exact resolved _

theorem actOnDetached_slotsLaw (h : SlotsLaw none s) : SlotsLaw none (actOnDetached s) := by
  have resolved : ∀ result, SlotsLaw none (resolveFirst result s) := fun _ => h.same
  unfold actOnDetached
  split
  iterate 6 exact changeState_slotsLaw (by decide) h.slots (by simp) (by simp)
  iterate 5 exact resolved _

theorem configureTaken_slotsLaw (h : SlotsLaw none s) : SlotsLaw none (configureTaken s) := by
  have reported : ∀ r, SlotsLaw none (report r (popFifo s)) := fun r => h.same
  unfold configureTaken
  split
  · split
    · exact h
    · unfold takeConfigure
      split
      · split
        · exact reported _
        · split
          · exact reported _
          · exact endUpdate_slotsLaw none h.same
      · exact reported _
  · exact h

theorem demandTaken_slotsLaw (h : SlotsLaw none s) : SlotsLaw none (demandTaken s) := by
  unfold demandTaken
  split
  · split
    · exact h
    · rename_i target _ _ _
      unfold takeDemand
      split
      · exact h.same
      · refine endUpdate_slotsLaw none ?_
        generalize hu : report _ _ = u
        have reported : SlotsLaw none u := hu ▸ h.same
        unfold followDemand
        split
        · have dropped : SlotsLaw none (dropByDemand u) := by
            unfold dropByDemand
            split
            · exact abandonClaim_slotsLaw _ reported
            · exact reported
          exact (decrease_slotsLaw dropped).same
        · exact reported
  · exact h

/-! ## The port -/

/-- The commands of the port before a request is taken, and what they leave as it was. -/
def atPort : Instr → Bool
  | .transactionStart | .unknownCommand _ | .status | .feed | .ackAlert | .eventPeek | .eventPop | .snapshot | .entryRead _
  | .meterRead _ | .hardReset | .configure _ | .stateRequest _ | .demand _ => true
  | _ => false

theorem decoded_outbox (c : Instr) {act : State → State} (hact : ∀ s, (act s).outbox = s.outbox ∧ (act s).line = s.line)
    (s : State) : (decoded c act s).outbox = s.outbox ∧ (decoded c act s).line = s.line := by
  unfold decoded
  split
  · exact hact _
  · exact ⟨rfl, rfl⟩

theorem effect_atPort (c : Instr) (hc : atPort c = true) (s : State) :
    (effect c s).outbox = s.outbox ∧ (effect c s).line = s.line := by
  cases c
  case transactionStart =>
    simp only [effect, transactionStart]
    split <;> simp
  case unknownCommand => exact decoded_outbox _ (act := unknownCommand _) (fun _ => ⟨rfl, rfl⟩) s
  case status => exact decoded_outbox _ (act := statusRequest) (fun _ => ⟨rfl, rfl⟩) s
  case feed => exact decoded_outbox _ (fun s => by unfold feed; split <;> exact ⟨rfl, rfl⟩) s
  case ackAlert => exact decoded_outbox _ (act := ackAlert) (fun _ => ⟨rfl, rfl⟩) s
  case eventPeek => exact decoded_outbox _ (act := eventPeek) (fun _ => ⟨rfl, rfl⟩) s
  case eventPop => exact decoded_outbox _ (act := eventPop) (fun _ => ⟨rfl, rfl⟩) s
  case snapshot => exact decoded_outbox _ (fun s => by unfold snapshotRequest; (repeat' split) <;> exact ⟨rfl, rfl⟩) s
  case entryRead n => exact decoded_outbox _ (fun s => by unfold entryRead; (repeat' split) <;> exact ⟨rfl, rfl⟩) s
  case meterRead flag => exact decoded_outbox _ (fun s => by unfold meterRead; (repeat' split) <;> exact ⟨rfl, rfl⟩) s
  case hardReset => exact decoded_outbox _ (act := hardReset) (fun _ => ⟨rfl, rfl⟩) s
  case configure record => exact decoded_outbox _ (fun s => by unfold configureArrives; split <;> exact ⟨rfl, rfl⟩) s
  case stateRequest target =>
    refine decoded_outbox _ (fun s => ?_) s
    unfold stateRequestArrives
    dsimp only
    (repeat' split) <;> simp
  case demand target => exact decoded_outbox _ (fun s => by unfold demandArrives; (repeat' split) <;> exact ⟨rfl, rfl⟩) s
  all_goals cases hc

theorem quiet_of_atPort {c : Instr} (hc : atPort c = true) : quiet c = true := by
  cases c <;> simp [atPort] at hc <;> rfl

/-- The end of a transaction leads to RESET, or leaves the slots and the line as they were. -/
theorem transactionEnd_outbox (shifted : Nat) (s : State) :
    (∃ rstN internal s', transactionEnd shifted s = enterReset rstN internal s')
      ∨ ((transactionEnd shifted s).outbox = s.outbox ∧ (transactionEnd shifted s).line = s.line) := by
  unfold transactionEnd
  split
  · exact .inr ⟨rfl, rfl⟩
  unfold endTransaction
  split
  · exact .inr ⟨rfl, rfl⟩
  split
  · unfold endResponse
    split
    · exact .inl ⟨_, _, _, rfl⟩
    split <;> exact .inr (by simp)
  · exact .inr (by simp)

/-! ## RESET -/

theorem intoReset_idle (tx : Transmitter) : tx.intoReset.attempt? = none := by
  unfold Transmitter.intoReset
  split
  · rfl
  · cases tx with
    | none => rfl
    | marking a start => rfl
    | sending a =>
      unfold Transmitter.cut
      dsimp only
      split <;> rfl

theorem slotAt_replicate_empty (m k : Nat) : slotAt (List.replicate m AnswerSlot.empty) k = AnswerSlot.empty := by
  unfold slotAt
  rw [List.getElem?_replicate]
  split <;> rfl

theorem emptySlots_answersLaw : AnswersLaw (List.replicate 4 AnswerSlot.empty) [] := by
  refine ⟨rfl, fun a ha => ?_, List.nodup_nil, fun k _ => ?_, by simp, fun j _ k _ _ hsome => ?_⟩
  · rw [List.eq_of_mem_replicate ha]
    exact AnswerSlot.empty_law
  · rw [slotAt_replicate_empty]
    simp [AnswerSlot.empty]
  · rw [slotAt_replicate_empty] at hsome
    exact absurd hsome Bool.false_ne_true

theorem enterReset_slotsLaw (rstN : Bool) (internal : Nat) (s : State) : SlotsLaw none (enterReset rstN internal s) := by
  have idle : (enterReset rstN internal s).line.tx.attempt? = none := intoReset_idle _
  have grounded : ∀ p, Outbox.initial.inFlight p = false := by
    intro p
    cases p with
    | hold => rfl
    | claim => rfl
    | answer k =>
      show (slotAt (List.replicate 4 AnswerSlot.empty) k).inFlight = false
      rw [slotAt_replicate_empty]
      rfl
  refine ⟨⟨.inl rfl, emptySlots_answersLaw, ⟨?_, ?_⟩, ⟨fun p hp => ?_, fun p hp => ?_⟩, .of_no_attempt idle, ?_⟩,
    Owned.of_no_claim rfl rfl, ⟨⟨?_, ?_, fun a ha hn => ?_⟩, fun _ => idle⟩⟩
  · rintro k ⟨⟩
  · rintro d ⟨⟩
  · have := grounded p
    simp [show (enterReset rstN internal s).outbox = Outbox.initial from rfl, this] at hp
  · simp [Transmitter.liveSlot?, idle] at hp
  · rintro ⟨⟩
  · exact fun hn => absurd rfl hn
  · exact fun hn => absurd rfl hn
  · rw [List.eq_of_mem_replicate ha] at hn
    exact absurd rfl hn

theorem resetEnd_slotsLaw (straps : Straps) (h : SlotsLaw none s) : SlotsLaw none (resetEnd straps s) := by
  unfold resetEnd
  split
  · split
    · rename_i hleave
      have idle : s.line.tx.attempt? = none := by
        have : s.line.tx = .none := by
          simp only [mayLeaveReset, Bool.and_eq_true, beq_iff_eq] at hleave
          exact hleave.2
        rw [this]
        rfl
      have latched : SlotsLaw none (latch straps (releaseRstN s)) :=
        h.reline ⟨h.slots.reservations, h.slots.flight, .of_no_attempt idle⟩ id rfl rfl rfl
      exact changeState_slotsLaw (by split <;> decide) latched.slots (by split <;> simp) (by split <;> simp)
    · exact h.same
  · exact h

/-! ## Every command -/

theorem lineOffer_slotsLaw (h : SlotsLaw none s) : SlotsLaw none (lineOffer s) := by
  unfold lineOffer
  split
  · rename_i hoffer
    simp only [lineAvailable, Bool.and_eq_true, bne_iff_ne, beq_iff_eq] at hoffer
    obtain ⟨⟨⟨⟨hs, htx⟩, _⟩, _⟩, _⟩ := hoffer
    have bound : SlotsLaw none (toBoundary s) := h.reline h.slots.lineLaw.untaken untaken_idle
    have idle : (toBoundary s).line.tx = .none := by
      show s.line.untaken.tx = .none
      unfold LineInterface.untaken
      split
      · simp [LineInterface.nextBit, htx, Transmitter.advance]
      · exact htx
    have running : (toBoundary s).mc.station ≠ .reset := by simpa using hs
    split
    · rename_i slot hchoose
      have chosen := chooseSlot_eq_some hchoose
      cases slot with
      | hold =>
        simp only [HoldSlot.eligible, Bool.and_eq_true, beq_iff_eq] at chosen
        exact startHold_slotsLaw bound idle running (by simpa using chosen.1.1)
      | claim =>
        simp only [ClaimSlot.eligible, Bool.and_eq_true, beq_iff_eq] at chosen
        exact startClaim_slotsLaw bound idle running (by simpa using chosen.1)
      | answer k =>
        simp only [AnswerSlot.eligible, Bool.and_eq_true, beq_iff_eq] at chosen
        exact startAnswer_slotsLaw bound idle running (h.slots.answers.range k chosen.1) chosen.2.1.1.1
    · exact h
  · exact h

theorem cutMarkEnd_slotsLaw (h : SlotsLaw none s) : SlotsLaw none (cutMarkEnd s) := by
  unfold cutMarkEnd
  split
  · rename_i hend
    have marking : s.line.tx.attempt? = none := by
      cases htx : s.line.tx with
      | none => rfl
      | marking a start => rfl
      | sending a => simp [htx, Transmitter.inEndSpace] at hend
    have slot : s.line.tx.slot? = Transmitter.none.slot? := by
      rw [Transmitter.slot?, marking]
      rfl
    refine h.reline ⟨by simpa [Reservations] using h.slots.reservations, h.slots.flight.moved slot fun p hp => ?_,
      .of_no_attempt rfl⟩ fun _ => rfl
    simp [Transmitter.liveSlot?, Transmitter.attempt?] at hp
  · exact h

/-- No attempt is open once one has ended or been stopped. -/
theorem endAttempt_dead (s : State) : (endAttempt s).line.tx.liveSlot? = none := rfl

theorem txInhibitAsserted_slotsLaw (h : SlotsLaw none s) : SlotsLaw none (txInhibitAsserted s) := by
  have inhibited : SlotsLaw none (setInhibit true s) := h.same
  unfold txInhibitAsserted
  split
  · rename_i a htx
    split
    · rename_i hlive
      have running : a.stopped = false := by
        simp only [Attempt.live, Bool.and_eq_true, Bool.not_eq_true'] at hlive
        exact hlive.2
      refine slotFailed_slotsLaw false (stopAttempt_slotsLaw inhibited htx)
        (h.slots.sends.range _ (slot?_eq_some.2 ⟨a, htx, running, rfl⟩)) ?_
      rw [stopAttempt_tx]
      simp only [setInhibit_keeps, htx]
      rfl
    · exact inhibited
  · exact inhibited

theorem attemptCompleted_slotsLaw (h : SlotsLaw none s) (own : OwnLaw o s) : SlotsLaw none (attemptCompleted s) := by
  unfold attemptCompleted
  split
  · rename_i a htx
    split
    · exact slotCompleted_slotsLaw (endAttempt_slotsLaw h htx) fun ha hj => own.no_claim ha hj
    · exact h
  · exact h

theorem attemptCollided_slotsLaw (h : SlotsLaw none s) : SlotsLaw none (attemptCollided s) := by
  unfold attemptCollided
  split
  · rename_i a htx
    split
    · rename_i hcollided
      have running : a.stopped = false := by
        simp only [Attempt.collided, Bool.and_eq_true, Bool.not_eq_true'] at hcollided
        exact hcollided.2
      exact slotFailed_slotsLaw true (endAttempt_slotsLaw h htx)
        (h.slots.sends.range _ (slot?_eq_some.2 ⟨a, htx, running, rfl⟩)) (endAttempt_dead s)
    · exact h
  · exact h

theorem effect_slotsLaw (c : Instr) (h : SlotsLaw none s) (own : OwnLaw o s) : SlotsLaw none (effect c s) := by
  by_cases hc : atPort c = true
  · obtain ⟨outbox, line⟩ := effect_atPort c hc s
    have same := effect_untouched c (quiet_of_atPort hc) s
    exact h.same same.station (by rw [same.alloc]) (by rw [same.alloc]) outbox line
  cases c
  case rstNAsserted => exact enterReset_slotsLaw _ _ _
  case powerUp => exact enterReset_slotsLaw _ _ _
  case resetEnd straps => exact resetEnd_slotsLaw straps h
  case cutMarkEnd => exact cutMarkEnd_slotsLaw h
  case tick event => exact tick_slotsLaw event h
  case leaseBoundary order => exact leaseBoundary_slotsLaw order h own
  case earmarkExpiry station =>
    simp only [effect, earmarkExpiry]
    split
    · exact endUpdate_slotsLaw none (dropEarmark_slotsLaw _ h)
    · exact h
  case responseWindowPassed =>
    simp only [effect, responseWindowPassed]
    split
    · exact endUpdate_slotsLaw none (failClaim_slotsLaw _ _ h)
    · exact h
  case commitDeadlinePassed => exact commitDeadlinePassed_slotsLaw h
  case backoffEnd => exact backoffEnd_slotsLaw h
  case answerDeadline slot => exact answerDeadline_slotsLaw slot h
  case watchdogExpired => exact watchdogExpired_slotsLaw h
  case pilotPeriodStart levels between =>
    simp only [effect, pilotPeriodStart]
    split
    · exact (faultInChange_slotsLaw h).same
    · exact h
  case faultInChange => exact faultInChange_slotsLaw h
  case txInhibitAsserted => exact txInhibitAsserted_slotsLaw h
  case txInhibitDeasserted => exact h.same rfl rfl rfl rfl rfl
  case lineOffer => exact lineOffer_slotsLaw h
  case attemptCompleted => exact attemptCompleted_slotsLaw h own
  case attemptCollided => exact attemptCollided_slotsLaw h
  case frameHeader => exact frameHeader_slotsLaw h
  case skipEnd =>
    simp only [effect, skipEnd]
    split
    · exact h.reline (h.slots.lineLaw.rx rfl rfl rfl (.inl rfl)) id rfl rfl rfl
    · exact h
  case frameVerdict => exact frameVerdict_slotsLaw h
  case holdReceived =>
    simp only [effect, holdReceived]
    split
    · split
      · exact h
      · exact takeHold_slotsLaw _ _ (popInbox_slotsLaw h)
    · exact h
  case farewellReceived =>
    simp only [effect, farewellReceived]
    split
    · split
      · exact takeFarewell_slotsLaw _ (popInbox_slotsLaw h)
      · exact h
    · exact h
  case announceReceived => exact announceReceived_slotsLaw h
  case claimReceived => exact claimReceived_slotsLaw h
  case assentReceived =>
    simp only [effect, assentReceived]
    split
    · exact endUpdate_slotsLaw none (takeAssent_slotsLaw _ _ _ (popInbox_slotsLaw h))
    · exact h
  case objectReceived =>
    simp only [effect, objectReceived]
    split
    · exact takeObject_slotsLaw _ _ _ _ (popInbox_slotsLaw h)
    · exact h
  case transactionEnd shifted =>
    have same := transactionEnd_untouched shifted s
    rcases transactionEnd_outbox shifted s with ⟨_, _, _, heq⟩ | ⟨outbox, line⟩
    · simp only [effect, heq]
      exact enterReset_slotsLaw _ _ _
    · rcases same with ⟨_, _, _, heq⟩ | same
      · simp only [effect, heq]
        exact enterReset_slotsLaw _ _ _
      · exact h.same same.station (by rw [effect, same.alloc]) (by rw [effect, same.alloc]) outbox line
  case snapshotTaken =>
    simp only [effect, snapshotTaken]
    split
    · have settled := settle_slotsLaw none (h.same (t := checkAllParity s))
      have kept : SlotsLaw none (keepCopy (settle none (checkAllParity s))) := settled.same
      exact tryStart_slotsLaw kept
    · exact h
  case configureTaken => exact configureTaken_slotsLaw h
  case stateRequestActiveTaken =>
    simp only [effect, stateRequestActiveTaken]
    split
    · split
      · exact h
      · exact actOnActive_slotsLaw (o := o) (h.same rfl rfl rfl rfl rfl) (own.same rfl rfl rfl rfl)
    · exact h
  case stateRequestDetachedTaken =>
    simp only [effect, stateRequestDetachedTaken]
    split
    · split
      · exact h
      · exact actOnDetached_slotsLaw h.same
    · exact h
  case demandTaken => exact demandTaken_slotsLaw h
  case syncPatternMatch =>
    simp only [effect, syncPatternMatch]
    split
    · exact h.reline (h.slots.lineLaw.rx rfl rfl rfl (.inl rfl)) id rfl rfl rfl
    · exact h
  case lineBitTaken recessive =>
    simp only [effect, lineBitTaken]
    split
    · exact h
    · exact h.reline (h.slots.lineLaw.untaken.takeBit recessive (untaken_bits _))
        (fun hidle => compare_idle recessive (untaken_idle hidle)) rfl rfl rfl
  case lineRxEdge =>
    simp only [effect, lineRxEdge]
    split
    · rename_i hs
      split
      · exact h
      · have released := h.slots.lineLaw.edge.release (edge_idle (h.allowed.reset hs))
        exact h.reline released.1 (fun _ => released.2) rfl rfl rfl
    · exact h.reline h.slots.lineLaw.edge edge_idle rfl rfl rfl
  all_goals exact absurd rfl hc

theorem oscPeriod_slotsLaw (h : SlotsLaw none s) : SlotsLaw none (oscPeriod s) := by
  have running : SlotsLaw none (runningPeriod s) := h.reline h.slots.lineLaw.period period_idle rfl rfl rfl
  unfold oscPeriod
  split
  · rename_i hs
    unfold resetPeriod
    split
    · exact h.same rfl rfl rfl rfl rfl
    · have released := h.slots.lineLaw.period.release (period_idle (h.allowed.reset hs))
      exact h.reline released.1 (fun _ => released.2) rfl rfl rfl
  · split
    · exact tick_slotsLaw _ running
    · exact running.same rfl rfl rfl rfl rfl

theorem step_slotsLaw (h : SlotsLaw none s) (own : OwnLaw o s) (hstep : step s = .next t) : SlotsLaw none t ∧ OwnLaw o t :=
  step_keeps (P := fun s => SlotsLaw none s ∧ OwnLaw o s)
    (fun _ _ h => ⟨h.1.same rfl rfl rfl rfl rfl, h.2.same rfl rfl rfl rfl⟩)
    (fun _ h => ⟨oscPeriod_slotsLaw h.1, oscPeriod_ownLaw h.2⟩)
    (fun c _ h => ⟨effect_slotsLaw c h.1 h.2, effect_ownLaw c h.2⟩) s t ⟨h, own⟩ hstep

/-- Settles O57: the slots operation by operation, beside the own holding, whose law says where a claim may be open. -/
theorem everyStepKeepsTheSlots : Obligations.EveryStepKeepsTheSlots := by
  intro s t share outbox hstep
  obtain ⟨slots, claim⟩ := (outboxLaw_iff s).1 outbox
  obtain ⟨cls, ranges, active, inactive⟩ := (shareLaw_iff s).1 share
  have own : OwnLaw False s := ⟨cls, ranges, active, inactive, (claimLaw_iff s).1 claim, False.elim⟩
  obtain ⟨slots, own⟩ := step_slotsLaw slots own hstep
  exact (outboxLaw_iff t).2 ⟨slots, (claimLaw_iff t).2 own.claim⟩

end Sys2Proof.Machine
end

section
/-! PROOFS. The state right after reset: the values the manual states (O3) and the laws (O53). -/

namespace Sys2Proof.Machine

/-- The state right after reset is that of the entry to RESET, with RST_N high and no internal reset left. -/
theorem reset_eq_enterReset : State.reset = enterReset true 0 State.reset := rfl

/-- Settles O3: every block at its initial value. -/
theorem resetLeavesTheStatedValues : Obligations.ResetLeavesTheStatedValues := by
  rintro s rfl
  refine ⟨by decide, fun i _ => ?_, by decide, by decide, ?_, by decide, by decide, by decide, ?_, by decide⟩
  · have entry : entryAt State.reset i = Entry.empty := by
      show (List.replicate 24 Entry.empty)[i]?.getD Entry.empty = Entry.empty
      rw [List.getElem?_replicate]
      split <;> rfl
    rw [entry]
    decide
  · exact ⟨rfl, rfl, rfl, fun a ha => List.eq_of_mem_replicate ha, rfl⟩
  · refine ⟨rfl, rfl, fun c => ?_, rfl, fun c => ?_, fun c => ?_, rfl⟩ <;> cases c <;> rfl

theorem reset_eventLaw : EventLaw State.reset :=
  ⟨Nat.zero_le _, by rintro p ⟨⟩, by rintro e ⟨⟩, by rintro e ⟨⟩⟩

theorem reset_conditionLaw : ConditionLaw State.reset := by
  unfold ConditionLaw AlertSet.within
  decide

theorem reset_countLaw : CountLaw State.reset := by
  unfold CountLaw
  decide

/-- Settles O53: the laws of the holding and of the slots from the entry to RESET, the others by the values after reset. -/
theorem everyLawHoldsAtReset : Obligations.EveryLawHoldsAtReset := by
  have holding : OwnLaw True State.reset := reset_eq_enterReset ▸ enterReset_ownLaw _ _ _
  have slots : SlotsLaw none State.reset := reset_eq_enterReset ▸ enterReset_slotsLaw _ _ _
  refine ⟨reset_eventLaw, reset_conditionLaw, ⟨rfl, .inl rfl⟩, (holdingLaw_iff _).2 holding, ?_,
    (outboxLaw_iff _).2 ⟨slots, (claimLaw_iff _).2 holding.claim⟩, ?_, reset_countLaw, ?_, ⟨rfl, List.nodup_nil⟩⟩
  · unfold SumsLaw
    decide
  · unfold RequestLaw
    decide
  · rw [reset_eq_enterReset]
    exact enterReset_resetLaw _ _ _

end Sys2Proof.Machine
end

section
/-! PROOFS. Frames and requests as bytes: their layouts (O25), the round trip through the receiver (O27), and the
port's decoder
(O49). -/

namespace Sys2Proof.Machine

/-! ## Bytes and numbers -/

theorem toNat_byteOf {n : Nat} (h : n < 256) : (byteOf n).toNat = n := Nat.mod_eq_of_lt h

/-- A number of 16 bits read back from its two bytes. -/
theorem ofHalfBytes_byteOf {n : Nat} (h : n < 65536) : ofHalfBytes (byteOf (n / 256)) (byteOf n) = n := by
  unfold ofHalfBytes byteOf
  rw [BitVec.toNat_ofNat, BitVec.toNat_ofNat]
  omega

theorem halfBytes_append (v : Half) : (v.extractLsb' 8 8 : Byte) ++ (v.extractLsb' 0 8 : Byte) = v :=
  append_eq_of_halfBytes (halfBytes_toNat v).symm

theorem halfBytes_toNat_append (hi lo : Byte) : halfBytes (hi ++ lo).toNat = [hi, lo] := by
  have high : (hi.toNat <<< 8 ||| lo.toNat) / 256 % 256 = hi.toNat := by
    rw [← Nat.shiftLeft_add_eq_or_of_lt lo.isLt, Nat.shiftLeft_eq]
    have := hi.isLt
    have := lo.isLt
    omega
  have low : (hi.toNat <<< 8 ||| lo.toNat) % 256 = lo.toNat := by
    rw [← Nat.shiftLeft_add_eq_or_of_lt lo.isLt, Nat.shiftLeft_eq]
    have := lo.isLt
    omega
  rw [halfBytes, BitVec.toNat_append]
  refine congrArg₂ (fun a b => [a, b]) (BitVec.eq_of_toNat_eq ?_) (BitVec.eq_of_toNat_eq ?_)
  · rw [byteOf, BitVec.toNat_ofNat]
    exact high
  · rw [byteOf, BitVec.toNat_ofNat]
    exact low

/-! ## The layouts -/

/-- The reason code's byte (R191). -/
theorem Frame.checked_eq (f : Frame) :
    f.checked = [BitVec.ofNat 8 (16 * f.body.kindCode + f.body.bytes.length), BitVec.ofNat 8 f.source] ++ f.body.bytes := by
  rw [Frame.checked, Nat.mul_comm]
  rfl

/-- Settles O25: each layout as the definitions write it. -/
theorem frameBytesFollowTheLayouts : Obligations.FrameBytesFollowTheLayouts := by
  refine ⟨fun f => ?_, fun h => ⟨rfl, rfl⟩, fun n a p => ⟨rfl, rfl⟩, fun n fl p c l => ⟨rfl, ?_⟩, fun x n => ⟨rfl, rfl⟩,
    fun x n r => ⟨rfl, rfl⟩, rfl⟩
  · rw [Frame.bytes, halfBytes_toNat, Frame.checked_eq]
    rfl
  · rw [Nat.mul_comm 16 c]
    rfl

/-! ## The receiver on a frame's own bits -/

/-- A HOLD's four flags, read off their byte. -/
theorem flags_getLsbD (h : HoldFields) :
    (byteOf h.flags).toNat < 16 ∧ (byteOf h.flags).getLsbD 0 = h.commit.isSome ∧ (byteOf h.flags).getLsbD 1 = h.farewell
      ∧ (byteOf h.flags).getLsbD 2 = h.localFault ∧ (byteOf h.flags).getLsbD 3 = h.openClaim.isSome := by
  unfold HoldFields.flags
  cases h.commit.isSome <;> cases h.farewell <;> cases h.localFault <;> cases h.openClaim.isSome <;> decide

theorem parseBody_hold (h : HoldFields) (hwf : (FrameBody.hold h).wf = true) :
    parseBody 1 (FrameBody.hold h).bytes = some (.hold h) := by
  simp only [FrameBody.wf, Bool.and_eq_true, decide_eq_true_eq] at hwf
  obtain ⟨hheld, hfloor⟩ := hwf
  have parsed : parseHold h.seq (byteOf (h.held / 256)) (byteOf h.held) (byteOf h.floor) (byteOf h.flags) (optByte h.commit)
      h.openClaim = some (.hold h) := by
    obtain ⟨small, hcommit, hfarewell, hfault, hopen⟩ := flags_getLsbD h
    have commit : (if h.commit.isSome then some (optByte h.commit) else none) = h.commit := by
      cases h.commit <;> rfl
    rw [parseHold, ofHalfBytes_byteOf (by omega), toNat_byteOf (n := h.floor) (by omega)]
    simp only [hcommit, hfarewell, hfault, hopen]
    rw [if_pos ⟨hheld, hfloor, small, trivial⟩, commit]
  cases ho : h.openClaim with
  | none =>
    rw [ho] at parsed
    simp only [FrameBody.bytes, halfBytes, ho, Option.toList, List.cons_append, List.nil_append, List.append_nil, parseBody]
    exact parsed
  | some n =>
    rw [ho] at parsed
    simp only [FrameBody.bytes, halfBytes, ho, Option.toList, List.cons_append, List.nil_append, parseBody]
    exact parsed

theorem reasonOfCode_code (r : ObjectReason) : reasonOfCode (byteOf r.code).toNat = some r := by cases r <;> rfl

/-- The body of a frame is read back from its bytes, every field at every value of its range (R191). -/
theorem parseBody_bytes (b : FrameBody) (hwf : b.wf = true) : parseBody b.kindCode b.bytes = some b := by
  cases b with
  | hold h => exact parseBody_hold h hwf
  | claim n a p =>
    simp only [FrameBody.wf, Bool.and_eq_true, decide_eq_true_eq] at hwf
    obtain ⟨ha, hp⟩ := hwf
    simp only [FrameBody.bytes, FrameBody.kindCode, halfBytes, List.cons_append, List.nil_append, parseBody]
    rw [ofHalfBytes_byteOf (by omega), toNat_byteOf (n := p) (by omega), if_pos ⟨ha, hp⟩]
  | announce n f p c l =>
    simp only [FrameBody.wf, Bool.and_eq_true, decide_eq_true_eq] at hwf
    obtain ⟨⟨⟨hf, hp⟩, hc⟩, hl⟩ := hwf
    simp only [FrameBody.bytes, FrameBody.kindCode, parseBody]
    rw [toNat_byteOf (n := f) (by omega), toNat_byteOf (n := p) (by omega), toNat_byteOf (n := c * 16 + l) (by omega),
      if_pos ⟨hf, hp, by omega⟩, show (c * 16 + l) / 16 = c by omega, show (c * 16 + l) % 16 = l by omega]
  | assent x n =>
    simp only [FrameBody.wf, decide_eq_true_eq] at hwf
    simp only [FrameBody.bytes, FrameBody.kindCode, parseBody]
    rw [toNat_byteOf (n := x) (by omega), if_pos ⟨hwf, trivial⟩]
  | object x n r =>
    simp only [FrameBody.wf, decide_eq_true_eq] at hwf
    simp only [FrameBody.bytes, FrameBody.kindCode, parseBody]
    rw [toNat_byteOf (n := x) (by omega), if_pos hwf, reasonOfCode_code]
    rfl

theorem length_bytes_pos (b : FrameBody) : 3 ≤ b.bytes.length ∧ b.bytes.length ≤ 7 := by
  cases b with
  | hold h => cases ho : h.openClaim <;> simp [FrameBody.bytes, halfBytes, ho]
  | _ => simp [FrameBody.bytes, halfBytes]

theorem kindCode_lt (b : FrameBody) : b.kindCode < 6 := by cases b <;> simp [FrameBody.kindCode]

/-- What the kind-and-length byte of a frame says (R191). -/
theorem kindLength (f : Frame) :
    lengthOf (byteOf (f.body.kindCode * 16 + f.body.bytes.length)) = f.body.bytes.length
      ∧ kindOf (byteOf (f.body.kindCode * 16 + f.body.bytes.length)) = f.body.kindCode
      ∧ kindLengthGood (byteOf (f.body.kindCode * 16 + f.body.bytes.length)) = true := by
  have length := length_bytes_pos f.body
  have kind := kindCode_lt f.body
  have whole : (byteOf (f.body.kindCode * 16 + f.body.bytes.length)).toNat = f.body.kindCode * 16 + f.body.bytes.length :=
    toNat_byteOf (by omega)
  have hlength : lengthOf (byteOf (f.body.kindCode * 16 + f.body.bytes.length)) = f.body.bytes.length := by
    rw [lengthOf, whole]
    omega
  have hkind : kindOf (byteOf (f.body.kindCode * 16 + f.body.bytes.length)) = f.body.kindCode := by
    rw [kindOf, whole]
    omega
  refine ⟨hlength, hkind, ?_⟩
  rw [kindLengthGood, hlength, hkind]
  cases f.body with
  | hold h => cases ho : h.openClaim <;> simp [FrameBody.bytes, FrameBody.kindCode, halfBytes, ho]
  | _ => simp [FrameBody.bytes, FrameBody.kindCode, halfBytes]

theorem drop_bytes (f : Frame) : (Frame.bytes f).drop 2 = f.checked ++ halfBytes (checkValue f.checked).toNat := rfl

theorem checked_eq_cons (f : Frame) :
    f.checked = byteOf (f.body.kindCode * 16 + f.body.bytes.length) :: byteOf f.source :: f.body.bytes := rfl

theorem length_checked (f : Frame) : f.checked.length = 2 + f.body.bytes.length := by
  rw [checked_eq_cons, List.length_cons, List.length_cons]
  omega

theorem length_drop_bytes (f : Frame) : ((Frame.bytes f).drop 2).length = 2 + f.body.bytes.length + 2 := by
  rw [drop_bytes, List.length_append, length_checked]
  rfl

/-- The verdict on a frame's own bits turns on the end space alone (R105). -/
theorem verdictOf_bytes (f : Frame) (hwf : f.wf = true) (last : Bool) :
    verdictOf (lineBits ((Frame.bytes f).drop 2) ++ [last]) = if last then .good f else .bad .ending := by
  obtain ⟨length, kind, _⟩ := kindLength f
  simp only [Frame.wf, Bool.and_eq_true, decide_eq_true_eq] at hwf
  obtain ⟨hsource, hbody⟩ := hwf
  have check_length : (halfBytes (checkValue f.checked).toNat).length = 2 := rfl
  have head : f.checked.headD 0 = byteOf (f.body.kindCode * 16 + f.body.bytes.length) := rfl
  have nonempty : f.checked ≠ [] := by simp [Frame.checked]
  have bits : lineBits ((Frame.bytes f).drop 2) ++ [last]
      = lineBits f.checked ++ (lineBits (halfBytes (checkValue f.checked).toNat) ++ [last]) := by
    rw [drop_bytes, lineBits_append, List.append_assoc]
  have read : bytesOfBits (2 + f.body.bytes.length) (lineBits ((Frame.bytes f).drop 2) ++ [last]) = f.checked := by
    rw [bits, ← length_checked f]
    exact bytesOfBits_lineBits_append ..
  have after : (lineBits ((Frame.bytes f).drop 2) ++ [last]).drop (8 * (2 + f.body.bytes.length))
      = lineBits (halfBytes (checkValue f.checked).toNat) ++ [last] := by
    rw [bits, ← length_checked f]
    exact drop_lineBits_append ..
  have sent : bytesOfBits 2 (lineBits (halfBytes (checkValue f.checked).toNat) ++ [last])
      = halfBytes (checkValue f.checked).toNat := check_length ▸ bytesOfBits_lineBits_append ..
  have ending : (lineBits ((Frame.bytes f).drop 2) ++ [last]).drop (8 * (2 + f.body.bytes.length + 2)) = [last] := by
    rw [← length_drop_bytes f]
    exact drop_lineBits_append ..
  have first : byteOfBits ((lineBits ((Frame.bytes f).drop 2) ++ [last]).take 8)
      = byteOf (f.body.kindCode * 16 + f.body.bytes.length) := by
    rw [bits, byteOfBits_take_lineBits_append _ nonempty, head]
  have body : f.checked.drop 2 = f.body.bytes := rfl
  have source : ((f.checked.drop 1).headD 0).toNat = f.source := toNat_byteOf (by omega)
  simp only [verdictOf, first, length, kind, read, after, sent, ending, body, source, parseBody_bytes _ hbody]
  cases last <;> simp

theorem lineBits_drop (n : Nat) (bytes : List Byte) : (lineBits bytes).drop (8 * n) = lineBits (bytes.drop n) := by
  induction n generalizing bytes with
  | zero => rfl
  | succ n ih =>
    cases bytes with
    | nil => simp [lineBits]
    | cons b bytes =>
      rw [Nat.mul_succ, Nat.add_comm, ← List.drop_drop, lineBits_cons, List.drop_left' (length_bitsLsb b), ih]
      rfl

theorem lineBits_take (n : Nat) (bytes : List Byte) : (lineBits bytes).take (8 * n) = lineBits (bytes.take n) := by
  induction n generalizing bytes with
  | zero => simp [lineBits]
  | succ n ih =>
    cases bytes with
    | nil => simp [lineBits]
    | cons b bytes =>
      have split : (lineBits (b :: bytes)).take (8 * n + 8) = bitsLsb b ++ (lineBits bytes).take (8 * n) := by
        rw [lineBits_cons, Nat.add_comm, List.take_add, List.take_left' (length_bitsLsb b),
            List.drop_left' (length_bitsLsb b)]
      rw [Nat.mul_succ, split, ih, List.take_succ_cons, lineBits_cons]

theorem byteOfBits_lineBits_head (b : Byte) (bytes : List Byte) : byteOfBits ((lineBits (b :: bytes)).take 8) = b := by
  rw [lineBits_cons, List.take_left' (length_bitsLsb b), byteOfBits_bitsLsb]

/-- The header of a frame, complete with the first byte of the body (R103). -/
theorem judgeHeader_bytes (f : Frame) (hs : f.source ≤ 23) :
    judgeHeader ((lineBits ((Frame.bytes f).drop 2)).take 24)
      = .complete f.body.kindCode f.source (f.body.bytes.headD 0) := by
  obtain ⟨_, kind, good⟩ := kindLength f
  obtain ⟨b, body, hb⟩ : ∃ b body, f.body.bytes = b :: body := by
    have := (length_bytes_pos f.body).1
    exact List.exists_cons_of_ne_nil (List.ne_nil_of_length_pos (by omega))
  have header : (lineBits ((Frame.bytes f).drop 2)).take 24
      = lineBits [byteOf (f.body.kindCode * 16 + f.body.bytes.length), byteOf f.source, b] := by
    rw [show 24 = 8 * 3 from rfl, lineBits_take]
    simp [Frame.bytes, Frame.checked, hb]
  have second : ∀ kl x b : Byte, (lineBits [kl, x, b]).drop 8 = lineBits [x, b] := fun kl x b => lineBits_drop 1 [kl, x, b]
  have third : ∀ kl x b : Byte, (lineBits [kl, x, b]).drop 16 = lineBits [b] := fun kl x b => lineBits_drop 2 [kl, x, b]
  have source : (byteOf f.source).toNat = f.source := toNat_byteOf (by omega)
  rw [header]
  generalize byteOf (f.body.kindCode * 16 + f.body.bytes.length) = kl at kind good
  simp only [judgeHeader, second, third, byteOfBits_lineBits_head, length_lineBits, good, source, kind, hb]
  simp only [List.length_cons, List.length_nil, List.headD_cons]
  rw [if_neg (by omega), if_neg (by simp), if_neg (by omega), if_neg (by omega), if_neg (by omega)]

/-- Settles O27: the verdict by `verdictOf_bytes`, the header by `judgeHeader_bytes`. -/
theorem frameRoundTripsThroughTheReceiver : Obligations.FrameRoundTripsThroughTheReceiver := by
  intro f hwf
  obtain ⟨length, _, _⟩ := kindLength f
  have source : f.source ≤ 23 := by
    simp only [Frame.wf, Bool.and_eq_true, decide_eq_true_eq] at hwf
    exact hwf.1
  refine ⟨by simpa using verdictOf_bytes f hwf true, by simpa using verdictOf_bytes f hwf false, rfl, ?_,
    judgeHeader_bytes f source⟩
  have span : (lineBits ((Frame.bytes f).drop 2) ++ [true]).length = frameSpan f.body.bytes.length := by
    rw [List.length_append, length_lineBits, length_drop_bytes]
    rfl
  rw [span, drop_bytes, checked_eq_cons, List.cons_append, byteOfBits_lineBits_head, length]

/-! ## The port's decoder -/

theorem requestOf_unknown : ∀ n : Byte, n ∉ requestCodes → requestOf [n] = some (.unknownCommand n) := by decide

/-- The command codes that arguments follow (R192). -/
def argumentCodes : List Byte := [0x07, 0x08, 0x10, 0x11, 0x12]

/-- No other first byte has bytes behind it: a check of the 251 others. -/
theorem requestOf_of_no_argument (a b : Byte) (rest : List Byte) (h : a ∉ argumentCodes) :
    requestOf (a :: b :: rest) = none := by
  obtain ⟨⟨i, hi⟩⟩ := a
  interval_cases i
  any_goals rfl
  all_goals simp [argumentCodes] at h

/-- The bytes of a request, by its first one (R192). -/
def requestLength (code : Byte) : Nat :=
  if code = 0x10 then 10 else if code = 0x12 then 3 else if code = 0x07 ∨ code = 0x08 ∨ code = 0x11 then 2 else 1

/-- Bytes that spell a request, in number as their first byte says. -/
def Spells (bytes : List Byte) (c : Instr) : Prop :=
  requestBytes c = bytes ∧ bytes.length = requestLength (bytes.headD 0)

theorem spells_of_one : ∀ n : Byte, ∀ c ∈ requestOf [n], requestBytes c = [n] ∧ requestLength n = 1 := by decide

theorem spells_argument {a b : Byte} {rest : List Byte} {c : Instr} (ha : a ∈ argumentCodes)
    (h : requestOf (a :: b :: rest) = some c) : Spells (a :: b :: rest) c := by
  simp only [argumentCodes, List.mem_cons, List.not_mem_nil, or_false] at ha
  rcases ha with rfl | rfl | rfl | rfl | rfl
  · cases rest with
    | nil => obtain rfl := Option.some.inj h; exact ⟨rfl, rfl⟩
    | cons _ _ => cases h
  · cases rest with
    | nil => obtain rfl := Option.some.inj h; exact ⟨rfl, rfl⟩
    | cons _ _ => cases h
  · rcases rest with _ | ⟨priority, _ | ⟨fh, _ | ⟨fl,
        _ | ⟨polarity, _ | ⟨watchdog, _ | ⟨filter, _ | ⟨sh, _ | ⟨sl, _ | _⟩⟩⟩⟩⟩⟩⟩⟩
    case cons.cons.cons.cons.cons.cons.cons.cons.nil =>
      obtain rfl := Option.some.inj h
      refine ⟨?_, rfl⟩
      simp only [requestBytes, recordBytes, halfBytes_toNat_append]
      rfl
    all_goals cases h
  · cases rest with
    | nil => obtain rfl := Option.some.inj h; exact ⟨rfl, rfl⟩
    | cons _ _ => cases h
  · rcases rest with _ | ⟨lo, _ | _⟩
    case cons.nil =>
      obtain rfl := Option.some.inj h
      refine ⟨?_, rfl⟩
      simp only [requestBytes, halfBytes_toNat_append]
    all_goals cases h

theorem spells_of_requestOf {bytes : List Byte} {c : Instr} (h : requestOf bytes = some c) : Spells bytes c := by
  match bytes, h with
  | [], h => cases h
  | [n], h => exact ⟨(spells_of_one n c h).1, (spells_of_one n c h).2.symm⟩
  | a :: b :: rest, h =>
    by_cases ha : a ∈ argumentCodes
    · exact spells_argument ha h
    · rw [requestOf_of_no_argument a b rest ha] at h
      cases h

/-- The bytes of a record read back as it was (R192). -/
theorem requestOf_recordBytes (r : ConfigRecord) : requestOf (0x10 :: recordBytes r) = some (.configure r) := by
  simp only [recordBytes, halfBytes_toNat, List.cons_append, List.nil_append]
  show some (Instr.configure _) = _
  simp only [halfBytes_append]

/-- Settles O49: one way by the bytes of each request, the other by `spells_of_requestOf`, which gives the length too. -/
theorem requestBytesSpellTheirRequest : Obligations.RequestBytesSpellTheirRequest := by
  refine ⟨fun n => ⟨rfl, rfl, rfl, requestOf_unknown n⟩, fun r => ⟨requestOf_recordBytes r, rfl⟩, fun target => ?_,
    ⟨rfl, rfl, rfl, rfl, rfl, rfl, rfl⟩, fun bytes c h => (spells_of_requestOf h).1, ?_⟩
  · show some (Instr.demand _) = _
    rw [halfBytes_append]
  · intro begun bytes c d hprefix hd hc
    obtain ⟨_, hbegun⟩ := spells_of_requestOf hd
    obtain ⟨_, hbytes⟩ := spells_of_requestOf hc
    refine hprefix.eq_of_length ?_
    obtain ⟨rest, rfl⟩ := hprefix
    cases begun with
    | nil => cases hd
    | cons a begun => rw [hbegun, hbytes, List.cons_append, List.headD_cons, List.headD_cons]

end Sys2Proof.Machine
end

section
/-! PROOFS. One OSC_IN period, the tick and the lease clock (O6, O7, O8). -/

namespace Sys2Proof.Machine

variable {s : State}

/-! ## Bit boundaries -/

theorem BitClock.start_begun (b : BitClock) : b.Begun b.start := by
  unfold BitClock.start
  split
  · exact ⟨rfl, rfl, fun h => absurd h (by omega), fun _ => ⟨rfl, rfl⟩⟩
  · exact ⟨rfl, rfl, fun _ => ⟨rfl, rfl⟩, fun h => absurd h (by omega)⟩

theorem Transmitter.advance_sentOn (tx : Transmitter) : tx.SentOn tx.advance := by
  refine ⟨?_, ?_, ?_, ?_, ?_⟩
  · rintro rfl
    rfl
  · rintro a rfl hs
    simp [Transmitter.advance, hs]
  · rintro a rfl hs hlt
    simp [Transmitter.advance, hs, show a.sent < a.read from hlt]
  · rintro a rfl hs hle
    simp [Transmitter.advance, hs, show ¬a.sent < a.read from Nat.not_lt.2 hle]
  · rintro a start rfl
    rfl

theorem LineInterface.period_within {l : LineInterface} (h : l.bits.pos + 1 < l.bits.length) :
    l.period = { l with bits := { l.bits with pos := l.bits.pos + 1 } } := if_neg (by omega)

theorem LineInterface.period_boundary {l : LineInterface} (h : l.bits.length ≤ l.bits.pos + 1) :
    l.period = { l with bits := l.bits.start, tx := l.tx.advance } := if_pos h

/-! ## One block takes the tick -/

theorem takeTick_due {b : TickBlock} (h : s.time.tickDue.contains b = true) :
    takeTick b s = blockTick b { s with time := { s.time with tickDue := s.time.tickDue.erase b } } := if_pos h

/-- What the Time Base counts, whatever ticks are still due at the blocks. -/
theorem TimeBase.tick_due (ls : Nat) (t : TimeBase) (due : List TickBlock) :
    { t with tickDue := due }.tick ls = { t.tick ls with tickDue := due } := by
  unfold TimeBase.tick TimeBase.leaseTick
  dsimp only
  split
  · rfl
  split <;> rfl

/-- The tick at a block, its taking noted last. -/
theorem blockTick_due (b : TickBlock) (s : State) (due : List TickBlock) :
    blockTick b { s with time := { s.time with tickDue := due } }
      = { blockTick b s with time := { (blockTick b s).time with tickDue := due } } := by
  cases b
  case shareTable => rfl
  case allocation => rfl
  case timeBase => simp only [blockTick, TimeBase.tick_due]

theorem blockTick_comm (a b : TickBlock) (s : State) : blockTick a (blockTick b s) = blockTick b (blockTick a s) := by
  cases a <;> cases b <;> rfl

/-- The blocks take their ticks in any order (R137). -/
theorem takeTick_comm (a b : TickBlock) (s : State) : takeTick a (takeTick b s) = takeTick b (takeTick a s) := by
  by_cases hab : a = b
  · rw [hab]
  by_cases ha : s.time.tickDue.contains a = true
  · by_cases hb : s.time.tickDue.contains b = true
    · have after : ∀ c d : TickBlock, c ≠ d → s.time.tickDue.contains c = true → s.time.tickDue.contains d = true →
          takeTick c (takeTick d s) = { blockTick c (blockTick d s) with
            time := { (blockTick c (blockTick d s)).time with tickDue := (s.time.tickDue.erase d).erase c } } := by
        intro c d hcd hc hd
        have still : (takeTick d s).time.tickDue.contains c = true := by
          rw [takeTick_tickDue]
          simpa [List.mem_erase_of_ne hcd] using hc
        rw [takeTick_due still, takeTick_tickDue, takeTick_due hd, blockTick_due d, ← blockTick_due c]
      rw [after a b hab ha hb, after b a (Ne.symm hab) hb ha, blockTick_comm, List.erase_comm]
    · have none : (takeTick a s).time.tickDue.contains b = false := by
        rw [takeTick_tickDue]
        simpa [List.mem_erase_of_ne (Ne.symm hab)] using hb
      rw [takeTick_none b s (by simpa using hb), takeTick_none b _ none]
  · have none : (takeTick b s).time.tickDue.contains a = false := by
      rw [takeTick_tickDue]
      simpa [List.mem_erase_of_ne hab] using ha
    rw [takeTick_none a s (by simpa using ha), takeTick_none a _ none]

theorem takeTick_again {b : TickBlock} (h : s.time.tickDue.Nodup) : takeTick b (takeTick b s) = takeTick b s := by
  refine takeTick_none b _ ?_
  rw [takeTick_tickDue]
  simpa using h.not_mem_erase

/-- Blocks that have taken their tick take no second one. -/
theorem takeTicks_all_again (h : s.time.tickDue.Nodup) :
    takeTicks TickBlock.all (takeTicks TickBlock.all s) = takeTicks TickBlock.all s := by
  have due : ∀ {u : State} (b : TickBlock), u.time.tickDue.Nodup → (takeTick b u).time.tickDue.Nodup := by
    intro u b hu
    rw [takeTick_tickDue]
    exact hu.erase b
  show takeTick .timeBase (takeTick .allocation (takeTick .shareTable
    (takeTick .timeBase (takeTick .allocation (takeTick .shareTable s))))) = _
  rw [takeTick_comm .shareTable .timeBase, takeTick_comm .shareTable .allocation, takeTick_again h,
    takeTick_comm .allocation .timeBase, takeTick_again (due _ h), takeTick_again (due _ (due _ h))]
  rfl

/-- Each entry counts by itself at the Share Table's tick. -/
theorem entryAt_takeTick (b : TickBlock) (s : State) (i : Nat) :
    entryAt (takeTick b s) i = entryAt s i ∨ entryAt (takeTick b s) i = (entryAt s i).tick := by
  unfold takeTick
  split
  · cases b
    case shareTable =>
      refine .inr ?_
      simp only [blockTick, entryAt, List.getElem?_map]
      cases s.table.entries[i]? <;> rfl
    case allocation => exact .inl rfl
    case timeBase => exact .inl rfl
  · exact .inl rfl

theorem Entry.tick_keeps (e : Entry) :
    e.tick.stored = e.stored ∧ e.tick.parityGood = e.parityGood ∧ e.tick.suspect = e.suspect ∧ e.tick.age = e.age := by
  unfold Entry.tick
  split <;> exact ⟨rfl, rfl, rfl, rfl⟩

/-- A tick leaves an entry's stored part, its parity, SUSPECT and its age. -/
theorem entryAt_takeTicks (blocks : List TickBlock) (s : State) (i : Nat) :
    (entryAt (takeTicks blocks s) i).stored = (entryAt s i).stored
      ∧ (entryAt (takeTicks blocks s) i).parityGood = (entryAt s i).parityGood
      ∧ (entryAt (takeTicks blocks s) i).suspect = (entryAt s i).suspect
      ∧ (entryAt (takeTicks blocks s) i).age = (entryAt s i).age := by
  induction blocks generalizing s with
  | nil => exact ⟨rfl, rfl, rfl, rfl⟩
  | cons b blocks ih =>
    obtain ⟨stored, parity, suspect, age⟩ := ih (takeTick b s)
    have one : (entryAt (takeTick b s) i).stored = (entryAt s i).stored
        ∧ (entryAt (takeTick b s) i).parityGood = (entryAt s i).parityGood
        ∧ (entryAt (takeTick b s) i).suspect = (entryAt s i).suspect
            ∧ (entryAt (takeTick b s) i).age = (entryAt s i).age := by
      rcases entryAt_takeTick b s i with h | h <;> rw [h]
      · exact ⟨rfl, rfl, rfl, rfl⟩
      · exact Entry.tick_keeps _
    exact ⟨stored.trans one.1, parity.trans one.2.1, suspect.trans one.2.2.1, age.trans one.2.2.2⟩

theorem length_takeTicks (blocks : List TickBlock) (s : State) :
    (takeTicks blocks s).table.entries.length = s.table.entries.length := by
  refine foldl_keeps (fun s => s.table.entries.length) _ (fun s b => ?_) blocks s
  unfold takeTick
  split
  · cases b <;> simp [blockTick]
  · rfl

theorem entryAt_modEntry (i : Nat) (f : Entry → Entry) (s : State) (j : Nat) :
    entryAt (modEntry i f s) j = if j = i ∧ i < s.table.entries.length then f (entryAt s j) else entryAt s j := by
  unfold entryAt
  rw [modEntry_entries, List.getElem?_modify]
  by_cases hij : i = j
  · subst hij
    by_cases hl : i < s.table.entries.length <;> simp [hl]
  · simp [hij, Ne.symm hij]

/-! ## The tick -/

theorem tick_of_reset (event : TickEvent) (h : s.mc.station = .reset) : tick event s = s := if_pos h

theorem tick_issued (upsets : List Upset) (blocks : List TickBlock) (h : s.mc.station ≠ .reset) :
    tick (.issued upsets blocks) s = takeTicks blocks (issueTick (upsetAll upsets (takeTicks TickBlock.all s))) := if_neg h

theorem tick_taken (blocks : List TickBlock) (h : s.mc.station ≠ .reset) :
    tick (.taken blocks) s = takeTicks blocks s := if_neg h

theorem takeTicks_of_none (blocks : List TickBlock) (h : s.time.tickDue = []) : takeTicks blocks s = s := by
  have none : ∀ b, takeTick b s = s := fun b => takeTick_none b s (by simp [h])
  induction blocks with
  | nil => rfl
  | cons b blocks ih => rw [takeTicks, List.foldl_cons, none]; exact ih

theorem takeTicks_cons (b : TickBlock) (blocks : List TickBlock) (s : State) :
    takeTicks (b :: blocks) s = takeTicks blocks (takeTick b s) := rfl

theorem issued_upset (u : Upset) (blocks : List TickBlock) (hs : s.mc.station ≠ .reset) (hpeer : isPeer s u.station = true)
    (hlen : s.table.entries.length = 24) :
    (entryAt (tick (.issued [u] blocks) s) u.station).stored = u.stored
      ∧ (entryAt (tick (.issued [u] blocks) s) u.station).parityGood = false
      ∧ (entryAt (tick (.issued [u] blocks) s) u.station).suspect = (entryAt s u.station).suspect
      ∧ (entryAt (tick (.issued [u] blocks) s) u.station).age = (entryAt s u.station).age := by
  rw [tick_issued _ _ hs]
  obtain ⟨stored, parity, suspect, age⟩ :=
    entryAt_takeTicks blocks (issueTick (upsetAll [u] (takeTicks TickBlock.all s))) u.station
  obtain ⟨_, _, suspect', age'⟩ := entryAt_takeTicks TickBlock.all s u.station
  have peer : isPeer (takeTicks TickBlock.all s) u.station = true := by simpa [isPeer] using hpeer
  have fits : u.station.val < (takeTicks TickBlock.all s).table.entries.length := by
    rw [length_takeTicks, hlen]
    exact u.station.isLt
  have written : entryAt (issueTick (upsetAll [u] (takeTicks TickBlock.all s))) u.station
      = { entryAt (takeTicks TickBlock.all s) u.station with stored := u.stored, parityGood := false } := by
    show entryAt (upset u (takeTicks TickBlock.all s)) u.station = _
    rw [upset, if_pos peer, entryAt_modEntry, if_pos ⟨rfl, fits⟩]
  rw [stored, parity, suspect, age, written]
  exact ⟨rfl, rfl, suspect', age'⟩

/-- Settles O6: each block's counts by its own case of `blockTick`, the order of the blocks by `takeTick_comm`. -/
theorem tickLowersEveryCount : Obligations.TickLowersEveryCount := by
  have taken : ∀ (b : TickBlock) (s : State), s.mc.station ≠ .reset → tick (.taken [b]) s = takeTick b s :=
    fun b s hs => tick_taken [b] hs
  refine ⟨fun s hs hdue => ?_, fun s hs hdue => ?_, fun s hs hdue => ?_, fun s hs hdue => ?_, fun b s hnone => ?_,
    fun b blocks s => ⟨_, rfl, ?_⟩, fun a b s => ?_, fun blocks s hs => ⟨_, rfl, ?_⟩,
        fun upsets blocks s hnodup => ⟨_, rfl, ?_⟩,
    fun event s hs => congrArg Host.Outcome.next (tick_of_reset event hs),
    fun u blocks s hs hpeer hlen => ⟨_, rfl, issued_upset u blocks hs hpeer hlen⟩⟩
  · refine congrArg Host.Outcome.next ?_
    rw [tick_issued _ _ hs, takeTicks_of_none _ hdue]
    rfl
  · exact congrArg Host.Outcome.next ((taken _ s hs).trans (takeTick_due hdue))
  · exact congrArg Host.Outcome.next ((taken _ s hs).trans (takeTick_due hdue))
  · refine ⟨_, congrArg Host.Outcome.next ((taken _ s hs).trans (takeTick_due hdue)), ?_, rfl⟩
    simp only [blockTick, TimeBase.tick_due]
    unfold TimeBase.tick Watchdog.tick TimeBase.leaseTick
    split
    · rfl
    split <;> rfl
  · refine congrArg Host.Outcome.next ?_
    by_cases hs : s.mc.station = .reset
    · exact tick_of_reset _ hs
    · rw [taken b s hs, takeTick_none b s hnone]
  · refine congrArg Host.Outcome.next ?_
    by_cases hs : s.mc.station = .reset
    · rw [tick_of_reset _ hs, tick_of_reset _ hs, tick_of_reset _ hs]
    · rw [taken b s hs, tick_taken _ hs, tick_taken _ (by simpa using hs), takeTicks_cons]
  · refine congrArg Host.Outcome.next ?_
    by_cases hs : s.mc.station = .reset
    · rw [tick_of_reset _ hs, tick_of_reset _ hs]
    · rw [tick_taken _ hs, tick_taken _ hs]
      exact takeTick_comm b a s
  · refine congrArg Host.Outcome.next ?_
    rw [tick_issued _ _ hs, tick_issued _ _ hs, tick_taken _ (by simpa using hs)]
    rfl
  · refine congrArg Host.Outcome.next ?_
    by_cases hs : s.mc.station = .reset
    · rw [tick_of_reset (.issued upsets blocks) hs, tick_of_reset (.taken _) hs, tick_of_reset _ hs]
    · rw [tick_taken _ hs, tick_issued _ _ hs, tick_issued _ _ (by simpa using hs)]
      exact congrArg _ (congrArg _ (congrArg _ (takeTicks_all_again hnodup).symm))

/-! ## The lease clock -/

/-- A tick that every block takes at once (R136, R137). -/
theorem tick_all_eq (hs : s.mc.station ≠ .reset) (hdue : s.time.tickDue = []) :
    tick (.issued [] TickBlock.all) s
      = blockTick .timeBase (blockTick .allocation (blockTick .shareTable
          { s with
            time := { s.time with tickDivider := 0, tickDue := [] }
            pilot := { s.pilot with periodDue := s.pilot.periodDue + 1 } })) := by
  rw [tick_issued _ _ hs, takeTicks_of_none _ hdue]
  show takeTick .timeBase (takeTick .allocation (takeTick .shareTable (issueTick s))) = _
  rw [takeTick_due (s := issueTick s) rfl, takeTick_due (b := .allocation) rfl, takeTick_due (b := .timeBase) rfl]
  rfl

/-- The Time Base after it (R139, R140, R142). -/
theorem tick_issued_time (hs : s.mc.station ≠ .reset) (hdue : s.time.tickDue = []) :
    (tick (.issued [] TickBlock.all) s).time
      = { s.time.tick s.mc.identity.leaseSelect with tickDivider := 0, tickDue := [] } := by
  rw [tick_all_eq hs hdue]
  simp only [blockTick]
  unfold TimeBase.tick TimeBase.leaseTick
  dsimp only
  split
  · rfl
  split <;> rfl

theorem afterTicks_succ (n : Nat) (s : State) :
    afterTicks (n + 1) s = tick (.issued [] TickBlock.all) (afterTicks n s) := rfl

theorem afterTicks_mc (n : Nat) (s : State) : (afterTicks n s).mc = s.mc := by
  induction n with
  | zero => rfl
  | succ n ih =>
    have kept : ∀ u : State, (tick (.issued [] TickBlock.all) u).mc = u.mc := by
      intro u
      by_cases hu : u.mc.station = .reset
      · rw [tick_of_reset _ hu]
      · rw [tick_issued _ _ hu]
        simp
    rw [afterTicks_succ, kept, ih]

/-- The lease clock one tick on, in a period of `100 * k` ticks (R140). -/
theorem leaseTick_eq {ls k : Nat} (t : TimeBase) (hk : postscalerCount ls = k) (hmatch : t.leaseMatch < 100)
    (hcount : t.leaseMatch + 100 * t.leasePost < 100 * k) :
    (t.leaseTick ls).leaseMatch + 100 * (t.leaseTick ls).leasePost = (t.leaseMatch + 100 * t.leasePost + 1) % (100 * k)
      ∧ (t.leaseTick ls).leaseMatch < 100
      ∧ (t.leaseTick ls).boundaryDue
        = if t.leaseMatch + 100 * t.leasePost + 1 = 100 * k then t.boundaryDue ++ Block.all else t.boundaryDue := by
  unfold TimeBase.leaseTick
  rw [hk]
  split
  · rename_i hlow
    rw [if_neg (by omega), Nat.mod_eq_of_lt (by omega)]
    exact ⟨by dsimp only; omega, hlow, rfl⟩
  · split
    · rw [if_neg (by omega), Nat.mod_eq_of_lt (by omega)]
      exact ⟨by dsimp only; omega, Nat.zero_lt_succ 99, rfl⟩
    · have last : t.leaseMatch + 100 * t.leasePost + 1 = 100 * k := by omega
      rw [if_pos last, last, Nat.mod_self]
      exact ⟨rfl, Nat.zero_lt_succ 99, rfl⟩

/-- What `n` whole ticks leave (R139, R140). -/
theorem afterTicks_time {k : Nat} (hs : s.mc.station ≠ .reset) (hdue : s.time.tickDue = []) (hmatch : s.time.leaseMatch = 0)
    (hpost : s.time.leasePost = 0) (hk : postscalerCount s.mc.identity.leaseSelect = k) (hpos : 1 ≤ k) (n : Nat) :
    (afterTicks n s).time.tickDue = []
      ∧ (afterTicks n s).time.leaseMatch + 100 * (afterTicks n s).time.leasePost = n % (100 * k)
      ∧ (afterTicks n s).time.leaseMatch < 100 ∧ (afterTicks n s).time.ms = s.time.ms + BitVec.ofNat 16 n := by
  induction n with
  | zero => exact ⟨hdue, by simp [afterTicks, hmatch, hpost], by simp [afterTicks, hmatch], by simp [afterTicks]⟩
  | succ n ih =>
    obtain ⟨due, count, low, ms⟩ := ih
    have running : (afterTicks n s).mc.station ≠ .reset := by rwa [afterTicks_mc]
    have time := tick_issued_time running due
    rw [afterTicks_mc] at time
    obtain ⟨count', low', _⟩ := leaseTick_eq (afterTicks n s).time hk low (by
      rw [count]
      exact Nat.mod_lt _ (by omega))
    rw [afterTicks_succ, time]
    refine ⟨rfl, ?_, low', ?_⟩
    · rw [count, Nat.mod_add_mod] at count'
      exact count'
    · show (afterTicks n s).time.ms + 1 = _
      rw [ms, BitVec.add_assoc, BitVec.ofNat_add]
      rfl

/-- Settles O7: by induction on the ticks, the lease period as 100 times the postscaler count. -/
theorem leaseBoundaryFallsEveryLeasePeriod : Obligations.LeaseBoundaryFallsEveryLeasePeriod := by
  intro n per s hs hdue hmatch hpost hper
  obtain ⟨k, hk, hpos, rfl⟩ : ∃ k, postscalerCount s.mc.identity.leaseSelect = k ∧ 1 ≤ k ∧ per = 100 * k := by
    rcases hper with ⟨h, rfl⟩ | ⟨h, rfl⟩ | ⟨h, rfl⟩ | ⟨h, rfl⟩ <;> rw [h] <;> exact ⟨_, rfl, by decide, rfl⟩
  obtain ⟨due, count, low, ms⟩ := afterTicks_time hs hdue hmatch hpost hk hpos n
  have running : (afterTicks n s).mc.station ≠ .reset := by rwa [afterTicks_mc]
  have time := tick_issued_time running due
  rw [afterTicks_mc] at time
  have below : n % (100 * k) < 100 * k := Nat.mod_lt _ (by omega)
  obtain ⟨_, _, boundary⟩ := leaseTick_eq (afterTicks n s).time hk low (by rw [count]; exact below)
  rw [count] at boundary
  have whole : (n + 1) % (100 * k) = 0 ↔ n % (100 * k) + 1 = 100 * k := by
    rw [← Nat.mod_add_mod]
    constructor
    · intro hzero
      by_contra hne
      rw [Nat.mod_eq_of_lt (by omega)] at hzero
      omega
    · intro heq
      rw [heq, Nat.mod_self]
  have next : (afterTicks (n + 1) s).time.boundaryDue
      = ((afterTicks n s).time.leaseTick s.mc.identity.leaseSelect).boundaryDue := by
    rw [afterTicks_succ, time]
    rfl
  refine ⟨count, low, ms, fun hzero => ?_, fun hne => ?_⟩
  · rw [next, boundary, if_pos (whole.1 hzero)]
    rfl
  · rw [next, boundary, if_neg fun heq => hne (whole.2 heq)]

/-! ## One OSC_IN period -/

/-- The line one OSC_IN period on (R100, R112). -/
theorem LineInterface.period_cases (l : LineInterface) :
    (l.bits.pos + 1 < l.bits.length → l.period = { l with bits := { l.bits with pos := l.bits.pos + 1 } })
      ∧ (l.bits.length ≤ l.bits.pos + 1 →
        l.bits.Begun l.period.bits ∧ l.tx.SentOn l.period.tx ∧ { l.period with bits := l.bits, tx := l.tx } = l) := by
  refine ⟨LineInterface.period_within, fun h => ?_⟩
  rw [LineInterface.period_boundary h]
  exact ⟨l.bits.start_begun, l.tx.advance_sentOn, rfl⟩

/-- Settles O8: the line by `LineInterface.period_cases`, a period that brings a tick by the three blocks' taking of it. -/
theorem idleStepIsOneOscillatorPeriod : Obligations.IdleStepIsOneOscillatorPeriod := by
  refine ⟨fun s hp hs hdiv => ?_, fun s hp hs hdiv => ?_, fun s hp hs => ?_⟩
  · obtain ⟨within, boundary⟩ := s.line.period_cases
    refine ⟨_, step_nil hp, ?_⟩
    rw [oscPeriod, if_neg hs, if_neg (by simp only [Config.tickPeriods]; omega)]
    exact ⟨rfl, rfl, within, boundary, rfl⟩
  · obtain ⟨within, boundary⟩ := s.line.period_cases
    have running : (runningPeriod s).mc.station ≠ .reset := hs
    have period : oscPeriod s = tick (.issued [] TickBlock.all) (runningPeriod s) := by
      rw [oscPeriod, if_neg hs, if_pos (by simp only [Config.tickPeriods]; omega)]
    refine ⟨s.line.period, within, boundary, (step_nil hp).trans (congrArg Host.Outcome.next period), fun hdue => ?_⟩
    refine ⟨_, step_nil hp, ?_⟩
    rw [period]
    have time := tick_issued_time running hdue
    have whole := tick_all_eq running hdue
    refine ⟨by rw [whole]; rfl, by rw [whole]; rfl, by rw [whole]; rfl, by rw [whole]; rfl, ?_, by rw [whole]; rfl,
      by rw [whole]; rfl⟩
    rw [time]
    unfold TimeBase.tick TimeBase.leaseTick
    dsimp only
    split
    · rfl
    split <;> rfl
  · refine ⟨_, step_nil hp, ?_⟩
    rw [oscPeriod, if_pos hs]
    obtain ⟨within, boundary⟩ := s.line.period_cases
    by_cases htx : s.line.tx = .none
    · have still : (resetPeriod s).line = s.line := if_pos htx
      exact ⟨rfl, rfl, by rw [still], fun _ => still, fun h => absurd htx h, fun h => absurd htx h⟩
    · have moves : (resetPeriod s).line = s.line.period.release := if_neg htx
      have release : ∀ l : LineInterface, l.release.tx = if l.tx.over then .none else l.tx := by
        intro l
        unfold LineInterface.release
        split <;> rfl
      have kept : { s.line.period.release with bits := s.line.bits, tx := s.line.tx } = s.line := by
        rw [LineInterface.mk.injEq]
        simp
      refine ⟨rfl, rfl, by rw [moves]; exact kept, fun h => absurd h htx, fun _ hlt => ?_, fun _ hle => ?_⟩
      · rw [moves, release, (LineInterface.release_keeps _).2.2.1, within hlt]
        exact ⟨rfl, rfl⟩
      · obtain ⟨begun, sent, _⟩ := boundary hle
        rw [moves, release, (LineInterface.release_keeps _).2.2.1]
        exact ⟨begun, _, sent, rfl⟩

end Sys2Proof.Machine
end

section
/-! PROOFS. What the end of an update leaves as it was, and what a change of station state leaves outside ACTIVE (R7,
R8, R27, R28,
R90). -/

namespace Sys2Proof.Machine

variable {s t u : State} {source : Option Nat}

/-! ## Steps that the records and the slots do not see -/

/-- From `s` to `t` only the kept sums, OVERCOMMIT and the Event Unit have changed. -/
structure Quiet (s t : State) : Prop where
  pins : t.pins = s.pins
  mc : t.mc = s.mc
  alloc : t.alloc = s.alloc
  outbox : t.outbox = s.outbox
  line : t.line = s.line
  time : t.time = s.time
  pilot : t.pilot = s.pilot
  port : t.port = s.port
  pending : t.pending = s.pending
  entries : t.table.entries = s.table.entries
  nextSnapshot : t.table.nextSnapshot = s.table.nextSnapshot

theorem Quiet.refl (s : State) : Quiet s s := ⟨rfl, rfl, rfl, rfl, rfl, rfl, rfl, rfl, rfl, rfl, rfl⟩

theorem Quiet.trans (h : Quiet s t) (h' : Quiet t u) : Quiet s u where
  pins := h'.pins.trans h.pins
  mc := h'.mc.trans h.mc
  alloc := h'.alloc.trans h.alloc
  outbox := h'.outbox.trans h.outbox
  line := h'.line.trans h.line
  time := h'.time.trans h.time
  pilot := h'.pilot.trans h.pilot
  port := h'.port.trans h.port
  pending := h'.pending.trans h.pending
  entries := h'.entries.trans h.entries
  nextSnapshot := h'.nextSnapshot.trans h.nextSnapshot

theorem Quiet.eq (h : Quiet s t) : { t with table := s.table, events := s.events } = s := by
  obtain ⟨pins, mc, alloc, outbox, line, time, pilot, port, pending, _, _⟩ := h
  rw [pins, mc, alloc, outbox, line, time, pilot, port, pending]

theorem raise_quiet (kind : EventKind) (station : Option Nat) (claim : Option Byte) (value : Option Half) (s : State) :
    Quiet s (raise kind station claim value s) := by constructor <;> simp

theorem setCondition_quiet (c : AlertCondition) (b : Bool) (s : State) : Quiet s (setCondition c b s) := by
  constructor <;> simp

theorem refreshSums_quiet (s : State) : Quiet s (refreshSums s) := by constructor <;> simp

theorem markOvercommit_quiet (b : Bool) (s : State) : Quiet s (markOvercommit b s) := by constructor <;> simp

theorem clearOvercommit_quiet (s : State) : Quiet s (clearOvercommit s) := by constructor <;> simp

theorem clearIfFits_quiet (s : State) : Quiet s (clearIfFits s) := by
  unfold clearIfFits
  split
  · exact clearOvercommit_quiet s
  · exact .refl s

/-! ## The end of an update -/

/-- Setting OVERCOMMIT finds nothing to do but to say so: no INCREASE claim, and nothing held above the floor in
ACTIVE (R92). -/
structure Unburdened (s : State) : Prop where
  claim : s.alloc.claim.any (fun c => c.kind == .increase) = false
  held : ¬(s.mc.station = .active ∧ s.alloc.share.floor < s.alloc.share.held)

theorem Unburdened.of_no_claim (hs : s.mc.station ≠ .active) (hc : s.alloc.claim = none) : Unburdened s :=
  ⟨by simp [hc], fun h => hs h.1⟩

theorem Unburdened.congr (h : Unburdened s) (q : Quiet s t) : Unburdened t := by
  obtain ⟨claim, held⟩ := h
  exact ⟨by rw [q.alloc]; exact claim, by rw [q.alloc, q.mc]; exact held⟩

theorem setOvercommit_quiet (source : Option Nat) (h : Unburdened s) : Quiet s (setOvercommit source s) := by
  have marked : Quiet s (raise .overcommitSet source none (some (valueOf s.table.sums.held)) (markOvercommit true s)) :=
    (markOvercommit_quiet true s).trans (raise_quiet _ _ _ _ _)
  obtain ⟨claim, held⟩ := h.congr marked
  unfold setOvercommit
  rw [abandonIncrease, if_neg (by simp only [claim]; exact Bool.false_ne_true), cutToFloor, if_neg held]
  exact marked.trans ((refreshSums_quiet _).trans (clearIfFits_quiet _))

theorem settleOvercommit_quiet (source : Option Nat)
    (h : capacity s < s.table.sums.held → s.table.overcommit = false → Unburdened s) :
        Quiet s (settleOvercommit source s) := by
  unfold settleOvercommit
  split
  · rename_i hset
    exact setOvercommit_quiet source (h hset.1 hset.2)
  · split
    · exact clearOvercommit_quiet s
    · exact .refl s

/-- What the recomputation of OVERCOMMIT finds at the end of an update. -/
def summed (s : State) : State := setCondition .suspectPresent (anySuspect s) (refreshSums s)

theorem settle_eq (source : Option Nat) (s : State) : settle source s = settleOvercommit source (summed s) := rfl

theorem summed_quiet (s : State) : Quiet s (summed s) := (refreshSums_quiet s).trans (setCondition_quiet _ _ _)

@[simp] theorem summed_held (s : State) : (summed s).table.sums.held = sumHeld s := by simp [summed, refreshSums, sumsNow]

@[simp] theorem summed_capacity (s : State) : capacity (summed s) = capacity s := by simp [summed, capacity]

@[simp] theorem summed_overcommit (s : State) : (summed s).table.overcommit = s.table.overcommit := by simp [summed]

/-- An update that sets OVERCOMMIT over nothing to abandon or to cut, or that does not set it, is quiet. -/
theorem settle_quiet (source : Option Nat) (h : capacity s < sumHeld s → s.table.overcommit = false → Unburdened s) :
    Quiet s (settle source s) := by
  rw [settle_eq]
  refine (summed_quiet s).trans (settleOvercommit_quiet source fun hset hclear => ?_)
  rw [summed_capacity, summed_held] at hset
  rw [summed_overcommit] at hclear
  exact (h hset hclear).congr (summed_quiet s)

theorem tryStart_of_not (h : mayStart s = false) : tryStart s = s := by
  simp [tryStart, h]

theorem mayStart_of_inactive (hs : s.mc.station ≠ .active) : mayStart s = false := by
  simp [mayStart, hs]

theorem endUpdate_of_inactive (source : Option Nat) (hs : s.mc.station ≠ .active) : endUpdate source s = settle source s :=
  tryStart_of_not (mayStart_of_inactive (by simpa using hs))

/-- Outside ACTIVE and without a claim an update is quiet. -/
theorem settle_quiet_of_no_claim (source : Option Nat) (hs : s.mc.station ≠ .active) (hc : s.alloc.claim = none) :
    Quiet s (settle source s) := settle_quiet source fun _ _ => .of_no_claim hs hc

theorem endUpdate_quiet_of_no_claim (source : Option Nat) (hs : s.mc.station ≠ .active) (hc : s.alloc.claim = none) :
    Quiet s (endUpdate source s) := by
  rw [endUpdate_of_inactive source hs]
  exact settle_quiet_of_no_claim source hs hc

/-! ## Changes of station state -/

/-- What a change of state settles: the entry actions before the end of the update. -/
def entered (new : StationState) (s : State) : State :=
  resolveReached (clearRetry new (keepFormer s (heldForState new (dropEarmarksLeaving s.mc.station new
    (discardSlots new (setStation new
      (raise .stateChanged none none (some (joined s.mc.station.code new.code)) (abandonOutside new s))))))))

theorem changeState_eq (new : StationState) (s : State) : changeState new s = settle none (entered new s) := rfl

@[simp] theorem entered_station (new : StationState) (s : State) : (entered new s).mc.station = new := by simp [entered]

theorem entered_alloc {new : StationState} (ha : new ≠ .active) :
    (entered new s).alloc = { (abandonOutside new s).alloc with share :=
        { (abandonOutside new s).alloc.share with held := 0 } } := by
  simp [entered, heldForState, ha, setHeld, recomputeDrive, setShare]

theorem entered_outbox (new : StationState) (s : State) :
    (entered new s).outbox = (discardSlots new (setStation new
      (raise .stateChanged none none (some (joined s.mc.station.code new.code)) (abandonOutside new s)))).outbox := by
  simp [entered]

theorem entered_pilot {new : StationState} (ha : new ≠ .active) (s : State) :
    (entered new s).pilot =
      { s.pilot with
        requested := 0, stateCopy := new
        former := if 0 < s.pilot.periodDue then some (s.pilot.requested, s.pilot.stateCopy) else none } := by
  simp [entered, keepFormer, heldForState, ha, setHeld, recomputeDrive, driveLevel, setStation]

theorem changeState_quiet {new : StationState} (ha : new ≠ .active) (hc : (abandonOutside new s).alloc.claim = none) :
    Quiet (entered new s) (changeState new s) :=
  settle_quiet_of_no_claim none (by simpa using ha) (by rw [entered_alloc ha]; exact hc)

theorem abandonOutside_claim {new : StationState} (ha : new ≠ .active) (hj : new = .joining → s.alloc.claim = none) :
    (abandonOutside new s).alloc.claim = none := by rw [abandonOutside_alloc ha hj]

end Sys2Proof.Machine
end

section
/-! PROOFS. The entry to RESET and reset end (O4, O5). -/

namespace Sys2Proof.Machine

variable {s t u : State} {source : Option Nat}

/-! ## The entry to RESET (R25, R115, R117) -/

theorem Attempt.read_le_of_live {a : Attempt} (h : a.live = true) :
    a.mismatch = false ∧ a.stopped = false ∧ a.taken < a.total := by
  simpa [Attempt.live, and_assoc, and_comm, and_left_comm] using h

theorem Attempt.over_of_live {a : Attempt} (h : a.live = true) : a.over = false := by simp [Attempt.over, h]

theorem intoReset_sending (a : Attempt) :
    Transmitter.intoReset (.sending a) =
      if a.over then .none else if a.live then .marking a a.markStart else .sending { a with stopped := true } := by
  simp only [Transmitter.intoReset, Transmitter.over, Transmitter.cut]
  by_cases hlive : a.live = true <;> simp [hlive, Transmitter.stop]

theorem intoReset_marking (a : Attempt) (start : Nat) :
    Transmitter.intoReset (.marking a start) = if a.total < a.sent then .none else .marking a start := by
  unfold Transmitter.intoReset Transmitter.over Transmitter.cut
  simp [Transmitter.stop]

theorem enterReset_entered (rstN : Bool) (internal : Nat) (s : State) :
    EnteredReset rstN internal s (enterReset rstN internal s) := by
  have tx : (enterReset rstN internal s).line.tx = s.line.tx.intoReset := rfl
  refine ⟨rfl, rfl, rfl, rfl, rfl, rfl, rfl, rfl, rfl, rfl, rfl, rfl, ?_, ?_, ?_, ?_, rfl, rfl⟩
  · intro a ha hlive
    simp [tx, ha, intoReset_sending, Attempt.over_of_live hlive, hlive]
  · intro a ha hlive hover
    simp [tx, ha, intoReset_sending, hover, hlive]
  · intro a start ha hin
    have : ¬a.total < a.sent := Nat.not_lt.2 hin
    simp [tx, ha, intoReset_marking, this]
  · intro hover
    simp [tx, Transmitter.intoReset, hover]

/-- Settles O4: every source of reset is `enterReset`. -/
theorem everySourceOfResetEntersReset : Obligations.EverySourceOfResetEntersReset := by
  refine ⟨fun s => ⟨_, rfl, enterReset_entered _ _ s⟩, fun s => ⟨_, rfl, enterReset_entered _ _ s⟩,
      fun s shifted hr hsel hresp hend => ?_⟩
  refine ⟨_, ?_, enterReset_entered s.pins.rstN 4096 (setSelect true s)⟩
  have : transactionEnd shifted s = enterReset s.pins.rstN 4096 (setSelect true s) := by
    simp [transactionEnd, hsel, endTransaction, hr, hresp, endResponse, hend, setSelect, Config.tickPeriods]
  exact congrArg Host.Outcome.next this

/-! ## Reset end (R26, R27, R174) -/

theorem strapsHigh_eq (p : Straps) :
    [p.sn.getLsbD 4, p.sn.getLsbD 3, p.sn.getLsbD 2, p.sn.getLsbD 1, p.sn.getLsbD 0, p.snp].countP id = strapsHigh p := by
  have one (b : Bool) : (if id b = true then 1 else 0) = b.toNat := by cases b <;> rfl
  simp only [strapsHigh, List.countP_cons, List.countP_nil, one]
  omega

theorem sumHeld_of_none_valid (h : ∀ e ∈ views s, e.valid = false) : sumHeld s = 0 := by
  refine List.sum_eq_zero fun n hn => ?_
  obtain ⟨e, he, rfl⟩ := List.mem_map.1 hn
  simp [h e he]

/-- The sums of a table without a valid and without a SUSPECT entry (R6). -/
theorem sumsNow_of_none_valid (hv : ∀ e ∈ views s, e.valid = false) (hs : ∀ e ∈ views s, e.suspect = false) :
    sumsNow s = { held := 0, earmark := 0, floor := 0, room := capacity s, valid := 0, suspect := 0 } := by
  have held := sumHeld_of_none_valid hv
  have earmark : sumEarmark s = 0 := by
    refine List.sum_eq_zero fun n hn => ?_
    obtain ⟨e, he, rfl⟩ := List.mem_map.1 hn
    simp [Entry.earmarked, hv e he]
  have floor : sumFloor s = 0 := by
    refine List.sum_eq_zero fun n hn => ?_
    obtain ⟨e, he, rfl⟩ := List.mem_map.1 hn
    simp [hv e he]
  have valid : validCount s = 0 := List.countP_eq_zero.2 fun e he => by simp [hv e he]
  have suspect : suspectCount s = 0 := List.countP_eq_zero.2 fun e he => by simp [hs e he]
  simp [sumsNow, room, held, earmark, floor, valid, suspect]

/-- An update that leaves OVERCOMMIT as it is does no more than recompute the sums and SUSPECT_PRESENT. -/
theorem settle_eq_summed (source : Option Nat) (h : s.table.overcommit = true ↔ capacity s < sumHeld s) :
    settle source s = summed s := by
  rw [settle_eq, settleOvercommit, if_neg, if_neg]
  · rw [summed_capacity, summed_held, summed_overcommit]
    rintro ⟨hfits, hset⟩
    exact absurd (h.1 hset) (Nat.not_lt.2 hfits)
  · rw [summed_capacity, summed_held, summed_overcommit]
    rintro ⟨hover, hclear⟩
    simp [h.2 hover] at hclear

/-- With nothing in a slot and no frame on its way there is nothing to discard. -/
theorem discardSlots_initial {new : StationState} (hnew : new = .offline ∨ new = .monitor) (ho : s.outbox = .initial)
    (hrx : s.line.rx = .hunting) (htx : s.line.tx = .none) (hin : s.line.inbox = []) : discardSlots new s = s := by
  obtain ⟨pins, mc, table, alloc, outbox, ⟨rx, idle, tx, bits, inbox⟩, time, pilot, events, port, pending⟩ := s
  obtain rfl : outbox = .initial := ho
  obtain rfl : rx = .hunting := hrx
  obtain rfl : tx = .none := htx
  obtain rfl : inbox = [] := hin
  rcases hnew with rfl | rfl <;> rfl

theorem dropEarmarksLeaving_of_inactive {old : StationState} (h : old ≠ .active) (new : StationState) (s : State) :
    dropEarmarksLeaving old new s = s := if_neg fun hold => h hold.1

theorem clearRetry_of_ne {new : StationState} (h : new ≠ .waiting) (s : State) : clearRetry new s = s := if_neg h

theorem resolveReached_of_not_taken (h : s.mc.request.taken = false) : resolveReached s = s := by simp [resolveReached, h]

theorem heldForState_of_ne {new : StationState} (h : new ≠ .active) (s : State) : heldForState new s = setHeld 0 s :=
    if_neg h

theorem abandonOutside_of_no_claim (new : StationState) (h : s.alloc.claim = none) : abandonOutside new s = s := by
  simp [abandonOutside, abandonClaim, h]

/-- What reset end settles, on a station at its reset values whose transmitter drives nothing. -/
theorem entered_latch (p : Straps) {new : StationState} (hnew : new = .offline ∨ new = .monitor) (hs : s.mc.station = .reset)
    (htx : s.line.tx = .none) (hlaw : ResetLaw s) :
    entered new (latch p (releaseRstN s)) =
      { s with
        pins := { s.pins with rstN := true }
        mc := { s.mc with station := new, identity := identityOf p }
        line := { s.line with bits := { acc := 48, length := 16, pos := 0, taken := false } }
        pilot := { PilotUnit.initial with stateCopy := new }
        port := { Port.initial with transaction := if s.pins.selN then .idle else .ignore }
        events :=
          { s.events with
            nextSeq := 1
            queue :=
              [{ seq := 0, kind := .stateChanged, station := none, claim := none
                 value := some (joined 0 new.code), time := 0, lossBefore := false }] } } := by
  obtain ⟨pins, mc, table, alloc, outbox, line, time, pilot, events, port, pending⟩ := s
  obtain ⟨rx, idle, tx, bits, inbox⟩ := line
  obtain ⟨rfl, rfl, rfl, rfl, rfl, rfl, rfl, rfl, rfl, rfl, rfl, _⟩ := hlaw hs
  obtain rfl : tx = .none := htx
  rcases hnew with rfl | rfl
  all_goals
    rw [entered, discardSlots_initial (by simp) rfl rfl rfl rfl, abandonOutside_of_no_claim _ rfl,
      dropEarmarksLeaving_of_inactive StationState.noConfusion, heldForState_of_ne (by decide), clearRetry_of_ne (by decide),
      resolveReached_of_not_taken rfl]
    rfl

theorem forall_views {P : Entry → Prop} (hpeer : ∀ i < 24, P (entryAt s i)) (hown : P (ownEntry s)) : ∀ e ∈ views s,
    P e := by
  intro e he
  obtain ⟨i, hi, rfl⟩ := List.mem_map.1 he
  unfold view
  split
  · exact hpeer i (List.mem_range.1 hi)
  · exact hown

theorem entryAt_initial (h : s.table.entries = ShareTable.initial.entries) {i : Nat} (hi : i < 24) :
    entryAt s i = Entry.empty := by
  have kept : (List.replicate 24 Entry.empty)[i]? = some Entry.empty := by rw [List.getElem?_replicate, if_pos hi]
  rw [entryAt, h, ShareTable.initial, kept]
  rfl

theorem summed_eq (s : State) :
    summed s =
      { s with
        table := { s.table with sums := sumsNow s }
        events := (setCondition .suspectPresent (anySuspect s) s).events } := by
  unfold summed refreshSums setCondition
  simp only

theorem setCondition_none (c : AlertCondition) (hactive : s.events.active = .empty) (hacked : s.events.acked = .empty) :
    (setCondition c false s).events = s.events := by
  have kept : AlertSet.put .empty c false = .empty := by cases c <;> rfl
  have active : s.events.active.put c false = s.events.active := by rw [hactive, kept]
  have acked : s.events.acked.put c false = s.events.acked := by rw [hacked, kept]
  simp [setCondition, active, acked]

/-- The update that recomputes the sums of a table with every entry as reset leaves it (R7). -/
theorem settle_of_entries_initial (source : Option Nat) (he : s.table.entries = ShareTable.initial.entries)
    (ha : s.mc.station ≠ .active) (hl : s.mc.station ≠ .leaving) (hclear : s.table.overcommit = false)
    (hactive : s.events.active = .empty) (hacked : s.events.acked = .empty) :
    settle source s =
      { s with
        table :=
          { s.table with
            sums := { held := 0, earmark := 0, floor := 0, room := capacity s, valid := 0, suspect := 0 } } } := by
  have own : (ownEntry s).stored.status = .absent := by simp [ownEntry, ha, hl]
  have valid : ∀ e ∈ views s, e.valid = false :=
    forall_views (fun i hi => by rw [entryAt_initial he hi]; rfl) (by simp [Entry.valid, own])
  have suspect : ∀ e ∈ views s, e.suspect = false :=
    forall_views (fun i hi => by rw [entryAt_initial he hi]; rfl) rfl
  have none_suspect : anySuspect s = false := by simpa [anySuspect] using suspect
  have sums := sumsNow_of_none_valid valid suspect
  rw [settle_eq_summed source (by simp [hclear, sumHeld_of_none_valid valid]), summed_eq, sums, none_suspect,
    setCondition_none _ hactive hacked]

/-- Reset end, with the reset values in place and nothing to hold it. -/
theorem resetEnd_eq (p : Straps) {new : StationState}
    (hnew : new = if (identityOf p).valid then StationState.offline else .monitor)
    (hs : s.mc.station = .reset) (hint : s.pins.internalReset = 0) (htx : s.line.tx = .none) (hlaw : ResetLaw s) :
    resetEnd p s =
      { s with
        pins := { s.pins with rstN := true }
        mc := { s.mc with station := new, identity := identityOf p }
        table :=
          { ShareTable.initial with
            sums := { held := 0, earmark := 0, floor := 0, room := 400 * (p.cc.toNat + 1), valid := 0, suspect := 0 } }
        line := { s.line with bits := { acc := 48, length := 16, pos := 0, taken := false } }
        pilot := { PilotUnit.initial with stateCopy := new }
        port := { Port.initial with transaction := if s.pins.selN then .idle else .ignore }
        events :=
          { s.events with
            nextSeq := 1
            queue :=
              [{ seq := 0, kind := .stateChanged, station := none, claim := none
                 value := some (joined 0 new.code), time := 0, lossBefore := false }] } } := by
  have two : new = .offline ∨ new = .monitor := by rw [hnew]; split <;> simp
  have effect : resetEnd p s = settle none (entered new (latch p (releaseRstN s))) := by
    rw [resetEnd, if_pos hs, if_pos (by simp [mayLeaveReset, hint, htx]), hnew]
    rfl
  obtain ⟨-, htable, -, -, -, -, hevents, -⟩ := hlaw hs
  rw [effect, entered_latch p two hs htx hlaw, settle_of_entries_initial]
  · simp [htable, capacity, identityOf]
  · rw [htable]
  · rcases two with rfl | rfl <;> simp
  · rcases two with rfl | rfl <;> simp
  · rw [htable]
    rfl
  · rw [hevents]
    rfl
  · rw [hevents]
    rfl

/-- Settles O5, by `resetEnd_eq`. -/
theorem resetEndLatchesTheStraps : Obligations.ResetEndLatchesTheStraps := by
  intro p s
  refine ⟨fun hs hint htx hlaw => ?_, fun hs hheld => ?_, fun hs => ?_⟩
  · obtain ⟨hmc, htable, halloc, houtbox, htime, hpilot, hevents, hport, hrest⟩ := hlaw hs
    have value : (joined 0 (if (identityOf p).valid then StationState.offline else StationState.monitor).code)
        = if (identityOf p).valid then 2 else 1 := by split <;> decide
    refine ⟨_, congrArg Host.Outcome.next (resetEnd_eq p rfl hs hint htx hlaw), rfl, rfl, rfl, ?_, rfl, rfl, ?_, ?_,
        ?_, rfl, rfl, rfl, rfl,
      rfl, rfl, rfl, rfl, rfl⟩
    · rw [strapsHigh_eq]
      simp [identityOf]
    · simp only [value]
    · simp [attnAsserted, hevents, EventUnit.initial, EventKind.cls, PerClass.get]
    · simp [alertAsserted, hevents, EventUnit.initial, AlertSet.empty, EventKind.cls, PerClass.get]
  · have stays : resetEnd p s = releaseRstN s := by
      rw [resetEnd, if_pos hs, if_neg]
      simpa [mayLeaveReset, imp_iff_not_or] using hheld
    exact congrArg Host.Outcome.next stays
  · exact congrArg Host.Outcome.next (if_neg hs)

end Sys2Proof.Machine
end

section
/-! PROOFS. The events of an update: the Event Unit but for its alert conditions. -/

namespace Sys2Proof.Machine

variable {s t u : State} {source : Option Nat}

/-! ## The Event Unit but for the alert conditions -/

/-- What the Event Unit holds but for the alert conditions. -/
def EventUnit.log (u : EventUnit) : EventUnit := { u with active := .empty, acked := .empty }

theorem EventUnit.of_log {u v : EventUnit} {a b : AlertSet} (h : u.log = v.log) (ha : v.active = a) (hb : v.acked = b) :
    { u with active := a, acked := b } = v := by
  obtain ⟨queue, nextSeq, filter, steering, active, acked, popping⟩ := u
  obtain ⟨queue', nextSeq', filter', steering', active', acked', popping'⟩ := v
  simp only [EventUnit.log, EventUnit.mk.injEq, true_and] at h
  subst ha hb
  obtain ⟨rfl, rfl, rfl, rfl, rfl⟩ := h
  rfl

theorem EventUnit.queue_of_log {u v : EventUnit} (h : u.log = v.log) : u.queue = v.queue := congrArg (·.queue) h

theorem EventUnit.nextSeq_of_log {u v : EventUnit} (h : u.log = v.log) : u.nextSeq = v.nextSeq := congrArg (·.nextSeq) h

section
variable (u : EventUnit) (kind : EventKind) (station : Option Nat) (claim : Option Byte) (value : Option Half)
    (time : Half) (b : Bool)
  (held : Option ClaimRecord) (reason : Nat)

@[simp] theorem EventUnit.take_conditions :
    (u.take kind station claim value time).active = u.active ∧ (u.take kind station claim value time).acked = u.acked := by
  unfold EventUnit.take
  split <;> exact ⟨rfl, rfl⟩

@[simp] theorem EventUnit.takeIf_conditions :
    (u.takeIf b kind station claim value time).active = u.active
        ∧ (u.takeIf b kind station claim value time).acked = u.acked := by
  unfold EventUnit.takeIf
  split <;> simp

@[simp] theorem EventUnit.takeAbandoned_conditions :
    (u.takeAbandoned held reason time).active = u.active ∧ (u.takeAbandoned held reason time).acked = u.acked := by
  unfold EventUnit.takeAbandoned
  split <;> simp

@[simp] theorem EventUnit.take_log : (u.take kind station claim value time).log
    = u.log.take kind station claim value time := by
  unfold EventUnit.take EventUnit.log
  dsimp only
  split <;> rfl

@[simp] theorem EventUnit.takeIf_log :
    (u.takeIf b kind station claim value time).log = u.log.takeIf b kind station claim value time := by
  unfold EventUnit.takeIf
  split <;> simp

@[simp] theorem EventUnit.takeAbandoned_log : (u.takeAbandoned held reason time).log
    = u.log.takeAbandoned held reason time := by
  unfold EventUnit.takeAbandoned
  split <;> simp

@[simp] theorem EventUnit.takeIf_true : u.takeIf true kind station claim value time
    = u.take kind station claim value time := rfl

@[simp] theorem EventUnit.takeIf_false : u.takeIf false kind station claim value time = u := rfl

@[simp] theorem EventUnit.takeAbandoned_none : u.takeAbandoned none reason time = u := rfl

@[simp] theorem EventUnit.log_log : u.log.log = u.log := rfl

end

@[simp] theorem raise_log (kind : EventKind) (station : Option Nat) (claim : Option Byte) (value : Option Half) (s : State) :
    (raise kind station claim value s).events.log = s.events.log.take kind station claim value s.time.ms := by
  simp [raise]

@[simp] theorem setCondition_log (c : AlertCondition) (b : Bool) (s : State) :
    (setCondition c b s).events.log = s.events.log := rfl

@[simp] theorem markOvercommit_log (b : Bool) (s : State) : (markOvercommit b s).events.log = s.events.log := rfl

@[simp] theorem summed_log (s : State) : (summed s).events.log = s.events.log := by simp [summed]

@[simp] theorem clearOvercommit_log (s : State) :
    (clearOvercommit s).events.log
      = s.events.log.take .overcommitClear none none (some (valueOf s.table.sums.held)) s.time.ms := by
  simp [clearOvercommit]

/-! ## The events of the operations that raise them -/

theorem joined_increase (reason : EndReason) :
    joined (claimKindCode .increase) reason.code = BitVec.ofNat 16 (256 * 1 + reason.code) := by cases reason <;> decide

theorem abandonClaim_log {c : ClaimRecord} (reason : EndReason) (hc : s.alloc.claim = some c) :
    (abandonClaim reason s).events.log =
      s.events.log.take .claimAbandoned none (some c.number)
          (some (joined (claimKindCode c.kind) reason.code)) s.time.ms := by
  simp [abandonClaim, hc]

theorem abandonIncrease_log (reason : EndReason) (s : State) :
    (abandonIncrease reason s).events.log =
      s.events.log.takeAbandoned (s.alloc.claim.filter (fun c => c.kind == .increase)) reason.code s.time.ms := by
  unfold abandonIncrease
  split
  · rename_i hany
    obtain ⟨c, hc, hk⟩ := (any_increase_iff _).1 hany
    have found : (some c).filter (fun c => c.kind == .increase) = some c := by simp [hk]
    rw [abandonClaim_log reason hc, hk, joined_increase, hc, found]
    rfl
  · rename_i hany
    have none : s.alloc.claim.filter (fun c => c.kind == .increase) = none := by
      cases hc : s.alloc.claim <;> simp_all
    rw [none]
    rfl

theorem lowerHeld_log (n : Nat) (s : State) :
    (lowerHeld n s).events.log = s.events.log.take .shareChanged none none (some (valueOf n)) s.time.ms := by
  simp [lowerHeld]

theorem cutToFloor_log (s : State) :
    (cutToFloor s).events.log =
      s.events.log.takeIf (s.mc.station == .active && decide
          (s.alloc.share.floor < s.alloc.share.held)) .shareChanged none none
        (some (valueOf s.alloc.share.floor)) s.time.ms := by
  unfold cutToFloor
  split
  · rename_i h
    rw [lowerHeld_log]
    simp [h.1, h.2]
  · rename_i h
    have clear : (s.mc.station == .active && decide (s.alloc.share.floor < s.alloc.share.held)) = false := by
      simpa [Bool.and_eq_false_iff, imp_iff_not_or] using h
    rw [clear]
    rfl

theorem clearIfFits_log (s : State) :
    (clearIfFits s).events.log =
      s.events.log.takeIf (decide (s.table.sums.held ≤ capacity s)) .overcommitClear none none
        (some (valueOf s.table.sums.held)) s.time.ms := by
  unfold clearIfFits
  split
  · rename_i h
    simp [h]
  · rename_i h
    simp [h]

/-! ## The update that sets OVERCOMMIT (R92) -/

/-- The own records once OVERCOMMIT is set: the own INCREASE claim abandoned, own held cut to the floor. -/
def cutBack (source : Option Nat) (s : State) : State :=
  cutToFloor (abandonIncrease .overcommit
    (raise .overcommitSet source none (some (valueOf s.table.sums.held)) (markOvercommit true s)))

theorem setOvercommit_eq (source : Option Nat) (s : State) :
    setOvercommit source s = clearIfFits (refreshSums (cutBack source s)) := rfl

theorem cutBack_log (source : Option Nat) (s : State) :
    (cutBack source s).events.log = (s.overcommitEvents source s.table.sums.held s.events).log := by
  rw [cutBack, cutToFloor_log, abandonIncrease_log]
  simp [State.overcommitEvents, EndReason.code]

theorem settle_of_exceeds (source : Option Nat) (hclear : s.table.overcommit = false) (h : capacity s < sumHeld s) :
    settle source s = clearIfFits (refreshSums (cutBack source (summed s))) := by
  rw [settle_eq, settleOvercommit, if_pos ⟨by rwa [summed_capacity, summed_held], by rwa [summed_overcommit]⟩,
      setOvercommit_eq]

theorem settle_of_fits (source : Option Nat) (hset : s.table.overcommit = true) (h : sumHeld s ≤ capacity s) :
    settle source s = clearOvercommit (summed s) := by
  rw [settle_eq, settleOvercommit, if_neg, if_pos ⟨by rwa [summed_capacity, summed_held], by rwa [summed_overcommit]⟩]
  rw [summed_overcommit, hset]
  rintro ⟨_, hclear⟩
  cases hclear

/-- The sum of held shares that the own cut leaves. -/
theorem settle_sumHeld_of_exceeds (source : Option Nat) (hclear : s.table.overcommit = false) (h : capacity s < sumHeld s) :
    sumHeld (settle source s) = sumHeld (cutBack source (summed s)) := by
  rw [settle_of_exceeds source hclear h]
  exact sumHeld_congr (by simp) (by simp) (by simp) (by simp)

theorem overcommitEvents_summed (source : Option Nat) (sum : Nat) (u : EventUnit) :
    (summed s).overcommitEvents source sum u = s.overcommitEvents source sum u := by
  simp [State.overcommitEvents, summed]

/-- The events of an update that sets OVERCOMMIT (R92, R93). -/
theorem settle_log_of_exceeds (source : Option Nat) (hclear : s.table.overcommit = false) (h : capacity s < sumHeld s) :
    (settle source s).events.log =
      ((s.overcommitEvents source (sumHeld s) s.events).takeIf
          (decide (sumHeld (settle source s) ≤ capacity s)) .overcommitClear
        none none (some (valueOf (sumHeld (settle source s)))) s.time.ms).log := by
  have cap : capacity (refreshSums (cutBack source (summed s))) = capacity s := capacity_congr (by simp [cutBack, summed])
  have sum : (refreshSums (cutBack source (summed s))).table.sums.held = sumHeld (cutBack source (summed s)) := rfl
  have ms : (refreshSums (cutBack source (summed s))).time.ms = s.time.ms := by simp [cutBack, summed]
  have log : (refreshSums (cutBack source (summed s))).events.log =
      (s.overcommitEvents source (sumHeld s) s.events).log := by
    have same : (refreshSums (cutBack source (summed s))).events = (cutBack source (summed s)).events := by simp
    rw [same, cutBack_log, overcommitEvents_summed, summed_held]
    simp [State.overcommitEvents]
  rw [settle_sumHeld_of_exceeds source hclear h, settle_of_exceeds source hclear h, clearIfFits_log, cap, sum, ms, log]
  simp

/-- The events of an update that does not set OVERCOMMIT (R93). -/
theorem settle_log_of_unset (source : Option Nat) (h : s.table.overcommit = true ∨ sumHeld s ≤ capacity s) :
    (settle source s).events.log =
      (s.events.takeIf (s.table.overcommit && decide (sumHeld s ≤ capacity s)) .overcommitClear none none
        (some (valueOf (sumHeld s))) s.time.ms).log := by
  by_cases hfits : s.table.overcommit = true ∧ sumHeld s ≤ capacity s
  · rw [settle_of_fits source hfits.1 hfits.2, clearOvercommit_log, summed_held, hfits.1]
    simp [hfits.2, summed]
  · rw [settle_eq_summed source (by
      constructor
      · exact fun hset => Nat.lt_of_not_le fun hle => hfits ⟨hset, hle⟩
      · exact fun hlt => h.resolve_right (Nat.not_le.2 hlt))]
    have clear : (s.table.overcommit && decide (sumHeld s ≤ capacity s)) = false := by
      simpa [Bool.and_eq_false_iff, imp_iff_not_or] using hfits
    rw [clear, summed_log]
    rfl

/-- An update that does not set OVERCOMMIT is quiet. -/
theorem settle_quiet_of_unset (source : Option Nat) (h : s.table.overcommit = true ∨ sumHeld s ≤ capacity s) :
    Quiet s (settle source s) :=
  settle_quiet source fun hlt hclear =>
    absurd (h.resolve_left (by simp [hclear])) (Nat.not_le.2 hlt)

end Sys2Proof.Machine
end

section
/-! PROOFS. The end of an update of the table (O18) and the start of a claim (O19). -/

namespace Sys2Proof.Machine

variable {s t u : State} {source : Option Nat}

/-! ## The start of a claim (R53) -/

/-- What the start conditions say of the entries. -/
theorem no_floor_earmark_iff (s : State) :
    (views s).any (·.carries .floor) = false ↔ ∀ e ∈ views s, ∀ m ∈ e.stored.earmark, m.kind ≠ .floor := by
  simp only [List.any_eq_false, Entry.carries, Option.any_eq_true, Option.mem_def, beq_iff_eq, not_exists, not_and, ne_eq]

theorem room_eq_of_sums (h : s.table.sums = sumsNow s) : s.table.sums.room = room s := by rw [h, sumsNow]

theorem anySuspect_eq_false (s : State) : anySuspect s = false ↔ ∀ e ∈ views s, e.suspect = false := by
  simp [anySuspect]

/-- The start conditions, over the kept room. -/
def StartConditions (s : State) (room : Nat) : Prop :=
  s.mc.station = .active ∧ s.alloc.share.held < s.alloc.share.demand ∧ s.alloc.claim = none
    ∧ s.table.overcommit = false ∧ (∀ e ∈ views s, e.suspect = false)
    ∧ (∀ e ∈ views s, ∀ m ∈ e.stored.earmark, m.kind ≠ .floor) ∧ s.alloc.share.backoff = none ∧ 1 ≤ room

theorem mayStart_iff_conditions (s : State) : mayStart s = true ↔ StartConditions s s.table.sums.room := by
  rw [mayStart_iff, anySuspect_eq_false, no_floor_earmark_iff]
  rfl

theorem tryStart_of_start (h : mayStart s = true) :
    tryStart s = refreshSums (openClaim .increase (min (s.alloc.share.demand - s.alloc.share.held) s.table.sums.room) s) :=
  if_pos h

theorem tryStart_of_claim {c : ClaimRecord} (hc : s.alloc.claim = some c) : tryStart s = s :=
  tryStart_of_not (by simp [mayStart, hc])

theorem tryStart_of_overcommit (h : s.table.overcommit = true) : tryStart s = s := tryStart_of_not (by simp [mayStart, h])

/-- The start of a claim changes its number counter alone in the own share record. -/
theorem tryStart_share (s : State) : ∃ n, (tryStart s).alloc.share = { s.alloc.share with claimCounter := n } := by
  unfold tryStart
  split
  · exact ⟨_, rfl⟩
  · exact ⟨s.alloc.share.claimCounter, rfl⟩

/-- A claim that an update starts is a fresh INCREASE claim for no more than the target asks. -/
theorem tryStart_claim (s : State) :
    (tryStart s).alloc.claim = s.alloc.claim
      ∨ mayStart s = true ∧ (tryStart s).alloc.claim = some
          (freshClaim .increase (s.alloc.share.claimCounter + 1)
            (min (s.alloc.share.demand - s.alloc.share.held) s.table.sums.room)) := by
  unfold tryStart
  split
  · exact .inr ⟨‹_›, rfl⟩
  · exact .inl rfl

@[simp] theorem tryStart_events (s : State) : (tryStart s).events = s.events := by
  unfold tryStart
  split <;> simp

/-- What holds of a started claim is no longer startable. -/
theorem not_mayStart_tryStart (s : State) : mayStart (tryStart s) = false := by
  by_cases h : mayStart s = true
  · rw [tryStart_of_start h]
    simp [mayStart, openClaim]
  · rw [tryStart_of_not (by simpa using h)]
    simpa using h

theorem tryStart_views (s : State) (hnone : (tryStart s).alloc.claim = none) : tryStart s = s := by
  by_cases h : mayStart s = true
  · rw [tryStart_of_start h] at hnone
    simp [openClaim] at hnone
  · exact tryStart_of_not (by simpa using h)

/-! ## The own records that an update cuts back (R92) -/

theorem cutToFloor_share_held (s : State) :
    (cutToFloor s).alloc.share.held =
      if s.mc.station = .active ∧ s.alloc.share.floor < s.alloc.share.held then s.alloc.share.floor else s.alloc.share.held := by
  unfold cutToFloor
  split <;> simp

@[simp] theorem cutBack_station (source : Option Nat) (s : State) : (cutBack source s).mc = s.mc := by simp [cutBack]

@[simp] theorem cutBack_entries (source : Option Nat) (s : State) : (cutBack source s).table.entries = s.table.entries := by
  simp [cutBack]

@[simp] theorem cutBack_overcommit (source : Option Nat) (s : State) : (cutBack source s).table.overcommit = true := by
  simp [cutBack]

@[simp] theorem cutBack_time (source : Option Nat) (s : State) : (cutBack source s).time = s.time := by simp [cutBack]

theorem cutBack_held (source : Option Nat) (s : State) :
    (cutBack source s).alloc.share.held =
      if s.mc.station = .active ∧ s.alloc.share.floor < s.alloc.share.held then s.alloc.share.floor else s.alloc.share.held := by
  simp [cutBack, cutToFloor_share_held]

/-- An INCREASE claim is abandoned and counted (R62, R64). -/
theorem cutBack_counts {c : ClaimRecord} (source : Option Nat) (hc : s.alloc.claim = some c) (hk : c.kind = .increase) :
    (cutBack source s).alloc.claim = none
      ∧ (cutBack source s).alloc.share.failures = min (s.alloc.share.failures + 1) 15
      ∧ (cutBack source s).alloc.share.backoff.isSome = true := by
  simp [cutBack, abandonIncrease, hc, hk, abandonClaim, countIf]

theorem settle_alloc_of_exceeds (source : Option Nat) (hclear : s.table.overcommit = false) (h : capacity s < sumHeld s) :
    (settle source s).alloc = (cutBack source (summed s)).alloc := by
  rw [settle_of_exceeds source hclear h]
  simp

theorem settle_held (source : Option Nat) (h : s.table.overcommit = true ∨ sumHeld s ≤ capacity s ∨ s.mc.station ≠ .active) :
    (settle source s).alloc.share.held = s.alloc.share.held := by
  by_cases hset : s.table.overcommit = false ∧ capacity s < sumHeld s
  · obtain ⟨hclear, hlt⟩ := hset
    have inactive : s.mc.station ≠ .active := (h.resolve_left (by simp [hclear])).resolve_left (Nat.not_le.2 hlt)
    rw [settle_alloc_of_exceeds source hclear hlt, cutBack_held, (summed_quiet s).mc, (summed_quiet s).alloc,
        if_neg fun h => inactive h.1]
  · rw [(settle_quiet_of_unset source ?_).alloc]
    rw [not_and_or, Bool.not_eq_false, Nat.not_lt] at hset
    exact hset

theorem tryStart_share_held (s : State) : (tryStart s).alloc.share.held = s.alloc.share.held := by
  obtain ⟨n, hn⟩ := tryStart_share s
  rw [hn]

theorem sumHeld_tryStart (s : State) : sumHeld (tryStart s) = sumHeld s :=
  sumHeld_congr (by simp) (by simp) (by simp) (tryStart_share_held s)

theorem sumHeld_endUpdate (source : Option Nat) (s : State) : sumHeld (endUpdate source s) = sumHeld (settle source s) :=
  sumHeld_tryStart _

theorem capacity_endUpdate (source : Option Nat) (s : State) : capacity (endUpdate source s) = capacity s :=
    capacity_congr (by simp)

/-- Setting and clearing OVERCOMMIT hand its alert condition over (R8). -/
theorem settle_condition (source : Option Nat) (h : s.events.active.overcommit = s.table.overcommit) :
    (settle source s).events.active.overcommit = (settle source s).table.overcommit := by
  have start : (summed s).events.active.overcommit = (summed s).table.overcommit := by
    simpa [summed, setCondition, AlertSet.put] using h
  have cleared (v : State) : (clearOvercommit v).events.active.overcommit = (clearOvercommit v).table.overcommit := by
    simp [clearOvercommit, markOvercommit, AlertSet.put]
  have set : (cutBack source (summed s)).events.active.overcommit = (cutBack source (summed s)).table.overcommit := by
    simp [cutBack, markOvercommit, AlertSet.put]
  rw [settle_eq, settleOvercommit]
  split
  · rw [setOvercommit_eq, clearIfFits]
    split
    · exact cleared _
    · simpa using set
  · split
    · exact cleared _
    · exact start

/-- The sum that an update leaves, where it does not set OVERCOMMIT. -/
theorem sumHeld_settle_of_unset (source : Option Nat) (h : s.table.overcommit = true ∨ sumHeld s ≤ capacity s) :
    sumHeld (settle source s) = sumHeld s := by
  have q := settle_quiet_of_unset source h
  exact sumHeld_congr (by rw [q.entries]) (by rw [q.mc]) (by rw [q.mc]) (by rw [q.alloc])

/-- Settles O18. -/
theorem endOfUpdateSettlesOvercommit : Obligations.EndOfUpdateSettlesOvercommit := by
  intro source s t ht
  rw [ht]
  obtain ⟨sums, overcommit, suspect⟩ := endUpdate_upToDate source s
  have kept := room_eq_of_sums sums
  rw [sumsNow] at sums
  refine ⟨sums, overcommit, fun h => ?_, suspect, ?_, fun h => ?_, ?_, ?_, by simp, ?_⟩
  · rw [endUpdate, tryStart_events, settle_condition source h]
    simp
  · rintro ⟨hclear, hlt, hs⟩
    have alloc := settle_alloc_of_exceeds source hclear hlt
    have quiet := summed_quiet s
    constructor
    · rw [endUpdate, tryStart_share_held, alloc, cutBack_held, quiet.mc, quiet.alloc]
      simp only [hs, true_and]
      split <;> omega
    · intro c hc hk
      obtain ⟨claim, failures, backoff⟩ := cutBack_counts (s := summed s) source (by rw [quiet.alloc]; exact hc) hk
      have not_started : endUpdate source s = settle source s := by
        refine tryStart_of_not ?_
        rw [Option.isSome_iff_ne_none] at backoff
        simp [mayStart, alloc, backoff]
      rw [not_started, alloc, claim, failures, quiet.alloc]
      exact ⟨rfl, rfl⟩
  · rw [endUpdate, tryStart_share_held, settle_held source h]
  · rintro ⟨hclear, hlt⟩
    refine EventUnit.of_log ?_ (by simp [State.overcommitEvents]) (by simp [State.overcommitEvents])
    rw [sumHeld_endUpdate, endUpdate, tryStart_events]
    exact settle_log_of_exceeds source hclear hlt
  · rintro ⟨hset, hle⟩
    refine EventUnit.of_log ?_ (by simp) (by simp)
    rw [endUpdate, tryStart_events, settle_log_of_unset source (.inl hset), hset]
    simp [hle]
  · have stopped : mayStart (endUpdate source s) = false := not_mayStart_tryStart (settle source s)
    intro conditions
    rw [← Bool.not_eq_true, mayStart_iff_conditions] at stopped
    rw [kept] at stopped
    exact stopped conditions

/-! ## Updates over an open claim, and the start by itself -/

/-- With a claim open at its end an update starts none: the claim stands, or its abandonment starts a backoff. -/
theorem endUpdate_of_claim {c : ClaimRecord} (source : Option Nat) (hc : s.alloc.claim = some c) :
    endUpdate source s = settle source s := by
  refine tryStart_of_not ?_
  by_cases hset : s.table.overcommit = false ∧ capacity s < sumHeld s
  · rw [← Bool.not_eq_true, mayStart_iff, settle_alloc_of_exceeds source hset.1 hset.2]
    rintro ⟨-, -, claim, -, -, -, backoff, -⟩
    have held : (summed s).alloc.claim = some c := by rw [(summed_quiet s).alloc, hc]
    by_cases hk : c.kind = .increase
    · have counted := (cutBack_counts source held hk).2.2
      rw [backoff] at counted
      cases counted
    · simp [cutBack, abandonIncrease, held, hk] at claim
  · rw [not_and_or, Bool.not_eq_false, Nat.not_lt] at hset
    simp [mayStart, (settle_quiet_of_unset source hset).alloc, hc]

theorem summed_views (s : State) : views (summed s) = views s := by rw [summed, setCondition_views, refreshSums_views]

@[simp] theorem summed_room (s : State) : (summed s).table.sums.room = room s := by simp [summed, refreshSums, sumsNow]

theorem mayStart_summed (s : State) : mayStart (summed s) = true ↔ StartConditions s (room s) := by
  rw [mayStart_iff_conditions, summed_room]
  simp only [StartConditions, summed_views, summed_overcommit, (summed_quiet s).alloc, (summed_quiet s).mc]

theorem refreshSums_refreshSums (s : State) : refreshSums (refreshSums s) = refreshSums s := by
  have same : sumsNow (refreshSums s) = sumsNow s := sumsNow_congr (refreshSums_views s) (capacity_congr (by simp))
  unfold refreshSums at same ⊢
  rw [same]

theorem settle_refreshSums (source : Option Nat) (s : State) : settle source (refreshSums s) = settle source s := by
  have suspect : anySuspect (refreshSums s) = anySuspect s := by rw [anySuspect, refreshSums_views, anySuspect]
  rw [settle, settle, refreshSums_refreshSums, suspect]

/-- A backoff is no part of what the table reads of the own records. -/
theorem setBackoff_views (b : Option Nat) (s : State) :
    views (setShare { s.alloc.share with backoff := b } s) = views s := by
  exact List.map_congr_left fun i _ => rfl

/-- The start conditions at the end of a backoff, over the room that the last update kept (R65). -/
theorem mayStart_noBackoff (s : State) :
    mayStart (setShare { s.alloc.share with backoff := none } s) = true ↔
      s.mc.station = .active ∧ s.alloc.share.held < s.alloc.share.demand ∧ s.alloc.claim = none ∧ s.table.overcommit = false
        ∧ (∀ e ∈ views s, e.suspect = false) ∧ (∀ e ∈ views s, ∀ m ∈ e.stored.earmark, m.kind ≠ .floor)
        ∧ 1 ≤ s.table.sums.room := by
  rw [mayStart_iff_conditions, StartConditions, setBackoff_views]
  simp [setShare]

/-- A claim started by itself ends as an update over the claim it has opened. -/
theorem startByItself_of_start (h : mayStart s = true) :
    startByItself s =
      endUpdate none (openClaim .increase (min (s.alloc.share.demand - s.alloc.share.held) s.table.sums.room) s) := by
  rw [startByItself, if_pos h, tryStart_of_start h, settle_refreshSums, endUpdate_of_claim none rfl]

/-- Settles O19. -/
theorem claimStartsWhenEveryConditionHolds : Obligations.ClaimStartsWhenEveryConditionHolds := by
  refine ⟨fun source s t ht hsame => ?_, fun s hb hnot => ?_, fun s hb hs hlow hc hclear hsus hfloor hroom => ?_,
      fun s hb => ?_⟩
  · rw [ht, endUpdate, settle_eq_summed source hsame]
    have quiet := summed_quiet s
    refine ⟨fun conditions => ?_, fun fails => ?_, ?_, ?_⟩
    · rw [tryStart_of_start ((mayStart_summed s).2 conditions), summed_room]
      refine ⟨?_, ?_, ?_, ?_, rfl, ?_⟩
      · simp [openClaim, quiet.alloc, freshClaim, Config.responseWindow, Config.commitDeadline]
      · simp [openClaim, quiet.alloc]
      · simp [openClaim, quiet.alloc, freshClaimSlot]
      · simp [quiet.pins, quiet.mc, quiet.line, quiet.time, quiet.pilot, quiet.port, quiet.pending]
      · simp [openClaim, quiet.outbox]
    · rw [tryStart_of_not (by rwa [← Bool.not_eq_true, mayStart_summed])]
      exact quiet.eq
    · simp [quiet.entries, quiet.nextSnapshot]
    · rw [tryStart_events]
      rfl
  · have stays : backoffEnd s = setShare { s.alloc.share with backoff := none } s := by
      rw [backoffEnd, if_pos hb, startByItself, if_neg]
      rwa [mayStart_noBackoff]
    exact congrArg Host.Outcome.next stays
  · have starts := (mayStart_noBackoff s).2 ⟨hs, hlow, hc, hclear, hsus, hfloor, hroom⟩
    have effect : backoffEnd s = startByItself (setShare { s.alloc.share with backoff := none } s) := if_pos hb
    exact congrArg Host.Outcome.next (effect.trans (startByItself_of_start starts))
  · exact congrArg Host.Outcome.next (if_neg hb)

end Sys2Proof.Machine
end

section
/-! PROOFS. The peer entries: what the parity check and the removal of an earmark leave in each (R16, R21). -/

namespace Sys2Proof.Machine

variable {s t u : State} {i j : Nat}

/-- The table has its 24 entries (R1). -/
def FullTable (s : State) : Prop := s.table.entries.length = 24

theorem stableCore_fullTable : StableCore FullTable where
  raise _ _ _ _ h := h
  table _ hl _ h := hl.trans h
  alloc _ _ _ _ h := h
  held _ _ h := h
  drive h := h
  outbox _ h := h
  line _ _ h := h
  pins _ h := h
  port _ _ h := h
  time _ _ _ h := h
  pilot _ _ _ _ _ _ h := h
  faultTaken h := h
  mc _ _ _ _ _ _ h := h
  events _ _ _ _ _ h := h
  acknowledge h := h
  finishPop h := h
  suspectPresent _ h := h
  overcommit _ h := h
  duplicate h := h
  request _ h := h
  period levels between _ h := by
    unfold startPeriod handFaultIn
    split <;> exact h

/-! ## One entry rewritten -/

theorem entryAt_modEntry_self (f : Entry → Entry) (h : i < s.table.entries.length) :
    entryAt (modEntry i f s) i = f (entryAt s i) := by
  rw [entryAt_modEntry, if_pos ⟨rfl, h⟩]

theorem entryAt_modEntry_ne (f : Entry → Entry) (h : j ≠ i) : entryAt (modEntry i f s) j = entryAt s j := by
  rw [entryAt_modEntry, if_neg fun both => h both.1]

@[simp] theorem modEntry_length (i : Nat) (f : Entry → Entry) (s : State) :
    (modEntry i f s).table.entries.length = s.table.entries.length := by simp [modEntry]

theorem isPeer_of_ne (h : i ≠ s.mc.identity.number) : isPeer s i = true := by simp [isPeer, h]

/-! ## The parity check (R21) -/

theorem entryOnCheck_of_fine (h : (entryAt s i).parityGood = true ∨ (entryAt s i).suspect = true) :
    suspectOnCheck s i = (entryAt s i).suspect ∧ entryOnCheck s i = entryAt s i := by
  have same : suspectOnCheck s i = (entryAt s i).suspect := by rcases h with h | h <;> simp [suspectOnCheck, h]
  exact ⟨same, by rw [entryOnCheck, same]⟩

/-- The check of an entry whose parity is right, or that is SUSPECT already, does nothing. -/
theorem checkParity_of_fine (h : (entryAt s i).parityGood = true ∨ (entryAt s i).suspect = true) : checkParity i s = s := by
  unfold checkParity
  rw [if_neg]
  rcases h with h | h <;> simp [h]

theorem checkParity_of_not_peer (h : isPeer s i = false) : checkParity i s = s := by simp [checkParity, h]

theorem checkParity_of_failing (hp : isPeer s i = true) (hs : (entryAt s i).suspect = false)
    (hg : (entryAt s i).parityGood = false) :
    checkParity i s = raise .parity (some i) none none (modEntry i (fun e => { e with suspect := true }) s) := by
  simp [checkParity, hp, hs, hg]

@[simp] theorem checkParity_length (i : Nat) (s : State) :
    (checkParity i s).table.entries.length = s.table.entries.length := by
  unfold checkParity
  split <;> simp

theorem fine_or_failing (e : Entry) : (e.parityGood = true ∨ e.suspect = true) ∨
    (e.suspect = false ∧ e.parityGood = false) := by
  cases e.suspect <;> cases e.parityGood <;> simp

theorem entryAt_checkParity_ne (h : j ≠ i) : entryAt (checkParity i s) j = entryAt s j := by
  unfold checkParity
  split
  · exact entryAt_modEntry_ne _ h
  · rfl

theorem entryAt_checkParity_self (hp : isPeer s i = true) (hi : i < s.table.entries.length) :
    entryAt (checkParity i s) i = entryOnCheck s i := by
  rcases fine_or_failing (entryAt s i) with fine | ⟨hs, hg⟩
  · rw [checkParity_of_fine fine, (entryOnCheck_of_fine fine).2]
  · rw [checkParity_of_failing hp hs hg]
    show entryAt (modEntry i _ s) i = _
    rw [entryAt_modEntry_self _ hi]
    simp [entryOnCheck, suspectOnCheck, hs, hg]

theorem checkParity_events (hp : isPeer s i = true) : (checkParity i s).events = eventsOnCheck s i := by
  rcases fine_or_failing (entryAt s i) with fine | ⟨hs, hg⟩
  · rw [checkParity_of_fine fine, eventsOnCheck, State.parityEvent, if_neg]
    rintro ⟨hs, hg⟩
    simp [hs, hg] at fine
  · rw [checkParity_of_failing hp hs hg, eventsOnCheck, State.parityEvent, if_pos ⟨hs, hg⟩]
    simp

theorem isPeer_checkParity (i j : Nat) (s : State) : isPeer (checkParity i s) j = isPeer s j :=
    isPeer_congr (by simp) (by simp) j

/-! ## The removal of an earmark (R16, R22) -/

/-- An entry without its earmark: a PENDING_JOIN one returns to ABSENT, its hold sequence and SUSPECT kept (R16). -/
def Entry.unmarked (e : Entry) : Entry :=
  if e.stored.status = .pendingJoin then e.returnAbsent false
  else { e.write { e.stored with earmark := none } with expiry := 0 }

@[simp] theorem Entry.unmarked_earmark (e : Entry) : e.unmarked.stored.earmark = none := by
  unfold Entry.unmarked
  split <;> rfl

theorem Entry.unmarked_status {e : Entry} (h : e.stored.status = .pendingJoin) : e.unmarked.stored.status = .absent := by
  simp [Entry.unmarked, h, Entry.returnAbsent, Stored.empty]

theorem removeEarmark_of_marked (hp : isPeer s i = true) (hm : (entryAt s i).stored.earmark.isSome = true) :
    removeEarmark i s = modEntry i Entry.unmarked (checkParity i s) := by
  rw [removeEarmark, if_pos (by simp [hp, hm])]
  rfl

theorem removeEarmark_of_unmarked (hm : (entryAt s i).stored.earmark = none) : removeEarmark i s = s :=
    by simp [removeEarmark, hm]

theorem removeEarmark_of_not_peer (h : isPeer s i = false) : removeEarmark i s = s := by simp [removeEarmark, h]

@[simp] theorem removeEarmark_length (i : Nat) (s : State) :
    (removeEarmark i s).table.entries.length = s.table.entries.length := by
  unfold removeEarmark
  split <;> simp

theorem entryAt_removeEarmark_ne (h : j ≠ i) : entryAt (removeEarmark i s) j = entryAt s j := by
  unfold removeEarmark
  split
  · rw [entryAt_modEntry_ne _ h, entryAt_checkParity_ne h]
  · rfl

theorem entryAt_removeEarmark_self (hp : isPeer s i = true) (hi : i < s.table.entries.length)
    (hm : (entryAt s i).stored.earmark.isSome = true) : entryAt (removeEarmark i s) i = (entryOnCheck s i).unmarked := by
  rw [removeEarmark_of_marked hp hm, entryAt_modEntry_self _ (by simpa using hi), entryAt_checkParity_self hp hi]

theorem removeEarmark_events (hp : isPeer s i = true) (hm : (entryAt s i).stored.earmark.isSome = true) :
    (removeEarmark i s).events = eventsOnCheck s i := by
  rw [removeEarmark_of_marked hp hm]
  exact checkParity_events hp

/-- The entry still stores `p`, or has lost its earmark, and as a PENDING_JOIN entry with it its status. -/
def Entry.Cleared (p : Stored) (e : Entry) : Prop :=
  e.stored = p ∨ (e.stored.earmark = none ∧ (p.status = .pendingJoin → p.earmark.isSome = true → e.stored.status = .absent))

theorem removeEarmark_cleared {p : Stored} (hl : FullTable s) (hj : j < 24) (h : (entryAt s j).Cleared p) (i : Nat) :
    (entryAt (removeEarmark i s) j).Cleared p := by
  by_cases hij : j = i
  · subst hij
    by_cases hp : isPeer s j = true
    · by_cases hm : (entryAt s j).stored.earmark.isSome = true
      · rw [entryAt_removeEarmark_self hp (hl ▸ hj) hm]
        rcases h with same | ⟨none, -⟩
        · refine .inr ⟨Entry.unmarked_earmark _, fun hs _ => Entry.unmarked_status ?_⟩
          rw [← hs, ← same]
          rfl
        · simp [none] at hm
      · rw [removeEarmark_of_unmarked (by simpa using hm)]
        exact h
    · rw [removeEarmark_of_not_peer (by simpa using hp)]
      exact h
  · rw [entryAt_removeEarmark_ne hij]
    exact h

/-- Once every earmark is removed no peer entry has one (R76). -/
theorem removeAllEarmarks_earmark (hl : FullTable s) (hj : j < 24) (hp : isPeer s j = true) :
    (entryAt (removeAllEarmarks s) j).stored.earmark = none := by
  have upto : ∀ n, ((List.range n).foldl (fun s i => removeEarmark i s) s).mc = s.mc
      ∧ FullTable ((List.range n).foldl (fun s i => removeEarmark i s) s)
      ∧ (j < n → (entryAt ((List.range n).foldl (fun s i => removeEarmark i s) s) j).stored.earmark = none) := by
    intro n
    induction n with
    | zero => exact ⟨rfl, hl, fun h => absurd h (Nat.not_lt_zero _)⟩
    | succ n ih =>
      obtain ⟨mc, full, cleared⟩ := ih
      rw [List.range_succ, List.foldl_append, List.foldl_cons, List.foldl_nil]
      generalize (List.range n).foldl (fun s i => removeEarmark i s) s = u at mc full cleared ⊢
      refine ⟨by simpa using mc, by simpa [FullTable] using full, fun h => ?_⟩
      by_cases hjn : j = n
      · subst hjn
        have hp' : isPeer u j = true := (isPeer_congr (by rw [mc]) (by rw [mc]) j).trans hp
        by_cases hm : (entryAt u j).stored.earmark.isSome = true
        · rw [entryAt_removeEarmark_self hp' (full ▸ hj) hm]
          exact Entry.unmarked_earmark _
        · rw [removeEarmark_of_unmarked (by simpa using hm)]
          simpa using hm
      · rw [entryAt_removeEarmark_ne hjn]
        exact cleared (by omega)
  obtain ⟨-, -, cleared⟩ := upto Config.stations
  rw [removeAllEarmarks]
  exact cleared hj

theorem foldl_removeEarmark_cleared {p : Stored} (hj : j < 24) (l : List Nat) (hl : FullTable s)
    (h : (entryAt s j).Cleared p) :
    (entryAt (l.foldl (fun s i => removeEarmark i s) s) j).Cleared p := by
  induction l generalizing s with
  | nil => exact h
  | cons i l ih => exact ih (by simpa [FullTable] using hl) (removeEarmark_cleared hl hj h i)

end Sys2Proof.Machine
end

section
/-! PROOFS. A change of station state with its entry actions (O16). -/

namespace Sys2Proof.Machine

variable {s t u : State} {P : Transmitter → Prop}

/-! ## What cuts leave of the transmitter -/

/-- `P` stands whatever slot's attempt is cut. -/
def CutClosed (P : Transmitter → Prop) : Prop := ∀ slot tx, P tx → P (tx.cutFrom slot)

theorem cutClosed_marking (a : Attempt) : CutClosed (fun tx => tx = .marking a a.markStart) := by
  rintro slot _ rfl
  rfl

theorem cutClosed_cutting (a : Attempt) : CutClosed (fun tx => tx = .sending a ∨ tx = .marking a a.markStart) := by
  rintro slot _ (rfl | rfl)
  · rw [cutFrom_sending]
    split <;> simp
  · exact .inr rfl

theorem cutClosed_ended {a : Attempt} (h : a.live = false) : CutClosed (fun tx => tx = .sending a) := by
  rintro slot _ rfl
  rw [cutFrom_sending, if_neg (by simp [h])]

@[simp] theorem removeClaim_tx (s : State) : (removeClaim s).line.tx = s.line.tx.cutFrom .claim := by simp [removeClaim]

@[simp] theorem countIf_tx (b : Bool) (s : State) : (countIf b s).line = s.line := by simp

theorem abandonClaim_tx (hP : CutClosed P) (reason : EndReason) (h : P s.line.tx) : P (abandonClaim reason s).line.tx := by
  unfold abandonClaim
  split
  · exact h
  · rw [countIf_tx, removeClaim_tx]
    exact hP .claim _ h

theorem abandonIncrease_tx (hP : CutClosed P) (reason : EndReason) (h : P s.line.tx) :
    P (abandonIncrease reason s).line.tx := by
  unfold abandonIncrease
  split
  · exact abandonClaim_tx hP reason h
  · exact h

theorem abandonOutside_tx (hP : CutClosed P) (new : StationState) (h : P s.line.tx) : P (abandonOutside new s).line.tx := by
  unfold abandonOutside
  split
  · exact h
  · exact abandonClaim_tx hP _ h

/-! ## An update cuts back or is quiet -/

theorem settle_quiet_or_cut (source : Option Nat) (s : State) :
    Quiet s (settle source s)
      ∨ ∃ v, Quiet s v ∧ Quiet (cutToFloor (abandonIncrease .overcommit v)) (settle source s) := by
  by_cases hset : s.table.overcommit = false ∧ capacity s < sumHeld s
  · rw [settle_of_exceeds source hset.1 hset.2]
    exact .inr ⟨_, (summed_quiet s).trans ((markOvercommit_quiet true _).trans (raise_quiet _ _ _ _ _)),
      (refreshSums_quiet _).trans (clearIfFits_quiet _)⟩
  · rw [not_and_or, Bool.not_eq_false, Nat.not_lt] at hset
    exact .inl (settle_quiet_of_unset source hset)

theorem settle_tx (hP : CutClosed P) (source : Option Nat) (h : P s.line.tx) : P (settle source s).line.tx := by
  rcases settle_quiet_or_cut source s with quiet | ⟨v, before, after⟩
  · rw [quiet.line]
    exact h
  · have cut := abandonIncrease_tx (s := v) hP .overcommit (by rw [before.line]; exact h)
    rw [after.line]
    simpa using cut

/-- Outside ACTIVE an update leaves the drive level and the HOLD slot. -/
theorem settle_pilot_of_inactive (source : Option Nat) (hs : s.mc.station ≠ .active) :
    (settle source s).pilot = s.pilot ∧ (settle source s).outbox.hold = s.outbox.hold := by
  rcases settle_quiet_or_cut source s with quiet | ⟨v, before, after⟩
  · exact ⟨quiet.pilot, by rw [quiet.outbox]⟩
  · rw [after.pilot, after.outbox, cutToFloor, if_neg (by simp [before.mc, hs])]
    simp [before.pilot, before.outbox]

/-- A HOLD slot that is filled stays as it is through an update. -/
theorem settle_hold_of_filled (source : Option Nat) (h : s.outbox.hold.occupancy = .filled) :
    (settle source s).outbox.hold = s.outbox.hold := by
  rcases settle_quiet_or_cut source s with quiet | ⟨v, before, after⟩
  · rw [quiet.outbox]
  · rw [after.outbox, cutToFloor]
    split
    · simp [lowerHeld, requestHold, before.outbox, h]
    · simp [before.outbox]

theorem abandonClaim_claimSlot (reason : EndReason) (h : s.outbox.claim = ClaimSlot.empty) :
    (abandonClaim reason s).outbox.claim = ClaimSlot.empty := by
  unfold abandonClaim
  split
  · exact h
  · simp

theorem settle_claimSlot (source : Option Nat) (h : s.outbox.claim = ClaimSlot.empty) :
    (settle source s).outbox.claim = ClaimSlot.empty := by
  rcases settle_quiet_or_cut source s with quiet | ⟨v, before, after⟩
  · rw [quiet.outbox, h]
  · have start : v.outbox.claim = ClaimSlot.empty := by rw [before.outbox, h]
    have cut : (abandonIncrease .overcommit v).outbox.claim = ClaimSlot.empty := by
      unfold abandonIncrease
      split
      · exact abandonClaim_claimSlot _ start
      · exact start
    rw [after.outbox]
    simpa using cut

/-! ## The entry actions -/

/-- The station state taken, ahead of its entry actions on the slots. -/
def turned (new : StationState) (s : State) : State :=
  setStation new (raise .stateChanged none none (some (joined s.mc.station.code new.code)) (abandonOutside new s))

theorem entered_eq (new : StationState) (s : State) :
    entered new s =
      resolveReached (clearRetry new (keepFormer s (heldForState new (dropEarmarksLeaving s.mc.station new
        (discardSlots new (turned new s)))))) := rfl

theorem slots_of_laws (hshape : OutboxShape s) (hattempt : AttemptLaw s) : Slots none s := by
  obtain ⟨hold, length, law, nodup, listed, range, keys, rx, inbox⟩ := hshape
  obtain ⟨fhold, fclaim, fanswer, live, inRange, bits, -, -, attempt⟩ := hattempt
  refine ⟨hold, ⟨length, law, nodup, listed, range, keys⟩, ⟨rx, inbox⟩, ⟨fun p hp => .inl ?_, fun p hp => ?_⟩,
      ⟨inRange, bits⟩, attempt⟩
  · cases p with
    | hold => exact fhold hp
    | claim => exact fclaim hp
    | answer k =>
      refine fanswer k (Nat.lt_of_not_le fun hk => ?_) hp
      change (answerAt s k).inFlight = true at hp
      rw [answerAt, List.getElem?_eq_none (by rw [length]; exact hk)] at hp
      cases hp
  · rw [← inFlightAt_eq]
    exact live p hp

@[simp] theorem turned_keeps (new : StationState) (s : State) :
    (turned new s).mc.station = new ∧ (turned new s).table = s.table ∧ (turned new s).alloc = (abandonOutside new s).alloc
      ∧ (turned new s).outbox = (abandonOutside new s).outbox ∧ (turned new s).line = (abandonOutside new s).line
      ∧ (turned new s).mc.identity = s.mc.identity ∧ (turned new s).time = s.time := by
  simp [turned]

theorem discardAnswers_tx (s : State) :
    (discardAnswers s).line.tx = ((List.range 4).foldl (fun s k => emptyAnswer k (dropSlotEarmark k s)) s).line.tx := by
  simp [discardAnswers]

theorem turned_slots (new : StationState) (h : Slots none s) : Slots none (turned new s) := (abandonOutside_slots new h).same

theorem discardAnswers_list (h : Slots none s) : (discardAnswers s).outbox.answerList = [] := by
  have law := (discardAnswers_slots h).answers
  refine List.eq_nil_iff_forall_not_mem.2 fun k hk => ?_
  have filled := (law.listed k (law.range k hk)).1 hk
  rw [discardAnswers_empty h _ (slotAt_mem (by rw [law.length]; exact law.range k hk))] at filled
  cases filled

theorem discardAnswers_replicate (h : Slots none s) :
    (discardAnswers s).outbox.answers = List.replicate 4 AnswerSlot.empty :=
  List.eq_replicate_iff.2 ⟨(discardAnswers_slots h).answers.length, discardAnswers_empty h⟩

theorem discardSlots_answers {new : StationState} (ha : new ≠ .active) (s : State) :
    (discardSlots new s).outbox.answers = (discardAnswers s).outbox.answers
      ∧ (discardSlots new s).outbox.answerList = (discardAnswers s).outbox.answerList
      ∧ (discardSlots new s).outbox.claim = ClaimSlot.empty
      ∧ (discardSlots new s).table = (discardAnswers s).table
      ∧ (discardSlots new s).outbox.hold = if new = .leaving ∨ new = .fenced then freshHold else HoldSlot.empty := by
  cases new
  case active => exact absurd rfl ha
  all_goals simp [discardSlots]

/-! ## The cut of the attempt in progress (R28, R124) -/

theorem emptyAnswers_tx (hP : CutClosed P) (n : Nat) (h : P s.line.tx) :
    P ((List.range n).foldl (fun s k => emptyAnswer k (dropSlotEarmark k s)) s).line.tx := by
  induction n with
  | zero => exact h
  | succ n ih =>
    rw [List.range_succ, List.foldl_append]
    simpa using hP _ _ ih

theorem emptyAnswers_marked {a : Attempt} {k : Nat} (hlive : a.live = true) (hk : a.slot = .answer k) (n : Nat)
    (h : s.line.tx = .sending a ∨ s.line.tx = .marking a a.markStart) (hkn : k < n) :
    ((List.range n).foldl (fun s k => emptyAnswer k (dropSlotEarmark k s)) s).line.tx = .marking a a.markStart := by
  induction n with
  | zero => exact absurd hkn (Nat.not_lt_zero _)
  | succ n ih =>
    have cutting := emptyAnswers_tx (s := s) (cutClosed_cutting a) n h
    rw [List.range_succ, List.foldl_append]
    generalize hu : (List.range n).foldl (fun s k => emptyAnswer k (dropSlotEarmark k s)) s = u at cutting ih
    simp only [List.foldl_cons, List.foldl_nil, emptyAnswer_tx, dropSlotEarmark_keeps]
    by_cases hlast : k = n
    · rcases cutting with sends | marks
      · rw [sends, cutFrom_sending, if_pos ⟨by rw [hk, hlast], hlive⟩]
      · rw [marks]
        rfl
    · rw [ih (by omega)]
      rfl

theorem discardSlots_tx (hP : CutClosed P) (new : StationState) (h : P s.line.tx) : P (discardSlots new s).line.tx := by
  have answers : P (discardAnswers s).line.tx := by
    rw [discardAnswers_tx]
    exact emptyAnswers_tx hP 4 h
  cases new
  case active => exact h
  all_goals simpa [discardSlots, refillHold] using hP _ _ (hP _ _ answers)

/-- Whichever of the six slots the attempt is sent from, it is cut. -/
theorem discardSlots_marked {a : Attempt} {new : StationState} (ha : new ≠ .active) (hlive : a.live = true)
    (hr : a.slot.inRange = true)
    (h : s.line.tx = .sending a ∨ s.line.tx = .marking a a.markStart) :
        (discardSlots new s).line.tx = .marking a a.markStart := by
  have cutting : (discardAnswers s).line.tx = .sending a ∨ (discardAnswers s).line.tx = .marking a a.markStart := by
    rw [discardAnswers_tx]
    exact emptyAnswers_tx (cutClosed_cutting a) 4 h
  have both : ((discardAnswers s).line.tx.cutFrom .claim).cutFrom .hold = .marking a a.markStart := by
    rcases cutting with sends | marks
    · rw [sends]
      cases hslot : a.slot with
      | hold => simp [cutFrom_sending, hslot, hlive]
      | claim =>
        simp [cutFrom_sending, hslot, hlive]
        rfl
      | answer k =>
        have marked := emptyAnswers_marked hlive hslot 4 h (by simpa [SlotId.inRange, hslot] using hr)
        rw [discardAnswers_tx, marked] at sends
        cases sends
    · rw [marks]
      rfl
  cases new
  case active => exact absurd rfl ha
  all_goals simpa [discardSlots, refillHold] using both

theorem entered_line (new : StationState) (s : State) : (entered new s).line = (discardSlots new (turned new s)).line := by
  simp [entered_eq]

theorem changeState_ended {a : Attempt} (new : StationState) (h : s.line.tx = .sending a) (hended : a.live = false) :
    (changeState new s).line.tx = .sending a := by
  have closed := cutClosed_ended hended
  rw [changeState_eq]
  refine settle_tx closed none ?_
  rw [entered_line]
  exact discardSlots_tx closed new (by simpa using abandonOutside_tx closed new h)

theorem changeState_marked {a : Attempt} {new : StationState} (ha : new ≠ .active) (h : s.line.tx = .sending a)
    (hlive : a.live = true)
    (hr : a.slot.inRange = true) : (changeState new s).line.tx = .marking a (max 16 (a.sent + 1)) := by
  have cutting := abandonOutside_tx (s := s) (cutClosed_cutting a) new (.inl h)
  rw [changeState_eq]
  refine settle_tx (cutClosed_marking a) none ?_
  rw [entered_line]
  exact discardSlots_marked ha hlive hr (by simpa using cutting)

/-! ## The earmarks (R76) -/

theorem dropSlotEarmark_cleared {p : Stored} {j : Nat} (hl : FullTable s) (hj : j < 24) (h : (entryAt s j).Cleared p)
    (k : Nat) :
    (entryAt (dropSlotEarmark k s) j).Cleared p := by
  unfold dropSlotEarmark
  (repeat' split)
  · exact removeEarmark_cleared hl hj h _
  · exact h
  · exact h

theorem discardAnswers_cleared {p : Stored} {j : Nat} (hl : FullTable s) (hj : j < 24) (h : (entryAt s j).Cleared p) :
    FullTable (discardAnswers s) ∧ (entryAt (discardAnswers s) j).Cleared p := by
  have upto : ∀ n, FullTable ((List.range n).foldl (fun s k => emptyAnswer k (dropSlotEarmark k s)) s)
      ∧ (entryAt ((List.range n).foldl (fun s k => emptyAnswer k (dropSlotEarmark k s)) s) j).Cleared p := by
    intro n
    induction n with
    | zero => exact ⟨hl, h⟩
    | succ n ih =>
      obtain ⟨full, cleared⟩ := ih
      rw [List.range_succ, List.foldl_append, List.foldl_cons, List.foldl_nil]
      generalize (List.range n).foldl (fun s k => emptyAnswer k (dropSlotEarmark k s)) s = u at full cleared ⊢
      refine ⟨emptyAnswer_stable stableCore_fullTable n (dropSlotEarmark_stable stableCore_fullTable n full), ?_⟩
      rw [entryAt_congr (s := dropSlotEarmark n u) (by simp)]
      exact dropSlotEarmark_cleared full hj cleared n
  obtain ⟨full, cleared⟩ := upto 4
  have same : (discardAnswers s).table = ((List.range 4).foldl
      (fun s k => emptyAnswer k (dropSlotEarmark k s)) s).table := by
    simp [discardAnswers]
  rw [FullTable, entryAt_congr (by rw [same]), same]
  exact ⟨full, cleared⟩

theorem changeState_entries (new : StationState) (s : State) :
    (changeState new s).table.entries = (dropEarmarksLeaving s.mc.station new
        (discardSlots new (turned new s))).table.entries := by
  simp [changeState_eq, entered_eq]

theorem removeAllEarmarks_cleared {p : Stored} {j : Nat} (hl : FullTable s) (hj : j < 24) (hp : isPeer s j = true)
    (h : (entryAt s j).Cleared p) :
    (entryAt (removeAllEarmarks s) j).stored.earmark = none
      ∧ (p.status = .pendingJoin → p.earmark.isSome = true → (entryAt (removeAllEarmarks s) j).stored.status = .absent) := by
  have none := removeAllEarmarks_earmark hl hj hp
  have cleared := foldl_removeEarmark_cleared hj (List.range Config.stations) hl h
  rw [← removeAllEarmarks] at cleared
  refine ⟨none, fun hpending hmarked => ?_⟩
  rcases cleared with same | ⟨-, absent⟩
  · rw [← same, none] at hmarked
    cases hmarked
  · exact absent hpending hmarked

theorem discardSlots_cleared {p : Stored} {new : StationState} {j : Nat} (ha : new ≠ .active) (hl : FullTable s)
    (hj : j < 24)
    (h : (entryAt s j).Cleared p) : FullTable (discardSlots new s) ∧ (entryAt (discardSlots new s) j).Cleared p := by
  obtain ⟨-, -, -, table, -⟩ := discardSlots_answers ha s
  rw [FullTable, entryAt_congr (congrArg ShareTable.entries table) j, table]
  exact discardAnswers_cleared hl hj h

/-- On leaving ACTIVE no peer entry keeps an earmark, and a PENDING_JOIN entry returns to ABSENT with it. -/
theorem changeState_earmark {new : StationState} {j : Nat} (hs : s.mc.station = .active) (ha : new ≠ .active)
    (hl : FullTable s) (hj : j < 24) (hpeer : j ≠ s.mc.identity.number) :
    (entryAt (changeState new s) j).stored.earmark = none
      ∧ ((entryAt s j).stored.status = .pendingJoin → (entryAt s j).stored.earmark.isSome = true →
        (entryAt (changeState new s) j).stored.status = .absent) := by
  have start : entryAt (turned new s) j = entryAt s j := entryAt_congr (by simp) j
  obtain ⟨full, cleared⟩ := discardSlots_cleared (s := turned new s) (p := (entryAt s j).stored) ha
      (by simpa [FullTable] using hl) hj
    (.inl (congrArg Entry.stored start))
  have entries := changeState_entries new s
  have peer : isPeer (discardSlots new (turned new s)) j = true := by simp [isPeer, hpeer]
  rw [dropEarmarksLeaving, if_pos ⟨hs, ha⟩] at entries
  rw [entryAt_congr entries]
  exact removeAllEarmarks_cleared full hj peer cleared

/-! ## The alert conditions of the station state (R168) -/

/-- The alert conditions FENCED and FAULT. -/
def Alarms (fenced fault : Bool) (s : State) : Prop := s.events.active.fenced = fenced ∧ s.events.active.fault = fault

theorem stableCore_alarms (fenced fault : Bool) : StableCore (Alarms fenced fault) where
  raise _ _ _ _ h := by simpa [Alarms] using h
  table _ _ _ h := h
  alloc _ _ _ _ h := h
  held _ _ h := h
  drive h := h
  outbox _ h := h
  line _ _ h := h
  pins _ h := h
  port _ _ h := h
  time _ _ _ h := h
  pilot _ _ _ _ _ _ h := h
  faultTaken h := h
  mc _ _ _ _ _ _ h := h
  events _ _ _ ha _ h := by rw [Alarms, ha]; exact h
  acknowledge h := h
  finishPop h := by
    unfold EventUnit.finishPop
    (repeat' split) <;> exact h
  suspectPresent _ h := h
  overcommit _ h := h
  duplicate h := h
  request _ h := h
  period levels between _ h := by
    unfold startPeriod handFaultIn
    split
    · exact h
    · simpa [Alarms, AlertSet.put] using h

theorem changeState_alarms (new : StationState) (s : State) :
    Alarms (new == .fenced) (new == .fault) (changeState new s) := by
  have core := stableCore_alarms (new == .fenced) (new == .fault)
  have turned : Alarms (new == .fenced) (new == .fault) (turned new s) := ⟨rfl, rfl⟩
  refine settle_stable core _ (resolveReached_stable core ?_)
  have former := keepFormer_stable core s (heldForState_stable core new (dropEarmarksLeaving_stable core s.mc.station new
    (discardSlots_stable core new turned)))
  unfold clearRetry
  split <;> exact former

/-- Outside ACTIVE own held and the drive level are 0, whatever claim is open. -/
theorem changeState_idle {new : StationState} (ha : new ≠ .active) (s : State) :
    (changeState new s).alloc.share.held = 0 ∧ (changeState new s).pilot = (entered new s).pilot
      ∧ (changeState new s).outbox.hold = (entered new s).outbox.hold := by
  have inactive : (entered new s).mc.station ≠ .active := by simpa using ha
  obtain ⟨pilot, hold⟩ := settle_pilot_of_inactive none inactive
  rw [changeState_eq]
  refine ⟨?_, pilot, hold⟩
  rw [settle_held none (.inr (.inr inactive)), entered_eq]
  simp [heldForState, ha]

theorem entered_slots {new : StationState} (s : State) :
    (entered new s).outbox = (discardSlots new (turned new s)).outbox := by
  simp [entered_eq]

/-- Settles O16. -/
theorem changeOfStateMakesItsEntryActions : Obligations.ChangeOfStateMakesItsEntryActions := by
  intro new s hshape hattempt hfull
  have slots := turned_slots new (slots_of_laws hshape hattempt)
  obtain ⟨fenced, fault⟩ := changeState_alarms new s
  obtain ⟨-, -, -, -, inRange, -⟩ := hattempt
  refine ⟨by simp, by simp, fenced, fault, fun ha => ?_, fun a h hended => changeState_ended new h hended, ?_,
      fun ⟨ha, hj⟩ => ?_,
    fun hrefill => ?_, fun ⟨hl, hf, ha⟩ => ?_, ?_, changeState_retry new s, by simp, by simp, by simp, by simp,
        by simp, by simp, by simp,
    by simp, by simp, by simp, by simp, by simp, by simp⟩
  · obtain ⟨answers, list, claim, -, -⟩ := discardSlots_answers ha (turned new s)
    obtain ⟨held, pilot, -⟩ := changeState_idle ha s
    refine ⟨held, by rw [pilot, entered_pilot ha], ?_, ?_, ?_, fun a h hlive => changeState_marked ha h hlive (inRange _ ?_)⟩
    · simp only [changeState_eq, settle_keeps, entered_slots, answers, discardAnswers_replicate slots]
    · simp only [changeState_eq, settle_keeps, entered_slots, list, discardAnswers_list slots]
    · rw [changeState_eq]
      exact settle_claimSlot none (by rw [entered_slots, claim])
    · obtain ⟨-, running, -⟩ := Attempt.read_le_of_live hlive
      exact slot?_eq_some.2 ⟨a, h, running, rfl⟩
  · rintro rfl hfilled
    have same : (entered .active s).outbox.hold = s.outbox.hold := by simp [entered_slots, discardSlots]
    rw [changeState_eq, settle_hold_of_filled none (by rw [same, hfilled]), same]
  · rw [changeState_alloc ha fun h => absurd h hj]
    exact ⟨rfl, rfl, rfl⟩
  · have ha : new ≠ .active := by rcases hrefill with rfl | rfl <;> decide
    obtain ⟨-, -, hold⟩ := changeState_idle ha s
    rw [hold, entered_slots, (discardSlots_answers ha _).2.2.2.2, if_pos hrefill]
    rfl
  · obtain ⟨-, -, hold⟩ := changeState_idle ha s
    rw [hold, entered_slots, (discardSlots_answers ha _).2.2.2.2, if_neg (by simp [hl, hf])]
  · exact fun hs ha i hi hpeer _ => changeState_earmark hs ha hfull hi hpeer

end Sys2Proof.Machine
end

section
/-! PROOFS. What a change of station state reports (O17). -/

namespace Sys2Proof.Machine

variable {s t u v : State} {i j k : Nat}

/-! ## Earmarks removed where no check fails -/

/-- The held share of an entry that counts in the sum (R6). -/
def Entry.share (e : Entry) : Nat := if e.valid then e.stored.held else 0

theorem sumHeld_eq (s : State) : sumHeld s = ((List.range 24).map (fun i => (view s i).share)).sum := by
  simp only [sumHeld, views, List.map_map]
  rfl

theorem Entry.unmarked_share_le (e : Entry) : e.unmarked.share ≤ e.share := by
  unfold Entry.unmarked
  split
  · simp [Entry.share, Entry.valid, Entry.returnAbsent, Stored.empty]
  · exact Nat.le_refl _

/-- From `s` to `t` earmarks have gone from peer entries, and no check of one has failed. -/
structure Trimmed (s t : State) : Prop where
  mc : t.mc = s.mc
  events : t.events = s.events
  overcommit : t.table.overcommit = s.table.overcommit
  alloc : t.alloc = s.alloc
  full : FullTable t
  fine : NoCheckFails t
  share : ∀ i < 24, (entryAt t i).share ≤ (entryAt s i).share

theorem Trimmed.refl (full : FullTable s) (fine : NoCheckFails s) : Trimmed s s :=
  ⟨rfl, rfl, rfl, rfl, full, fine, fun _ _ => Nat.le_refl _⟩

theorem Trimmed.trans (h : Trimmed s t) (h' : Trimmed t u) : Trimmed s u where
  mc := h'.mc.trans h.mc
  events := h'.events.trans h.events
  overcommit := h'.overcommit.trans h.overcommit
  alloc := h'.alloc.trans h.alloc
  full := h'.full
  fine := h'.fine
  share i hi := (h'.share i hi).trans (h.share i hi)

theorem Trimmed.same (h : Trimmed s t) (mc : u.mc = t.mc := by simp) (events : u.events = t.events := by simp)
    (table : u.table = t.table := by simp) (alloc : u.alloc = t.alloc := by simp) : Trimmed s u where
  mc := mc.trans h.mc
  events := events.trans h.events
  overcommit := by rw [table, h.overcommit]
  alloc := alloc.trans h.alloc
  full := by rw [FullTable, table]; exact h.full
  fine i hi hp := by
    rw [entryAt_congr (t := u) (s := t) (by rw [table])]
    exact h.fine i hi ((isPeer_congr (by rw [mc]) (by rw [mc]) i).symm.trans hp)
  share i hi := by
    rw [entryAt_congr (t := u) (s := t) (by rw [table])]
    exact h.share i hi

theorem removeEarmark_trimmed (full : FullTable s) (fine : NoCheckFails s) (hi : i < 24) :
    Trimmed s (removeEarmark i s) := by
  by_cases hp : isPeer s i = true
  · by_cases hm : (entryAt s i).stored.earmark.isSome = true
    · rw [removeEarmark_of_marked hp hm, checkParity_of_fine (fine i hi hp)]
      refine ⟨rfl, rfl, rfl, rfl, by rw [FullTable, modEntry_length]; exact full, fun j hj hpj => ?_, fun j hj => ?_⟩
      · by_cases hij : j = i
        · subst hij
          rw [entryAt_modEntry_self _ (full ▸ hj)]
          unfold Entry.unmarked
          split <;> exact .inl rfl
        · rw [entryAt_modEntry_ne _ hij]
          exact fine j hj hpj
      · by_cases hij : j = i
        · subst hij
          rw [entryAt_modEntry_self _ (full ▸ hj)]
          exact Entry.unmarked_share_le _
        · rw [entryAt_modEntry_ne _ hij]
    · rw [removeEarmark_of_unmarked (by simpa using hm)]
      exact .refl full fine
  · rw [removeEarmark_of_not_peer (by simpa using hp)]
    exact .refl full fine

theorem foldl_trimmed {f : State → Nat → State} (n : Nat)
    (hf : ∀ u, FullTable u → NoCheckFails u → ∀ i, i < n → Trimmed u (f u i)) (full : FullTable s) (fine : NoCheckFails s) :
    Trimmed s ((List.range n).foldl f s) := by
  induction n with
  | zero => exact .refl full fine
  | succ n ih =>
    rw [List.range_succ, List.foldl_append, List.foldl_cons, List.foldl_nil]
    have before := ih fun u hfull hfine i hi => hf u hfull hfine i (Nat.lt_succ_of_lt hi)
    exact before.trans (hf _ before.full before.fine n (Nat.lt_succ_self n))

theorem removeAllEarmarks_trimmed (full : FullTable s) (fine : NoCheckFails s) : Trimmed s (removeAllEarmarks s) :=
  foldl_trimmed Config.stations (fun _ hfull hfine _ hi => removeEarmark_trimmed hfull hfine hi) full fine

theorem holdsEarmark_of_small (full : FullTable s) {x : Nat} {n : Byte} (h : holdsEarmark s x n = true) : x < 24 := by
  by_contra hx
  have none : (entryAt s x).stored.earmark = none := by
    rw [entryAt, List.getElem?_eq_none (by rw [full]; exact Nat.le_of_not_lt hx)]
    rfl
  simp [holdsEarmark, none] at h

theorem dropSlotEarmark_trimmed (full : FullTable s) (fine : NoCheckFails s) (k : Nat) :
    Trimmed s (dropSlotEarmark k s) := by
  unfold dropSlotEarmark
  (repeat' split)
  · exact removeEarmark_trimmed full fine (holdsEarmark_of_small full ‹_›)
  · exact .refl full fine
  · exact .refl full fine

theorem discardAnswers_trimmed (full : FullTable s) (fine : NoCheckFails s) : Trimmed s (discardAnswers s) := by
  have dropped := foldl_trimmed (f := fun s k => emptyAnswer k (dropSlotEarmark k s)) 4
    (fun u hfull hfine k _ => (dropSlotEarmark_trimmed hfull hfine k).same) full fine
  rw [discardAnswers]
  generalize (List.range 4).foldl (fun s k => emptyAnswer k (dropSlotEarmark k s)) s = u at dropped
  exact dropped.same rfl rfl rfl rfl

theorem discardSlots_trimmed (new : StationState) (full : FullTable s) (fine : NoCheckFails s) :
    Trimmed s (discardSlots new s) := by
  cases new
  case active => exact .refl full fine
  all_goals
    have discarded := discardAnswers_trimmed full fine
    simp only [discardSlots]
    generalize discardAnswers s = u at discarded
    exact discarded.same rfl rfl rfl rfl

theorem dropEarmarksLeaving_trimmed (old new : StationState) (full : FullTable s) (fine : NoCheckFails s) :
    Trimmed s (dropEarmarksLeaving old new s) := by
  unfold dropEarmarksLeaving
  split
  · exact removeAllEarmarks_trimmed full fine
  · exact .refl full fine

/-! ## The sum of held shares across a change of state -/

theorem sum_le_sum_add {f g : Nat → Nat} {m h : Nat} (hother : ∀ i, i ≠ m → f i ≤ g i) (hown : f m ≤ h) (n : Nat) :
    ((List.range n).map f).sum ≤ ((List.range n).map g).sum + if m < n then h else 0 := by
  induction n with
  | zero => simp
  | succ n ih =>
    simp only [List.range_succ, List.map_append, List.sum_append, List.map_cons, List.map_nil, List.sum_cons, List.sum_nil]
    by_cases hn : n = m
    · subst hn
      simp only [lt_irrefl, if_false, Nat.lt_succ_self, if_true] at ih ⊢
      omega
    · have := hother n hn
      split <;> split at ih <;> omega

theorem ownEntry_share_le (s : State) : (ownEntry s).share ≤ s.alloc.share.held := by
  unfold Entry.share
  split
  · exact Nat.le_refl _
  · exact Nat.zero_le _

theorem sumHeld_le_add_own (hm : t.mc.station ≠ .monitor) (hid : t.mc.identity = s.mc.identity)
    (hshare : ∀ i < 24, (entryAt t i).share ≤ (entryAt s i).share) (hs : FullTable t) :
        sumHeld t ≤ sumHeld s + t.alloc.share.held := by
  have own : ∀ i, i = s.mc.identity.number → view t i = ownEntry t := by
    rintro i rfl
    simp [view, isPeer, hm, hid]
  have peer : ∀ i, i ≠ s.mc.identity.number → view t i = entryAt t i ∧ view s i = entryAt s i := by
    intro i hi
    simp [view, isPeer, hid, hi]
  have beyond : ∀ i, ¬i < 24 → entryAt t i = Entry.empty := by
    intro i hi
    rw [entryAt, List.getElem?_eq_none (by rw [hs]; omega)]
    rfl
  rw [sumHeld_eq, sumHeld_eq]
  refine (sum_le_sum_add (m := s.mc.identity.number) (h := t.alloc.share.held) (g := fun i => (view s i).share)
      (fun i hi => ?_) ?_ 24).trans ?_
  · obtain ⟨ht, hs'⟩ := peer i hi
    rw [ht, hs']
    by_cases hlt : i < 24
    · exact hshare i hlt
    · rw [beyond i hlt]
      exact Nat.zero_le _
  · rw [own _ rfl]
    exact ownEntry_share_le t
  · split <;> omega

/-! ## The events of a change of state -/

theorem joined_stationCode (a b : StationState) : joined a.code b.code = BitVec.ofNat 16 (256 * a.code + b.code) := by
  cases a <;> cases b <;> decide

/-- What a change of state reaches before a taken request is resolved. -/
def arrived (new : StationState) (s : State) : State :=
  clearRetry new (keepFormer s (heldForState new (dropEarmarksLeaving s.mc.station new (discardSlots new (turned new s)))))

theorem entered_resolves (new : StationState) (s : State) : entered new s = resolveReached (arrived new s) := rfl

@[simp] theorem arrived_mc (new : StationState) (s : State) :
    (arrived new s).mc = { s.mc with station := new, retry := if new = .waiting then 0 else s.mc.retry } := by
  have turned : (turned new s).mc = { s.mc with station := new } := by
    simp [turned, setStation]
  unfold arrived clearRetry
  split <;> simp [turned]

theorem turned_log (new : StationState) (s : State) :
    (turned new s).events.log =
      (abandonOutside new s).events.log.take .stateChanged none none
          (some (BitVec.ofNat 16 (256 * s.mc.station.code + new.code)))
        s.time.ms := by
  rw [turned, setStation]
  simp [joined_stationCode]

theorem turned_noCheckFails {new : StationState} (hm : new ≠ .monitor) (h : NoCheckFails s) :
    NoCheckFails (turned new s) := by
  intro i hi hp
  have other : i ≠ s.mc.identity.number := by simpa [isPeer, hm] using hp
  rw [entryAt_congr (t := turned new s) (s := s) (by simp)]
  exact h i hi (isPeer_of_ne other)

theorem resolveReached_sumHeld (s : State) : sumHeld (resolveReached s) = sumHeld s :=
  sumHeld_congr (by simp) (by simp) (by simp) (by simp)

/-- A change of state at which no check fails and the sum of held shares fits: the events up to the resolution, and
the sum. -/
theorem arrived_report {new : StationState} (hm : new ≠ .monitor) (full : FullTable s) (fine : NoCheckFails s)
    (hclear : s.table.overcommit = false) (hfits : sumHeld s ≤ capacity s)
    (hactive : new = .active → sumHeld s + s.alloc.share.held ≤ capacity s) :
    (arrived new s).events.log =
        (abandonOutside new s).events.log.take .stateChanged none none
            (some (BitVec.ofNat 16 (256 * s.mc.station.code + new.code)))
          s.time.ms
      ∧ (arrived new s).table.overcommit = false ∧ sumHeld (arrived new s) ≤ capacity s := by
  have full' : FullTable (turned new s) := by simpa [FullTable] using full
  have discarded := discardSlots_trimmed new full' (turned_noCheckFails hm fine)
  have trimmed := discarded.trans (dropEarmarksLeaving_trimmed s.mc.station new discarded.full discarded.fine)
  have events : (arrived new s).events = (turned new s).events := by
    rw [← trimmed.events]
    simp [arrived]
  have table : (arrived new s).table = (dropEarmarksLeaving s.mc.station new (discardSlots new (turned new s))).table :=
      by simp [arrived]
  have overcommit : (arrived new s).table.overcommit = false := by
    rw [table, trimmed.overcommit]
    simpa using hclear
  have held : (arrived new s).alloc.share.held = if new = .active then s.alloc.share.held else 0 := by
    simp only [arrived, clearRetry_keeps, keepFormer_keeps, heldForState]
    split
    · simp [turned]
    · simp
  refine ⟨by rw [events, turned_log], overcommit, ?_⟩
  have bound := sumHeld_le_add_own (t := arrived new s) (s := s) (by simpa using hm) (by simp)
    (fun i hi => by
      have step := trimmed.share i hi
      rw [entryAt_congr (t := arrived new s) (congrArg ShareTable.entries table)]
      rwa [entryAt_congr (t := turned new s) (s := s) (by simp)] at step)
    (by rw [FullTable, table]; exact trimmed.full)
  rw [held] at bound
  split at bound
  · rename_i hnew
    have room := hactive hnew
    omega
  · omega

theorem changeState_report {new : StationState} (hm : new ≠ .monitor) (full : FullTable s) (fine : NoCheckFails s)
    (hclear : s.table.overcommit = false) (hfits : sumHeld s ≤ capacity s)
    (hactive : new = .active → sumHeld s + s.alloc.share.held ≤ capacity s) :
    (changeState new s).events.log = (resolveReached (arrived new s)).events.log := by
  obtain ⟨-, overcommit, sum⟩ := arrived_report hm full fine hclear hfits hactive
  have clear : (resolveReached (arrived new s)).table.overcommit = false := by simpa using overcommit
  rw [changeState_eq, entered_resolves, settle_log_of_unset none, clear]
  · rfl
  · refine .inr ?_
    rw [resolveReached_sumHeld, capacity_congr (s := s) (by simp)]
    exact sum

theorem abandonOutside_log {c : ClaimRecord} {new : StationState} (hc : s.alloc.claim = some c) (ha : new ≠ .active)
    (hj : new ≠ .joining) :
    (abandonOutside new s).events.log =
      s.events.log.take .claimAbandoned none (some c.number)
        (some (if c.kind = .increase then BitVec.ofNat 16 (256 * 1 + 13) else BitVec.ofNat 16
            (256 * 0 + 13))) s.time.ms := by
  have code : joined (claimKindCode c.kind) EndReason.stateChange.code
      = if c.kind = .increase then BitVec.ofNat 16 (256 * 1 + 13) else BitVec.ofNat 16 (256 * 0 + 13) := by
    cases c.kind <;> decide
  rw [abandonOutside, if_neg (by simp [ha, hj]), abandonClaim_log _ hc, code]

theorem abandonOutside_of_kept {new : StationState} (h : s.alloc.claim = none ∨ new = .active ∨ new = .joining) :
    abandonOutside new s = s := by
  rcases h with h | h
  · exact abandonOutside_of_no_claim new h
  · exact if_pos h

theorem changeState_mc (new : StationState) (s : State) : (changeState new s).mc = (resolveReached (arrived new s)).mc := by
  rw [changeState_eq, entered_resolves]
  simp

/-- Settles O17. -/
theorem changeOfStateIsReportedAndResolves : Obligations.ChangeOfStateIsReportedAndResolves := by
  refine ⟨fun new u s hm htaken hfine hfull hclear hfits hactive hu => ?_,
      fun new target s htaken hfirst => ⟨fun result hcase => ?_, ?_⟩⟩
  · obtain ⟨log, -, -⟩ := arrived_report hm hfull hfine hclear hfits hactive
    have settled := changeState_report hm hfull hfine hclear hfits hactive
    rw [resolveReached_of_not_taken (by simpa using htaken), log] at settled
    have reported : (abandonOutside new s).events.log = u.log := by
      rcases hu with ⟨hkept, rfl⟩ | ⟨c, hc, ha, hj, rfl⟩
      · rw [abandonOutside_of_kept hkept]
      · rw [abandonOutside_log hc ha hj, EventUnit.take_log]
    rw [reported, ← EventUnit.take_log] at settled
    exact ⟨EventUnit.queue_of_log settled, EventUnit.nextSeq_of_log settled⟩
  · rw [changeState_mc]
    rcases hcase with ⟨rfl, rfl, rfl⟩ | ⟨rfl, rfl, rfl⟩ | ⟨rfl, rfl, rfl⟩ | ⟨rfl, rfl, rfl⟩ | ⟨rfl, rfl, rfl⟩ <;>
      simp [resolveReached, htaken, hfirst, resolveFirst, report, PendingRequest.next]
  · rintro ⟨hfault, hactive, hdetached⟩
    rw [changeState_mc]
    have stays : resolveReached (arrived new s) = arrived new s := by
      cases target <;> cases new <;> simp_all [resolveReached]
    rw [stays]
    simp

end Sys2Proof.Machine
end

section
/-! PROOFS. The lease boundary at the Membership Controller, the Allocation Engine and the Outbox, and the watchdog
(O10, O11, O15). -/

namespace Sys2Proof.Machine

variable {s t u : State}

/-! ## The lease boundary, block by block -/

/-- The state in which a block has the boundary no longer to take. -/
def boundaryTaken (b : Block) (s : State) : State :=
    { s with time := { s.time with boundaryDue := s.time.boundaryDue.erase b } }

theorem leaseBoundary_one (b : Block) (s : State) : leaseBoundary [b] s = takeBoundary b s := rfl

theorem takeBoundary_due {b : Block} (h : s.time.boundaryDue.contains b = true) :
    takeBoundary b s = blockBoundary b (boundaryTaken b s) :=
  if_pos h

theorem takeBoundary_none {b : Block} (h : s.time.boundaryDue.contains b = false) : takeBoundary b s = s :=
  if_neg (by simpa using h)

/-! ## The way to JOINING (R31, R32, R36) -/

theorem enterJoining_mc (s : State) :
    (enterJoining s).mc.station = .joining ∧ (enterJoining s).mc.census = s.mc.census
        ∧ (enterJoining s).mc.retry = s.mc.retry
      ∧ (enterJoining s).time = s.time := by
  simp [enterJoining, changeState_retry]

theorem enterJoining_share (s : State) :
    (enterJoining s).alloc.share.silence = 0 ∧ (enterJoining s).alloc.share.held = 0
      ∧ (enterJoining s).alloc.share.claimCounter = s.alloc.share.claimCounter + 1 := by
  have held := (changeState_idle (new := .joining) (by decide) s).1
  simp [enterJoining, held, openClaim]

/-- The FLOOR claim and the CLAIM slot of a join (R32). -/
theorem enterJoining_claim (s : State) :
    (enterJoining s).alloc.claim = some
        { kind := .floor, number := s.alloc.share.claimCounter + 1, amount := s.alloc.share.floor, phase := .sending
          roll := [], assents := [], window := 24, deadline := 48, inFlight := false, deadlinePassed := false }
      ∧ (enterJoining s).outbox.claim =
        { occupancy := .filled, key := some (s.alloc.share.claimCounter + 1), content := some .floor, attempts := 0,
            inFlight := false } := by
  simp [enterJoining, openClaim, freshClaim, freshClaimSlot, Config.responseWindow, Config.commitDeadline]

/-- The counts that the Membership Controller raises at a boundary (R31, R36). -/
def counted (s : State) : State := raiseRetry (raiseCensus s)

theorem counted_mc (s : State) :
    (counted s).mc = { s.mc with census := min (s.mc.census + 1) 2, retry :=
        if s.mc.station = .waiting then s.mc.retry + 1 else s.mc.retry } := by
  unfold counted raiseRetry raiseCensus Config.censusEnd
  dsimp only
  split <;> rfl

theorem counted_rest (s : State) :
    (counted s).alloc = s.alloc ∧ (counted s).time = s.time ∧ { counted s with mc := s.mc } = s := by
  unfold counted raiseRetry raiseCensus
  dsimp only
  split <;> exact ⟨rfl, rfl, rfl⟩

/-- Whether the boundary leads to JOINING. -/
def JoinDue (s : State) : Prop := (s.mc.station = .census ∧ 1 ≤ s.mc.census) ∨ (s.mc.station = .waiting ∧ 3 ≤ s.mc.retry)

theorem joinIfDue_of_due (h : JoinDue s) : joinIfDue (counted s) = enterJoining (counted s) := by
  rcases h with ⟨hs, hc⟩ | ⟨hs, hr⟩
  · have full : min (s.mc.census + 1) 2 = 2 := Nat.min_eq_right (by omega)
    simp [joinIfDue, counted_mc s, hs, Config.censusEnd, full]
  · simp [joinIfDue, counted_mc s, hs, Config.retryEnd]
    omega

theorem joinIfDue_of_not_due (h : (s.mc.station ≠ .census ∨ s.mc.census = 0) ∧ (s.mc.station ≠ .waiting ∨ s.mc.retry < 3)) :
    joinIfDue (counted s) = counted s := by
  obtain ⟨census, waiting⟩ := h
  unfold joinIfDue
  rw [counted_mc]
  dsimp only
  split
  · rename_i hs
    have none : s.mc.census = 0 := census.resolve_left (by simp [hs])
    rw [if_neg]
    simp [none, Config.censusEnd]
  · rename_i hs
    have few : s.mc.retry < 3 := waiting.resolve_left (by simp [hs])
    rw [if_neg]
    simp only [hs, if_true, Config.retryEnd]
    omega
  · rfl

theorem joinDue_or_not (s : State) :
    (JoinDue s ∧ ¬((s.mc.station ≠ .census ∨ s.mc.census = 0) ∧ (s.mc.station ≠ .waiting ∨ s.mc.retry < 3)))
      ∨ (¬JoinDue s ∧ (s.mc.station ≠ .census ∨ s.mc.census = 0) ∧ (s.mc.station ≠ .waiting ∨ s.mc.retry < 3)) := by
  unfold JoinDue
  by_cases hc : s.mc.station = .census
  · simp only [hc]
    simp
    omega
  · by_cases hw : s.mc.station = .waiting
    · simp only [hw]
      simp
      omega
    · simp [hc, hw]

/-- Settles O10. -/
theorem censusAndRetryLeadToJoining : Obligations.CensusAndRetryLeadToJoining := by
  intro s hdue
  have effect : leaseBoundary [.membership] s = joinIfDue (counted (boundaryTaken .membership s)) :=
    (leaseBoundary_one _ s).trans (takeBoundary_due hdue)
  obtain ⟨alloc, time, rest⟩ := counted_rest (boundaryTaken .membership s)
  have mc := counted_mc (boundaryTaken .membership s)
  rcases joinDue_or_not (boundaryTaken .membership s) with ⟨hjoin, hnot⟩ | ⟨hjoin, hnot⟩
  · obtain ⟨station, census, retry, time'⟩ := enterJoining_mc (counted (boundaryTaken .membership s))
    obtain ⟨silence, held, counter⟩ := enterJoining_share (counted (boundaryTaken .membership s))
    obtain ⟨claim, slot⟩ := enterJoining_claim (counted (boundaryTaken .membership s))
    rw [alloc] at claim slot counter
    refine ⟨_, congrArg Host.Outcome.next (effect.trans (joinIfDue_of_due hjoin)), ?_, ?_,
        fun _ => ⟨station, silence, held, counter, claim, slot⟩,
      fun h => absurd h hnot, ?_⟩
    · rw [census, mc]
      rfl
    · rw [retry, mc]
      rfl
    · rw [time', time]
      rfl
  · refine ⟨_, congrArg Host.Outcome.next (effect.trans (joinIfDue_of_not_due hnot)), ?_, ?_, fun h => absurd h hjoin,
        fun _ => ⟨?_, ?_⟩, ?_⟩
    · rw [mc]
      rfl
    · rw [mc]
      rfl
    · exact congrArg (fun u : State => { u with time := s.time }) rest
    · rw [mc]
      rfl
    · rw [time]
      rfl

/-! ## The fence (R40, R41) -/

theorem endUpdate_settles_changeState {new : StationState} (ha : new ≠ .active) (source : Option Nat) (s : State) :
    endUpdate source (changeState new s) = settle source (changeState new s) :=
        endUpdate_of_inactive source (by simpa using ha)

/-- The station fenced, at the end of the update that follows. -/
theorem fenced_update (source : Option Nat) (s : State) :
    (endUpdate source (changeState .fenced s)).mc.station = .fenced
      ∧ (endUpdate source (changeState .fenced s)).alloc.share.held = 0
      ∧ (endUpdate source (changeState .fenced s)).pilot.requested = 0
      ∧ (endUpdate source (changeState .fenced s)).alloc.claim = none
      ∧ (endUpdate source (changeState .fenced s)).outbox.hold = freshHold
      ∧ (endUpdate source (changeState .fenced s)).events.active.fenced = true := by
  have ha : StationState.fenced ≠ .active := by decide
  have inactive : (changeState .fenced s).mc.station ≠ .active := by simp
  obtain ⟨held, pilot, hold⟩ := changeState_idle ha s
  obtain ⟨pilot', hold'⟩ := settle_pilot_of_inactive source inactive
  have alarm := settle_stable (stableCore_alarms true false) source (changeState_alarms .fenced s)
  rw [endUpdate_settles_changeState ha]
  refine ⟨by simp, by rw [settle_held source (.inr (.inr inactive)), held], by rw [pilot', pilot, entered_pilot ha],
      ?_, ?_, alarm.1⟩
  · exact settle_claim_none source _ (changeState_claim .fenced s ha (by decide))
  · rw [hold', hold, entered_slots, (discardSlots_answers ha _).2.2.2.2, if_pos (.inr rfl)]

/-! ## The Allocation Engine and the Outbox (R83, R87, R132) -/

theorem tryStart_hold (s : State) : (tryStart s).outbox.hold = s.outbox.hold := by simp

theorem requestHold_active (hs : s.mc.station = .active) :
    (requestHold s).outbox.hold = if s.outbox.hold.occupancy = .filled then s.outbox.hold else freshHold := by
  rw [requestHold_hold]
  by_cases h : s.outbox.hold.occupancy = .filled <;> simp [holdAllowed, hs, h]

theorem requestHold_filled (hs : s.mc.station = .active) : (requestHold s).outbox.hold.occupancy = .filled := by
  rw [requestHold_active hs]
  split
  · assumption
  · rfl

theorem fenceIfSilent_of_lt (h : s.alloc.share.silence < 3) : fenceIfSilent s = s := if_neg (Nat.not_le.2 h)

theorem fenceIfSilent_of_le (h : 3 ≤ s.alloc.share.silence) : fenceIfSilent s = changeState .fenced s := if_pos h

theorem raiseSilence_share (s : State) :
    (raiseSilence s).alloc.share = { s.alloc.share with silence := min (s.alloc.share.silence + 1) 3 } := rfl

theorem allocationBoundary_active (hs : s.mc.station = .active) :
    allocationBoundary s = endUpdate none (fenceIfSilent (requestHold (raiseSilence s))) := by simp [allocationBoundary, hs]

theorem allocationBoundary_silence (hs : s.mc.station = .active ∨ s.mc.station = .joining) :
    (allocationBoundary s).alloc.share.silence = min (s.alloc.share.silence + 1) 3 := by
  rcases hs with hs | hs
  · rw [allocationBoundary_active hs]
    simp [raiseSilence_share]
  · simp [allocationBoundary, hs, raiseSilence_share]

theorem allocationBoundary_heard (hs : s.mc.station = .active) (h : s.alloc.share.silence < 2) :
    allocationBoundary s = endUpdate none (requestHold (raiseSilence s)) := by
  rw [allocationBoundary_active hs, fenceIfSilent_of_lt]
  simp [raiseSilence_share]
  omega

theorem allocationBoundary_silent (hs : s.mc.station = .active) (h : 2 ≤ s.alloc.share.silence) :
    allocationBoundary s = endUpdate none (changeState .fenced (requestHold (raiseSilence s))) := by
  rw [allocationBoundary_active hs, fenceIfSilent_of_le]
  simp [raiseSilence_share]
  omega

/-- Settles O11. -/
theorem allocationAndOutboxTakeTheBoundary : Obligations.AllocationAndOutboxTakeTheBoundary := by
  refine ⟨fun s hdue => ?_, fun s hdue => ?_, fun b s hnone => congrArg Host.Outcome.next (takeBoundary_none hnone),
    fun b rest s => ⟨_, rfl, rfl⟩, fun s => rfl⟩
  · have effect : leaseBoundary [.allocation] s = allocationBoundary (boundaryTaken .allocation s) := takeBoundary_due hdue
    refine ⟨_, congrArg Host.Outcome.next effect, ?_, fun hs => allocationBoundary_silence
        (s := boundaryTaken .allocation s) hs, ?_, ?_, ?_, ?_⟩
    · unfold allocationBoundary
      split <;> simp [boundaryTaken]
    · rintro ⟨hs, hlow⟩
      have active : (raiseSilence (boundaryTaken .allocation s)).mc.station = .active := hs
      rw [allocationBoundary_heard (s := boundaryTaken .allocation s) hs hlow]
      refine ⟨by simp [boundaryTaken, hs], ?_, by simp [boundaryTaken], by simp [boundaryTaken]⟩
      rw [endUpdate, tryStart_hold, settle_hold_of_filled none (requestHold_filled active), requestHold_active active]
      rfl
    · rintro ⟨hs, hhigh⟩
      rw [allocationBoundary_silent (s := boundaryTaken .allocation s) hs hhigh]
      exact fenced_update none _
    · intro hs
      have joining : (boundaryTaken .allocation s).mc.station = .joining := hs
      simp only [allocationBoundary, joining]
      rfl
    · rintro ⟨ha, hj⟩
      have stays : allocationBoundary (boundaryTaken .allocation s) = boundaryTaken .allocation s := by
        unfold allocationBoundary
        split
        · exact absurd ‹_› ha
        · exact absurd ‹_› hj
        · rfl
      rw [stays]
      rfl
  · have effect : leaseBoundary [.outbox] s = outboxBoundary (boundaryTaken .outbox s) := takeBoundary_due hdue
    refine ⟨_, congrArg Host.Outcome.next effect, ?_⟩
    by_cases hs : s.mc.station = .active
    · have active : (boundaryTaken .outbox s).mc.station = .active := hs
      rw [outboxBoundary, if_pos active, if_pos hs]
      exact ⟨rfl, rfl, rfl⟩
    · have inactive : (boundaryTaken .outbox s).mc.station ≠ .active := hs
      rw [outboxBoundary, if_neg inactive, if_neg hs]
      exact ⟨rfl, rfl, rfl⟩

/-! ## The watchdog (R41, R145) -/

theorem fenceUnfed_of_fencing (h : s.mc.station = .active ∨ s.mc.station = .joining ∨ s.mc.station = .waiting) :
    fenceUnfed s = endUpdate none (changeState .fenced s) := by
  rcases h with h | h | h <;> simp [fenceUnfed, h]

theorem fenceUnfed_of_other (h : s.mc.station ≠ .active ∧ s.mc.station ≠ .joining ∧ s.mc.station ≠ .waiting) :
    fenceUnfed s = s := by
  obtain ⟨ha, hj, hw⟩ := h
  unfold fenceUnfed
  split
  · exact absurd ‹_› ha
  · exact absurd ‹_› hj
  · exact absurd ‹_› hw
  · rfl

theorem restartWatchdog_time_only : restartWatchdog s = { s with time := (restartWatchdog s).time } := rfl

/-- Settles O15. -/
theorem watchdogExpiryReportsFencesAndRestarts : Obligations.WatchdogExpiryReportsFencesAndRestarts := by
  refine ⟨fun s hr hon hzero => ?_, fun s hnot => congrArg Host.Outcome.next (if_neg ?_)⟩
  · have effect : watchdogExpired s
        = restartWatchdog (fenceUnfed (raise .watchdogExpired none none (some (valueOf s.time.watchdog.interval)) s)) :=
      if_pos ⟨hr, hon, hzero⟩
    refine ⟨_, congrArg Host.Outcome.next effect, ?_, fun hfence => ?_, fun hother => ?_⟩
    · have time : (fenceUnfed (raise .watchdogExpired none none (some (valueOf s.time.watchdog.interval)) s)).time
          = s.time := by
        unfold fenceUnfed
        split <;> simp
      rw [restartWatchdog, time]
      rfl
    · rw [fenceUnfed_of_fencing (by simpa using hfence)]
      obtain ⟨station, held, requested, claim, hold, -⟩ :=
        fenced_update none (raise .watchdogExpired none none (some (valueOf s.time.watchdog.interval)) s)
      have stays : ∀ u : State, (u.mc.station = .fenced ∧ u.alloc.share.held = 0 ∧ u.pilot.requested = 0
          ∧ u.alloc.claim = none
          ∧ u.outbox.hold = { occupancy := .filled, attempts := 0, inFlight := false, resting := false }) →
          restartWatchdog u = { u with time := (restartWatchdog u).time }
            ∧ (restartWatchdog u).mc.station = .fenced ∧ (restartWatchdog u).alloc.share.held = 0
            ∧ (restartWatchdog u).pilot.requested = 0 ∧ (restartWatchdog u).alloc.claim = none
            ∧ (restartWatchdog u).outbox.hold
              = { occupancy := .filled, attempts := 0, inFlight := false, resting := false } :=
        fun u h => ⟨rfl, h⟩
      exact stays _ ⟨station, held, requested, claim, hold⟩
    · rw [fenceUnfed_of_other (by simpa using hother)]
      exact ⟨rfl, rfl⟩
  · rintro ⟨hr, hon, hzero⟩
    rcases hnot with h | h | h
    · exact hr h
    · exact hon h
    · exact h hzero

end Sys2Proof.Machine
end

section
/-! PROOFS. The pilot unit takes a period start and a change of FAULT_IN (O20). -/
namespace Sys2Proof.Machine
variable {s : State}

/-! ## What a period start finds -/

theorem PilotUnit.found_of_handed {p : PilotUnit} {between : Option Handover} (h : between = none ∨ p.former = none) :
    p.found between = (p.requested, p.stateCopy) := by
  rcases h with h | h
  · subst h; rfl
  · unfold found
    split
    · simp_all
    · simp_all
    · rfl

theorem PilotUnit.found_of_former {p : PilotUnit} {between : Option Handover} {former : Nat × StationState} {drive : Nat}
    {station : StationState} (hf : p.former = some former)
    (h : (between = some .drive ∧ drive = p.requested ∧ station = former.2)
      ∨ (between = some .station ∧ drive = former.1 ∧ station = p.stateCopy)) :
    p.found between = (drive, station) := by
  rcases h with ⟨rfl, rfl, rfl⟩ | ⟨rfl, rfl, rfl⟩ <;> simp [found, hf]

/-! ## The mode and the hand-over of the sample -/

theorem modeOf_eq (faultIn : Bool) (station : StationState) :
    modeOf faultIn station = if faultIn = true ∨ station = .fenced ∨ station = .fault then .fence
      else if station = .active then .drive else .idle := by
  cases faultIn <;> cases station <;> rfl

theorem boolHalf (b : Bool) : BitVec.ofNat 16 b.toNat = if b then 1 else 0 := by cases b <;> rfl

theorem handFaultIn_events_of_eq {before : Bool} (h : s.pilot.faultIn = before) :
    (handFaultIn before s).events = s.events := congrArg State.events (if_pos h)

theorem handFaultIn_other {before : Bool} (h : s.pilot.faultIn ≠ before) :
    (handFaultIn before s).events =
      { s.events.take .faultInChanged none none (some (if s.pilot.faultIn then 1 else 0)) s.time.ms with
        active := { s.events.active with faultIn := s.pilot.faultIn }
        acked := { s.events.acked with faultIn := s.pilot.faultIn && s.events.acked.faultIn } } := by
  rw [handFaultIn, if_neg h, boolHalf]
  cases s.pilot.faultIn <;> simp [setCondition, AlertSet.put]

theorem handFaultIn_keeps_rest (before : Bool) (s : State) : { handFaultIn before s with events := s.events } = s := by
  unfold handFaultIn
  split <;> rfl

theorem handFaultIn_pilot (before : Bool) (s : State) : (handFaultIn before s).pilot = s.pilot := by
  unfold handFaultIn
  split <;> rfl

/-! ## The Allocation Engine's taking of a change -/

theorem faultInChange_of_not (h : s.mc.station = .reset ∨ s.pilot.faultDue = false) : faultInChange s = s := by
  refine if_neg ?_
  rintro ⟨hs, hd⟩
  rcases h with h | h
  · exact hs h
  · simp [h] at hd

theorem faultInChange_of_due (hs : s.mc.station ≠ .reset) (hd : s.pilot.faultDue = true) :
    faultInChange s = requestActiveHold (recomputeDrive { s with pilot := { s.pilot with faultDue := false } }) :=
  if_pos ⟨hs, hd⟩

theorem requestHold_only (s : State) : { requestHold s with outbox := s.outbox } = s := by
  unfold requestHold
  split <;> rfl

theorem requestActiveHold_only (s : State) : { requestActiveHold s with outbox := s.outbox } = s := by
  unfold requestActiveHold
  split
  · exact requestHold_only s
  · rfl

theorem requestHold_outbox_only (s : State) : { (requestHold s).outbox with hold := s.outbox.hold } = s.outbox := by
  unfold requestHold
  split <;> rfl

theorem requestActiveHold_outbox_only (s : State) :
    { (requestActiveHold s).outbox with hold := s.outbox.hold } = s.outbox := by
  unfold requestActiveHold
  split
  · exact requestHold_outbox_only s
  · rfl

theorem requestActiveHold_hold (s : State) :
    (requestActiveHold s).outbox.hold =
      if s.mc.station = .active ∧ s.outbox.hold.occupancy ≠ .filled then freshHold else s.outbox.hold := by
  unfold requestActiveHold
  by_cases hs : s.mc.station = .active
  · rw [if_pos hs, requestHold_active hs]
    by_cases h : s.outbox.hold.occupancy = .filled <;> simp [h, hs]
  · simp [hs]

/-- What the Allocation Engine does with a change of FAULT_IN that waits. -/
theorem faultInChange_spec (hs : s.mc.station ≠ .reset) (hd : s.pilot.faultDue = true) :
    (faultInChange s).pilot =
        { s.pilot with
          faultDue := false
          former := none
          requested := driveLevel s }
      ∧ (faultInChange s).outbox.hold =
          (if s.mc.station = .active ∧ s.outbox.hold.occupancy ≠ .filled then freshHold else s.outbox.hold)
      ∧ { faultInChange s with pilot := s.pilot, outbox := s.outbox } = s
      ∧ { (faultInChange s).outbox with hold := s.outbox.hold } = s.outbox := by
  rw [faultInChange_of_due hs hd]
  generalize hu : recomputeDrive { s with pilot := { s.pilot with faultDue := false } } = u
  have pilot : u.pilot = { s.pilot with faultDue := false, former := none, requested := driveLevel s } := by
    rw [← hu]; rfl
  have outbox : u.outbox = s.outbox := by rw [← hu]; rfl
  have station : u.mc.station = s.mc.station := by rw [← hu]; rfl
  have rest : { u with pilot := s.pilot } = s := by rw [← hu]; rfl
  have kept := requestActiveHold_only u
  refine ⟨?_, ?_, ?_, ?_⟩
  · rw [← pilot]
    have same := congrArg State.pilot kept
    exact same
  · rw [requestActiveHold_hold, outbox, station]
  · rw [← outbox]
    calc { requestActiveHold u with pilot := s.pilot, outbox := u.outbox }
        = { { requestActiveHold u with outbox := u.outbox } with pilot := s.pilot } := rfl
      _ = { u with pilot := s.pilot } := by rw [kept]
      _ = s := rest
  · rw [← outbox]
    exact requestActiveHold_outbox_only u

/-! ## The obligation -/

theorem pilotPeriodStart_of_due (levels : LoadLevels) (between : Option Handover) (hs : s.mc.station ≠ .reset)
    (hp : 0 < s.pilot.periodDue) : pilotPeriodStart levels between s = startPeriod levels between (faultInChange s) :=
  if_pos ⟨hs, hp⟩

theorem pilotPeriodStart_of_not (levels : LoadLevels) (between : Option Handover)
    (h : s.mc.station = .reset ∨ s.pilot.periodDue = 0) : pilotPeriodStart levels between s = s := by
  refine if_neg ?_
  rintro ⟨hs, hp⟩
  rcases h with h | h
  · exact hs h
  · omega

/-- A change of FAULT_IN still waiting at a period start is taken ahead of it. -/
theorem pilotPeriodStart_faultInChange (levels : LoadLevels) (between : Option Handover) (hs : s.mc.station ≠ .reset)
    (hp : 0 < s.pilot.periodDue) (hd : s.pilot.faultDue = true) :
    (faultInChange s).pilot.faultDue = false ∧ (faultInChange s).pilot.periodDue = s.pilot.periodDue
      ∧ pilotPeriodStart levels between s = pilotPeriodStart levels between (faultInChange s) := by
  obtain ⟨pilot, -, rest, -⟩ := faultInChange_spec hs hd
  have taken : (faultInChange s).pilot.faultDue = false := by rw [pilot]
  have due : (faultInChange s).pilot.periodDue = s.pilot.periodDue := by rw [pilot]
  have station : (faultInChange s).mc.station = s.mc.station := congrArg (fun u => u.mc.station) rest
  refine ⟨taken, due, ?_⟩
  rw [pilotPeriodStart_of_due levels between hs hp,
    pilotPeriodStart_of_due levels between (by rwa [station]) (by rwa [due]), faultInChange_of_not (.inr taken)]

/-- Settles O20. -/
theorem pilotUnitTakesPeriodAndFault : Obligations.PilotUnitTakesPeriodAndFault := by
  refine ⟨fun faultIn loadIn between drive station s hs hp hd hfound => ?_, fun levels between s hs hp hd => ?_,
    fun levels between s h => congrArg Host.Outcome.next (pilotPeriodStart_of_not levels between h), fun new s ha => ?_,
    fun s hs hd => ?_, fun s h => congrArg Host.Outcome.next (faultInChange_of_not h)⟩
  · have found : s.pilot.found between = (drive, station) := by
      rcases hfound with ⟨h, rfl, rfl⟩ | ⟨former, hf, h⟩
      · exact PilotUnit.found_of_handed h
      · exact PilotUnit.found_of_former hf h
    have effect : pilotPeriodStart { faultIn := faultIn, loadIn := loadIn } between s
        = handFaultIn s.pilot.faultIn
            { s with pilot := s.pilot.nextPeriod { faultIn := faultIn, loadIn := loadIn } (drive, station) } := by
      rw [pilotPeriodStart_of_due _ _ hs hp, faultInChange_of_not (.inr hd), startPeriod, found]
    refine ⟨_, congrArg Host.Outcome.next effect, ?_⟩
    rw [handFaultIn_pilot]
    refine ⟨rfl, rfl, rfl, rfl, rfl, rfl, modeOf_eq faultIn station, fun h => ⟨if_pos h, if_pos h⟩,
      fun h => ⟨if_neg h, if_neg h⟩, rfl, rfl, rfl, rfl, rfl, rfl, fun h => ?_, fun h => ?_, ?_⟩
    · exact handFaultIn_events_of_eq h
    · exact handFaultIn_other h
    · unfold handFaultIn
      split <;> rfl
  · obtain ⟨taken, due, ahead⟩ := pilotPeriodStart_faultInChange levels between hs hp hd
    exact ⟨_, rfl, taken, due, congrArg Host.Outcome.next ahead⟩
  · rw [(changeState_idle ha s).2.1, entered_pilot ha]
  · obtain ⟨pilot, hold, rest, restOutbox⟩ := faultInChange_spec hs hd
    exact ⟨_, rfl, pilot, hold, rest, restOutbox⟩

end Sys2Proof.Machine
end

section
/-! PROOFS. The ends of the own claim: a failure, a lapse, an abandonment, and a join that goes to WAITING (R57, R60,
R62 to R64). -/
namespace Sys2Proof.Machine
variable {s t u : State} {c : ClaimRecord} {a : Attempt} {source : Option Nat}

/-! ## A claim that ends in a failure that counts -/

/-- The own claim has ended in a failure that counts, its CLAIM slot empty and an attempt of it cut; the Event Unit is at
`events`. -/
def claimEnded (events : EventUnit) (s : State) : State :=
  { s with
    alloc := claimCounted s
    outbox := { s.outbox with claim := ClaimSlot.empty }
    line := { s.line with tx := s.line.tx.cutFrom .claim }
    events := events }

theorem claimEnded_eq (events : EventUnit) (s : State) :
    claimEnded events s = countFailure (removeClaim { s with events := events }) := rfl

theorem failClaim_increase (reason : EndReason) (objector : Option Nat) (hc : s.alloc.claim = some c)
    (hk : c.kind = .increase) :
    failClaim reason objector s =
      claimEnded (s.events.take .claimFailed objector (some c.number)
          (some (BitVec.ofNat 16 (256 * 1 + reason.code))) s.time.ms)
        s := by
  simp only [failClaim, hc, hk, afterClaim, joined_increase]
  rfl

theorem lapseClaim_increase (hc : s.alloc.claim = some c) (hk : c.kind = .increase) :
    lapseClaim s = claimEnded (s.events.take .claimLapsed none (some c.number) (some (valueOf c.amount)) s.time.ms) s := by
  simp only [lapseClaim, hc, hk, afterClaim]
  rfl

theorem abandonClaim_increase {reason : EndReason} (hc : s.alloc.claim = some c) (hk : c.kind = .increase)
    (hr : reason ≠ .stateChange) :
    abandonClaim reason s =
      claimEnded (s.events.take .claimAbandoned none (some c.number)
          (some (BitVec.ofNat 16 (256 * 1 + reason.code))) s.time.ms)
        s := by
  have counted : (ClaimKind.increase == .increase && reason != .stateChange) = true := by simp [hr]
  simp only [abandonClaim, hc, hk, joined_increase, counted, countIf, if_true]
  rfl

/-! ## A join that ends -/

theorem failClaim_floor {reason : EndReason} (objector : Option Nat) (hc : s.alloc.claim = some c) (hk : c.kind = .floor) :
    failClaim reason objector s =
      changeState (if reason = .mismatch then .fault else .waiting)
        (removeClaim (raise .claimFailed objector (some c.number) (some (joined 0 reason.code)) s)) := by
  simp only [failClaim, hc, hk, afterClaim]
  rfl

theorem lapseClaim_floor (hc : s.alloc.claim = some c) (hk : c.kind = .floor) :
    lapseClaim s = changeState .waiting (removeClaim (raise .claimLapsed none (some c.number)
        (some (valueOf c.amount)) s)) := by
  simp only [lapseClaim, hc, hk, afterClaim]

/-- What a change to a state that keeps no claim and no HOLD leaves, once the update has ended. -/
theorem emptied_update {new : StationState} (ha : new ≠ .active) (hj : new ≠ .joining) (hl : new ≠ .leaving)
    (hf : new ≠ .fenced)
    (source : Option Nat) (s : State) :
    (endUpdate source (changeState new s)).mc.station = new
      ∧ (endUpdate source (changeState new s)).mc.retry = (if new = .waiting then 0 else s.mc.retry)
      ∧ (endUpdate source (changeState new s)).alloc.claim = none
      ∧ (endUpdate source (changeState new s)).outbox.hold = HoldSlot.empty
      ∧ (endUpdate source (changeState new s)).outbox.claim = ClaimSlot.empty
      ∧ (endUpdate source (changeState new s)).alloc.share.failures = s.alloc.share.failures
      ∧ (endUpdate source (changeState new s)).alloc.share.backoff = s.alloc.share.backoff := by
  have inactive : (changeState new s).mc.station ≠ .active := by simpa using ha
  have noClaim := changeState_claim new s ha hj
  obtain ⟨-, -, hold⟩ := changeState_idle ha s
  obtain ⟨-, -, claimSlot, -, holdSlot⟩ := discardSlots_answers ha (turned new s)
  have quiet := endUpdate_quiet_of_no_claim source inactive noClaim
  have alloc := changeState_alloc (s := s) ha fun h => absurd h hj
  have claim : (changeState new s).outbox.claim = ClaimSlot.empty := by
    rw [changeState_eq]
    exact settle_claimSlot none (by rw [entered_slots, claimSlot])
  rw [quiet.mc, quiet.alloc, quiet.outbox, alloc]
  exact ⟨by simp, changeState_retry new s, rfl, by rw [hold, entered_slots, holdSlot, if_neg (by simp [hl, hf])],
      claim, rfl, rfl⟩

/-- A join that ends goes to WAITING, without a failure that counts (R35, R64). -/
theorem waiting_update (source : Option Nat) (s : State) :
    (endUpdate source (changeState .waiting s)).mc.station = .waiting
      ∧ (endUpdate source (changeState .waiting s)).mc.retry = 0
      ∧ (endUpdate source (changeState .waiting s)).alloc.claim = none
      ∧ (endUpdate source (changeState .waiting s)).outbox.hold = HoldSlot.empty
      ∧ (endUpdate source (changeState .waiting s)).outbox.claim = ClaimSlot.empty
      ∧ (endUpdate source (changeState .waiting s)).alloc.share.failures = s.alloc.share.failures
      ∧ (endUpdate source (changeState .waiting s)).alloc.share.backoff = s.alloc.share.backoff :=
  emptied_update (new := .waiting) (by decide) (by decide) (by decide) (by decide) source s

/-! ## The limits -/

theorem not_covered_iff (c : ClaimRecord) : c.covered = false ↔ ∃ i ∈ c.roll, i ∉ c.assents := by simp [ClaimRecord.covered]

theorem responseWindowPassed_of_due (hc : s.alloc.claim = some c) (hp : c.phase = .awaiting) (hw : c.window = 0)
    (hcov : ∃ i ∈ c.roll, i ∉ c.assents) : responseWindowPassed s = endUpdate none (failClaim .noAnswer none s) := by
  have uncovered := (not_covered_iff c).2 hcov
  rw [responseWindowPassed, hc, if_pos (by simp [hp, hw, uncovered])]

theorem commitDeadlinePassed_of_waiting (hc : s.alloc.claim = some c) (hp : c.phase = .committing) (hd : c.deadline = 0)
    (hpassed : c.deadlinePassed = false) (hin : c.inFlight = false) :
        commitDeadlinePassed s = endUpdate none (lapseClaim s) := by
  simp [commitDeadlinePassed, hc, hp, hd, hpassed, hin]

theorem commitDeadlinePassed_of_inFlight (hc : s.alloc.claim = some c) (hp : c.phase = .committing) (hd : c.deadline = 0)
    (hpassed : c.deadlinePassed = false) (hin : c.inFlight = true) :
    commitDeadlinePassed s = setClaim (some { c with deadlinePassed := true }) s := by
  simp [commitDeadlinePassed, hc, hp, hd, hpassed, hin]

/-! ## The report of a collision -/

/-- A collision reaches the slot of an attempt that has met it (R113, R129). -/
theorem attemptCollided_of_sends {slot : SlotId} (h : SendsFrom s slot a) (hm : a.mismatch = true) :
    attemptCollided s = slotFailed true slot (endAttempt s) := by
  obtain ⟨tx, rfl, running, -⟩ := h
  simp [attemptCollided, tx, Attempt.collided, hm, running]

@[simp] theorem endAttempt_outbox (s : State) : (endAttempt s).outbox = s.outbox := rfl

theorem attemptCollided_hold (h : SendsFrom s .hold a) (hm : a.mismatch = true) :
    attemptCollided s = holdFailed true (endAttempt s) := by
  have inFlight : s.outbox.hold.inFlight = true := h.2.2.2
  rw [attemptCollided_of_sends h hm, slotFailed, endAttempt_outbox, if_pos inFlight]

theorem exhaustHold_of_lt (h : s.outbox.hold.attempts < 16) (collided : Bool) : exhaustHold collided s = s := by
  rw [exhaustHold, if_neg]
  rintro ⟨-, hle⟩
  simp only [Config.maxAttempts] at hle
  omega

theorem settleCommit_of_inFlight (hc : s.alloc.claim = some c) (hin : c.inFlight = true) :
    settleCommit s = settleFailedCommit c (setClaim (some { c with inFlight := false }) s) := by
  simp [settleCommit, hc, hin]

theorem settleCommit_of_idle (h : ∀ c, s.alloc.claim = some c → c.inFlight = false) : settleCommit s = s := by
  unfold settleCommit
  split
  · rfl
  · rename_i c hc
    rw [if_neg (by simp [h c hc])]

theorem lapseClaim_claim (s : State) : (lapseClaim s).alloc.claim = none := by
  cases hc : s.alloc.claim with
  | none => simp [lapseClaim, hc]
  | some c =>
    cases hk : c.kind with
    | increase => rw [lapseClaim_increase hc hk]; rfl
    | floor =>
      rw [lapseClaim_floor hc hk]
      exact changeState_claim .waiting _ (by decide) (by decide)

theorem settleFailedCommit_claim (c : ClaimRecord) (s : State) :
    (settleFailedCommit c s).alloc.claim = none ∨ settleFailedCommit c s = s := by
  unfold settleFailedCommit
  split
  · split
    · exact .inl (lapseClaim_claim s)
    · exact .inl (abandonClaim_claim _ s)
  · exact .inl (lapseClaim_claim s)
  · exact .inl (abandonClaim_claim _ s)
  · exact .inr rfl

/-- A failed commit attempt changes the own claim record, and so its report is an update (R7, R58). -/
theorem holdFailed_of_inFlight {collided : Bool} (hc : s.alloc.claim = some c) (hin : c.inFlight = true)
    (hkept : (exhaustHold collided (countHold collided s)).alloc.claim = some c) :
    holdFailed collided s =
      endUpdate none (settleFailedCommit c
        (setClaim (some { c with inFlight := false }) (exhaustHold collided (countHold collided s)))) := by
  rw [holdFailed, settleCommit_of_inFlight hkept hin]
  refine endIfChanged_claim _ _ ?_
  rw [hc]
  rcases settleFailedCommit_claim c (setClaim (some { c with inFlight := false })
      (exhaustHold collided (countHold collided s)))
    with none | same
  · rw [none]
    exact (Option.some_ne_none c).symm
  · rw [same, setClaim_claim]
    intro h
    have idle : false = c.inFlight := congrArg ClaimRecord.inFlight (Option.some.inj h)
    rw [hin] at idle
    cases idle

theorem settleFailedCommit_of_waiting (hd : c.deadlinePassed = false) (hdrop : dropDue c s = false) :
    settleFailedCommit c s = s := by simp [settleFailedCommit, hd, hdrop]

theorem settleFailedCommit_of_dropped (hd : c.deadlinePassed = false) (hdrop : dropDue c s = true) :
    settleFailedCommit c s = abandonClaim .demandDrop s := by simp [settleFailedCommit, hd, hdrop]

theorem settleFailedCommit_of_passed (hd : c.deadlinePassed = true) (hdrop : dropDue c s = false) :
    settleFailedCommit c s = lapseClaim s := by simp [settleFailedCommit, hd, hdrop]

/-- Where the deadline has passed and the target has dropped the claim has ended in one of the two ways, counted once
(log 9). -/
theorem settleFailedCommit_of_both (hc : s.alloc.claim = some c) (hk : c.kind = .increase) (hd : c.deadlinePassed = true)
    (b : Bool) : ∃ events, settleFailedCommit c (setClaim (some { c with inFlight := b }) s) = claimEnded events s := by
  have lapsed := lapseClaim_rewritten b hc
  have abandoned := abandonClaim_rewritten b .demandDrop hc
  unfold settleFailedCommit
  split
  · split
    · exact ⟨_, lapsed.trans (lapseClaim_increase hc hk)⟩
    · exact ⟨_, abandoned.trans (abandonClaim_increase hc hk (by decide))⟩
  · exact ⟨_, lapsed.trans (lapseClaim_increase hc hk)⟩
  all_goals simp_all

theorem settleFailedCommit_lapsed (hc : s.alloc.claim = some c) (hd : c.deadlinePassed = true)
    (hdrop : dropDue c s = false) :
    settleFailedCommit c (setClaim (some { c with inFlight := false }) s) = lapseClaim s := by
  rw [settleFailedCommit_of_passed hd (by simpa [dropDue] using hdrop), lapseClaim_rewritten false hc]

theorem settleFailedCommit_abandoned (hc : s.alloc.claim = some c) (hd : c.deadlinePassed = false)
    (hdrop : dropDue c s = true) :
    settleFailedCommit c (setClaim (some { c with inFlight := false }) s) = abandonClaim .demandDrop s := by
  rw [settleFailedCommit_of_dropped hd (by simpa [dropDue] using hdrop), abandonClaim_rewritten false _ hc]

theorem dropDue_eq_false (h : c.kind = .floor ∨ s.alloc.share.held < s.alloc.share.demand) : dropDue c s = false := by
  rw [← Bool.not_eq_true, dropDue_iff]
  rintro ⟨hk, hle⟩
  rcases h with h | h
  · rw [h] at hk
    cases hk
  · omega

end Sys2Proof.Machine
end

section
/-! PROOFS. The response window, the commit deadline and a failed commit attempt (O13). -/
namespace Sys2Proof.Machine
variable {s : State} {c : ClaimRecord} {a : Attempt}

/-- A failed commit attempt below the sixteenth: its claim is settled over the counted slot. -/
theorem attemptCollided_commit (hc : s.alloc.claim = some c) (hin : c.inFlight = true) (hlt : s.outbox.hold.attempts < 15)
    (h : SendsFrom s .hold a) (hm : a.mismatch = true) :
    attemptCollided s =
      endUpdate none (settleFailedCommit c (setClaim (some { c with inFlight := false })
          (countHold true (endAttempt s)))) := by
  have below : exhaustHold true (countHold true (endAttempt s)) = countHold true (endAttempt s) := by
    refine exhaustHold_of_lt ?_ true
    show s.outbox.hold.attempts + 1 < 16
    omega
  rw [attemptCollided_hold h hm, holdFailed_of_inFlight (s := endAttempt s) (c := c) hc hin (by rw [below]; exact hc), below]

theorem settle_failures_of_no_claim (source : Option Nat) (hc : s.alloc.claim = none) :
    (settle source s).alloc.share.failures = s.alloc.share.failures
      ∧ (settle source s).alloc.share.backoff = s.alloc.share.backoff := by
  rcases settle_quiet_or_cut source s with quiet | ⟨v, before, after⟩
  · rw [quiet.alloc]
    exact ⟨rfl, rfl⟩
  · rw [after.alloc, abandonIncrease_none _ _ (by rw [before.alloc, hc])]
    simp [before.alloc]

/-- The backoff keeps the next claim from starting where one has just ended in a failure that counts (R53, R65). -/
theorem endUpdate_claimEnded (source : Option Nat) (events : EventUnit) (s : State) :
    (endUpdate source (claimEnded events s)).alloc.claim = none
      ∧ (endUpdate source (claimEnded events s)).alloc.share.failures = min (s.alloc.share.failures + 1) 15 := by
  obtain ⟨failures, backoff⟩ := settle_failures_of_no_claim source (s := claimEnded events s) rfl
  have none := settle_claim_none source (claimEnded events s) rfl
  have waits : mayStart (settle source (claimEnded events s)) = false := by
    rw [← Bool.not_eq_true, mayStart_iff, backoff]
    rintro ⟨-, -, -, -, -, -, hb, -⟩
    cases hb
  rw [endUpdate, tryStart_of_not waits]
  exact ⟨none, failures⟩

/-- Settles O13. -/
theorem limitsAndFailedCommitsEndTheClaim : Obligations.LimitsAndFailedCommitsEndTheClaim := by
  refine ⟨fun c s hc hk hp hw hcov => ?_, fun c s hc hk hp hd hin hpassed => ?_, fun c s hc hp hd hin hpassed => ?_,
    fun c s hc hs hk hp hw hcov => ?_, fun c s hc hs hk hp hd hin hpassed => ?_, fun c a s hc hin hlt h hm => ?_⟩
  · have effect := (responseWindowPassed_of_due hc hp hw hcov).trans
        (congrArg (endUpdate none) (failClaim_increase _ none hc hk))
    exact congrArg Host.Outcome.next effect
  · have effect := (commitDeadlinePassed_of_waiting hc hp hd hpassed hin).trans
        (congrArg (endUpdate none) (lapseClaim_increase hc hk))
    exact congrArg Host.Outcome.next effect
  · exact congrArg Host.Outcome.next (commitDeadlinePassed_of_inFlight hc hp hd hpassed hin)
  · have effect := responseWindowPassed_of_due hc hp hw hcov
    rw [failClaim_floor none hc hk] at effect
    refine ⟨_, congrArg Host.Outcome.next effect, ?_⟩
    have ended := waiting_update none (removeClaim (raise .claimFailed none (some c.number)
        (some (joined 0 EndReason.noAnswer.code)) s))
    simpa using ended
  · have effect := commitDeadlinePassed_of_waiting hc hp hd hpassed hin
    rw [lapseClaim_floor hc hk] at effect
    refine ⟨_, congrArg Host.Outcome.next effect, ?_⟩
    have ended := waiting_update none (removeClaim (raise .claimLapsed none (some c.number) (some (valueOf c.amount)) s))
    simpa using ended
  · have effect := attemptCollided_commit hc hin hlt h hm
    generalize hw : countHold true (endAttempt s) = w at effect
    have claim : w.alloc.claim = some c := by rw [← hw]; exact hc
    have share : w.alloc.share = s.alloc.share := by rw [← hw]; rfl
    refine ⟨fun ⟨hd, hstay⟩ => ?_, fun ⟨hk, hd, hlow⟩ => ?_, fun ⟨hk, hd, hdrop⟩ => ?_, fun ⟨hk, hd, hdrop⟩ => ?_,
        fun ⟨hk, hd⟩ => ?_⟩
    · rw [settleFailedCommit_of_waiting hd (by simpa [dropDue, share] using dropDue_eq_false (c := c) (s := s) hstay),
          ← hw] at effect
      exact congrArg Host.Outcome.next effect
    · rw [settleFailedCommit_lapsed claim hd (dropDue_eq_false (.inr (by rwa [share]))), lapseClaim_increase claim hk,
          ← hw] at effect
      exact congrArg Host.Outcome.next effect
    · rw [settleFailedCommit_abandoned claim hd ((dropDue_iff c w).2 ⟨hk, by rwa [share]⟩),
          abandonClaim_increase claim hk (by decide),
        ← hw] at effect
      exact congrArg Host.Outcome.next effect
    · obtain ⟨events, ended⟩ := settleFailedCommit_of_both claim hk hd false
      rw [ended] at effect
      obtain ⟨none, failures⟩ := endUpdate_claimEnded none events w
      exact ⟨_, congrArg Host.Outcome.next effect, none, by rw [failures, share]⟩
    · rw [settleFailedCommit_lapsed claim hd (dropDue_eq_false (.inl hk)), lapseClaim_floor claim hk] at effect
      refine ⟨_, congrArg Host.Outcome.next effect, ?_⟩
      have ended := waiting_update none (removeClaim (raise .claimLapsed none (some c.number) (some (valueOf c.amount)) w))
      simpa [share] using ended

end Sys2Proof.Machine
end

section
/-! PROOFS. An earmark and an answer whose time has passed (O12, O14). -/
namespace Sys2Proof.Machine
variable {s t u : State} {i j k : Nat} {source : Option Nat} {P : Transmitter → Prop}

/-! ## Updates whose sum of held shares fits -/

theorem ownEntry_share_congr (hs : t.mc = s.mc) (ha : t.alloc = s.alloc) : (ownEntry t).share = (ownEntry s).share := by
  unfold Entry.share Entry.valid ownEntry
  rw [hs, ha]

theorem Trimmed.sumHeld_le (h : Trimmed s t) : sumHeld t ≤ sumHeld s := by
  rw [sumHeld_eq, sumHeld_eq]
  refine List.sum_le_sum fun i hi => ?_
  have peer := isPeer_congr (t := t) (s := s) (by rw [h.mc]) (by rw [h.mc]) i
  unfold view
  rw [peer]
  split
  · exact h.share i (List.mem_range.1 hi)
  · exact (ownEntry_share_congr h.mc h.alloc).le

theorem Settled.fits (h : Settled s) (hclear : s.table.overcommit = false) : sumHeld s ≤ capacity s := by
  obtain ⟨-, -, overcommit⟩ := h
  refine Nat.le_of_not_lt fun hlt => ?_
  rw [overcommit.2 hlt] at hclear
  cases hclear

theorem Settled.same (h : Settled s) (hclear : s.table.overcommit = false) :
    s.table.overcommit = true ↔ capacity s < sumHeld s := by
  have fits := h.fits hclear
  rw [hclear]
  exact ⟨fun h => (by cases h), fun h => absurd h (Nat.not_lt.2 fits)⟩

theorem endUpdate_log_of_fits (source : Option Nat) (hclear : s.table.overcommit = false) (hfits : sumHeld s ≤ capacity s) :
    (endUpdate source s).events.log = s.events.log := by
  rw [endUpdate, tryStart_events, settle_log_of_unset source (.inr hfits), hclear]
  rfl

theorem endIfChanged_log_of_fits (before : State) (hclear : s.table.overcommit = false) (hfits : sumHeld s ≤ capacity s) :
    (endIfChanged before s).events.log = s.events.log := by
  unfold endIfChanged
  split
  · exact endUpdate_log_of_fits none hclear hfits
  · rfl

theorem endUpdate_tx (hP : CutClosed P) (source : Option Nat) (h : P s.line.tx) : P (endUpdate source s).line.tx := by
  have line : (endUpdate source s).line = (settle source s).line := by simp [endUpdate]
  rw [line]
  exact settle_tx hP source h

theorem endIfChanged_tx (hP : CutClosed P) (before : State) (h : P s.line.tx) : P (endIfChanged before s).line.tx := by
  unfold endIfChanged
  split
  · exact endUpdate_tx hP none h
  · exact h

/-! ## An ANSWER slot emptied -/

theorem answerAt_congr (h : t.outbox.answers = s.outbox.answers) (j : Nat) : answerAt t j = answerAt s j := by
  rw [answerAt, answerAt, h]

/-- ANSWER slot `k` is emptied from `s` to `t`, and out of the answer list; the other three stand. -/
def AnswerGone (k : Nat) (s t : State) : Prop :=
  t.outbox.answers = s.outbox.answers.set k AnswerSlot.empty ∧ t.outbox.answerList = s.outbox.answerList.filter (· != k)

theorem emptyAnswer_gone (k : Nat) (s : State) : AnswerGone k s (emptyAnswer k s) := emptyAnswer_answers k s

theorem AnswerGone.congr (h : AnswerGone k s t) (hans : u.outbox.answers = t.outbox.answers)
    (hlist : u.outbox.answerList = t.outbox.answerList) : AnswerGone k s u := ⟨hans.trans h.1, hlist.trans h.2⟩

theorem AnswerGone.answerAt_self (h : AnswerGone k s t) (hl : s.outbox.answers.length = 4) (hk : k < 4) :
    answerAt t k = AnswerSlot.empty := by
  rw [answerAt_eq, h.1, slotAt_set, if_pos ⟨rfl, hl ▸ hk⟩]

theorem AnswerGone.answerAt_ne (h : AnswerGone k s t) (hj : j ≠ k) : answerAt t j = answerAt s j := by
  rw [answerAt_eq, h.1, slotAt_set, if_neg fun both => hj both.1, ← answerAt_eq]

theorem AnswerGone.not_listed (h : AnswerGone k s t) : k ∉ t.outbox.answerList := by
  rw [h.2]
  simp

/-! ## The answer dropped with its earmark (R76, R77) -/

theorem dropAnswer_gone (k reason : Nat) (s : State) : AnswerGone k s (dropAnswer k reason s) := by
  refine (emptyAnswer_gone k s).congr ?_ ?_ <;> simp [dropAnswer]

theorem dropAnswer_entries (k reason : Nat) (s : State) :
    (dropAnswer k reason s).table.entries = (dropSlotEarmark k (raiseExpired reason (answerAt s k) s)).table.entries := by
  simp [dropAnswer]

theorem dropSlotEarmark_of_other (h : (answerAt s k).content ≠ some .assent) : dropSlotEarmark k s = s := by
  unfold dropSlotEarmark
  split
  · exact absurd ‹_› h
  · rfl

theorem dropSlotEarmark_of_assent {x : Nat} {n : Byte} (hk : (answerAt s k).key = some (x, n))
    (hc : (answerAt s k).content = some .assent) :
    dropSlotEarmark k s = if holdsEarmark s x n = true then removeEarmark x s else s := by
  simp [dropSlotEarmark, hk, hc]

theorem holdsEarmark_iff (s : State) (x : Nat) (n : Byte) :
    holdsEarmark s x n = true ↔ isPeer s x = true ∧ ∃ m, (entryAt s x).stored.earmark = some m ∧ m.number = n := by
  simp [holdsEarmark, Option.any_eq_true]

theorem dropAnswer_log (reason : Nat) (full : FullTable s) (fine : NoCheckFails s) (hclear : s.table.overcommit = false)
    (hfits : sumHeld s ≤ capacity s) : (dropAnswer k reason s).events.log =
        (raiseExpired reason (answerAt s k) s).events.log := by
  generalize hv : raiseExpired reason (answerAt s k) s = v
  have table : v.table = s.table := by rw [← hv]; simp
  have mc : v.mc = s.mc := by rw [← hv]; simp
  have alloc : v.alloc = s.alloc := by rw [← hv]; simp
  have fullV : FullTable v := by rw [FullTable, table]; exact full
  have fineV : NoCheckFails v := by
    intro i hi hp
    rw [entryAt_congr (t := v) (s := s) (by rw [table])]
    exact fine i hi ((isPeer_congr (t := v) (s := s) (by rw [mc]) (by rw [mc]) i).symm.trans hp)
  have sumV : sumHeld v = sumHeld s := sumHeld_congr (by rw [table]) (by rw [mc]) (by rw [mc]) (by rw [alloc])
  have capV : capacity v = capacity s := capacity_congr (by rw [mc])
  have dropped : Trimmed v (emptyAnswer k (dropSlotEarmark k v)) := (dropSlotEarmark_trimmed fullV fineV k).same
  have cap : capacity (emptyAnswer k (dropSlotEarmark k v)) = capacity v := capacity_congr (by rw [dropped.mc])
  have sum := dropped.sumHeld_le
  rw [dropAnswer, hv, endIfChanged_log_of_fits s (by rw [dropped.overcommit, table, hclear]) (by rw [cap]; omega),
      dropped.events]

/-- An answer that is no ASSENT is dropped without an update of the table. -/
theorem dropAnswer_of_other (reason : Nat) (h : (answerAt s k).content ≠ some .assent) :
    dropAnswer k reason s = emptyAnswer k (raiseExpired reason (answerAt s k) s) := by
  have same : dropSlotEarmark k (raiseExpired reason (answerAt s k) s) = raiseExpired reason (answerAt s k) s :=
    dropSlotEarmark_of_other (by rw [answerAt_congr (s := s) (by simp)]; exact h)
  rw [dropAnswer, same]
  exact endIfChanged_same _ _ (by simp) (by simp) (by simp)

theorem dropAnswer_earmark {x : Nat} {n : Byte} {m : Earmark} (reason : Nat) (full : FullTable s) (hx : x < 24)
    (hk : (answerAt s k).key = some (x, n)) (hc : (answerAt s k).content = some .assent) (hp : isPeer s x = true)
    (hm : (entryAt s x).stored.earmark = some m) (hn : m.number = n) :
    (entryAt (dropAnswer k reason s) x).stored.earmark = none
      ∧ ((entryAt s x).stored.status = .pendingJoin → (entryAt (dropAnswer k reason s) x).stored.status = .absent) := by
  rw [entryAt_congr (dropAnswer_entries k reason s)]
  generalize hv : raiseExpired reason (answerAt s k) s = v
  have answers : answerAt v k = answerAt s k := by rw [← hv]; exact answerAt_congr (by simp) k
  have entry : entryAt v x = entryAt s x := entryAt_congr (by rw [← hv]; simp) x
  have peer : isPeer v x = true := (isPeer_congr (by rw [← hv]; simp) (by rw [← hv]; simp) x).trans hp
  have fullV : FullTable v := by rw [← hv, FullTable, (raiseExpired_keeps reason (answerAt s k) s).2.2.1]; exact full
  have marked : (entryAt v x).stored.earmark.isSome = true := by rw [entry, hm]; rfl
  rw [dropSlotEarmark_of_assent (answers ▸ hk) (answers ▸ hc),
    if_pos ((holdsEarmark_iff v x n).2 ⟨peer, m, by rw [entry, hm], hn⟩),
        entryAt_removeEarmark_self peer (fullV ▸ hx) marked]
  refine ⟨Entry.unmarked_earmark _, fun hs => Entry.unmarked_status ?_⟩
  rw [← hs, ← entry]
  rfl

theorem dropAnswer_entryAt_ne {x : Nat} {n : Byte} (reason : Nat) (hk : (answerAt s k).key = some (x, n)) (hj : j ≠ x) :
    entryAt (dropAnswer k reason s) j = entryAt s j := by
  rw [entryAt_congr (dropAnswer_entries k reason s)]
  generalize hv : raiseExpired reason (answerAt s k) s = v
  have answers : answerAt v k = answerAt s k := by rw [← hv]; exact answerAt_congr (by simp) k
  have entry : entryAt v j = entryAt s j := entryAt_congr (by rw [← hv]; simp) j
  by_cases hc : (answerAt s k).content = some .assent
  · rw [dropSlotEarmark_of_assent (answers ▸ hk) (answers ▸ hc)]
    split
    · rw [entryAt_removeEarmark_ne hj, entry]
    · exact entry
  · rw [dropSlotEarmark_of_other (answers ▸ hc), entry]

theorem raiseExpired_events (reason : Nat) {a : AnswerSlot} {key : Nat × Byte} {content : Answer} (hk : a.key = some key)
    (hc : a.content = some content) :
    (raiseExpired reason a s).events =
      s.events.take .answerExpired (some key.1) (some key.2) (some (joined reason content.code)) s.time.ms := by
  simp [raiseExpired, hk, hc]

theorem Answer.code_eq (a : Answer) : a.code = if a = .assent then 1 else 2 := by cases a <;> rfl

theorem joined_answerCode {reason : Nat} (h : reason = 1 ∨ reason = 2) (a : Answer) :
    joined reason a.code = BitVec.ofNat 16 (256 * reason + if a = .assent then 1 else 2) := by
  rw [Answer.code_eq]
  rcases h with rfl | rfl <;> split <;> decide

/-! ## An answer's deadline (R77) -/

theorem overdue_iff (a : AnswerSlot) :
    a.overdue = true ↔ a.occupancy = .filled ∧ a.deadline = some 0 ∧ a.expired = false := by
  simp [AnswerSlot.overdue, and_assoc]

theorem answerDeadline_of_due (h : (answerAt s k).occupancy = .filled ∧ (answerAt s k).deadline = some 0
    ∧ (answerAt s k).expired = false)
    (hin : (answerAt s k).inFlight = false) : answerDeadline k s = dropAnswer k 1 s := by
  rw [answerDeadline, if_pos ((overdue_iff _).2 h), if_neg (by simp [hin])]

theorem answerDeadline_of_inFlight
    (h : (answerAt s k).occupancy = .filled ∧ (answerAt s k).deadline = some 0 ∧ (answerAt s k).expired = false)
    (hin : (answerAt s k).inFlight = true) : answerDeadline k s = markExpired k s := by
  rw [answerDeadline, if_pos ((overdue_iff _).2 h), if_pos hin]

theorem answerAt_filled_lt (h : (answerAt s k).occupancy = .filled) : k < s.outbox.answers.length := by
  by_contra hk
  rw [answerAt_eq, slotAt, List.getElem?_eq_none (Nat.le_of_not_lt hk)] at h
  cases h

/-- Settles O14. -/
theorem answerDeadlineDropsTheAnswer : Obligations.AnswerDeadlineDropsTheAnswer := by
  refine ⟨fun k s hl hfull hf hd he hin key hkey hx a ha => ?_, fun k s hf hd he hin => ?_, fun k s hnot => ?_⟩
  · have gone := dropAnswer_gone k 1 s
    refine ⟨_, congrArg Host.Outcome.next (answerDeadline_of_due ⟨hf, hd, he⟩ hin), gone.answerAt_self hl k.isLt,
        gone.not_listed,
      fun j _ hj => gone.answerAt_ne hj, ?_, fun hother => ?_, fun hsettled hclear => ?_, by simp, by simp, by simp, by simp⟩
    · rintro rfl hp m hm hn
      exact (dropAnswer_earmark (n := key.2) 1 hfull hx hkey ha hp hm hn).1
    · rw [dropAnswer_of_other 1 (by rw [ha]; simpa using hother)]
      exact ⟨by simp, by simp, by simp⟩
    · refine EventUnit.queue_of_log ?_
      rw [dropAnswer_log 1 hfull hsettled.1 hclear (hsettled.fits hclear), raiseExpired_events 1 hkey ha,
        joined_answerCode (.inl rfl)]
  · refine ⟨_, congrArg Host.Outcome.next (answerDeadline_of_inFlight ⟨hf, hd, he⟩ hin), ?_, fun j _ hj => ?_, rfl, rfl⟩
    · rw [answerAt_eq, markExpired]
      exact (slotAt_modify _ _ _ _).trans (if_pos ⟨rfl, answerAt_filled_lt hf⟩)
    · rw [answerAt_eq, markExpired]
      exact (slotAt_modify _ _ _ _).trans (if_neg fun both => hj both.1)
  · refine congrArg Host.Outcome.next (if_neg ?_)
    rw [overdue_iff]
    rintro ⟨hf, hd, he⟩
    rcases hnot with h | h | h
    · exact h hf
    · exact h hd
    · rw [he] at h
      cases h

/-! ## An earmark's expiry (R16, R76) -/

theorem dropEarmark_of_marked {m : Earmark} (hp : isPeer s i = true) (hm : (entryAt s i).stored.earmark = some m) :
    dropEarmark i s = withdrawAssent i m.number (removeEarmark i s) := by
  simp [dropEarmark, hm, hp]

theorem answerFor_congr (h : t.outbox.answers = s.outbox.answers) (x : Nat) (n : Byte) :
    answerFor t x n = answerFor s x n := by
  rw [answerFor, answerFor, h]

theorem answerFor_lt {x : Nat} {n : Byte} (h : answerFor s x n = some k) : k < s.outbox.answers.length := by
  obtain ⟨hk, -⟩ := List.findIdx?_eq_some_iff_getElem.1 h
  exact hk

theorem withdrawAssent_of_assent {x : Nat} {n : Byte} (h : answerFor s x n = some k)
    (ha : (answerAt s k).content = some .assent) :
    withdrawAssent x n s = emptyAnswer k s := by
  simp [withdrawAssent, h, ha]

theorem withdrawAssent_of_none {x : Nat} {n : Byte} (h : answerFor s x n = none) : withdrawAssent x n s = s := by
  simp [withdrawAssent, h]

/-- An earmark that goes takes the ASSENT that waits on it out of its slot, an attempt of it cut. -/
theorem dropEarmark_gone {m : Earmark} (hp : isPeer s i = true) (hm : (entryAt s i).stored.earmark = some m)
    (h : answerFor s i m.number = some k) (ha : (answerAt s k).content = some .assent) :
    AnswerGone k s (dropEarmark i s) ∧ (dropEarmark i s).line.tx = s.line.tx.cutFrom (.answer k) := by
  have answers : (removeEarmark i s).outbox.answers = s.outbox.answers := by simp
  have found := (answerFor_congr answers i m.number).trans h
  have assent := (congrArg AnswerSlot.content (answerAt_congr answers k)).trans ha
  rw [dropEarmark_of_marked hp hm, withdrawAssent_of_assent found assent]
  refine ⟨⟨?_, ?_⟩, ?_⟩ <;> simp

theorem dropEarmark_answers {m : Earmark} (hp : isPeer s i = true) (hm : (entryAt s i).stored.earmark = some m)
    (h : answerFor s i m.number = none) : (dropEarmark i s).outbox.answers = s.outbox.answers := by
  rw [dropEarmark_of_marked hp hm, withdrawAssent_of_none ((answerFor_congr (by simp) i m.number).trans h)]
  simp

theorem dropEarmark_entries {m : Earmark} (hp : isPeer s i = true) (hm : (entryAt s i).stored.earmark = some m) :
    (dropEarmark i s).table.entries = (removeEarmark i s).table.entries := by
  rw [dropEarmark_of_marked hp hm]
  simp

/-- A slot's attempt whose report is open is cut, at the end of the update too. -/
theorem cutFrom_of_live {a : Attempt} {slot : SlotId} (hlive : a.live = true) (hslot : a.slot = slot) :
    Transmitter.cutFrom slot (.sending a) = .marking a a.markStart := by
  rw [cutFrom_sending, if_pos ⟨hslot, hlive⟩]

/-- Settles O12. -/
theorem earmarkExpiryRemovesEarmarkAndAssent : Obligations.EarmarkExpiryRemovesEarmarkAndAssent := by
  refine ⟨fun i s hs hp hfull hl he m hm => ?_, fun i s hnot => congrArg Host.Outcome.next (if_neg ?_)⟩
  · have marked : (entryAt s i).stored.earmark.isSome = true := by rw [hm]; rfl
    have effect : earmarkExpiry i s = endUpdate none (dropEarmark i s) := if_pos ⟨hs, hp, marked, he⟩
    have entries : (endUpdate none (dropEarmark i s)).table.entries = (removeEarmark i s).table.entries := by
      rw [← dropEarmark_entries hp hm]
      simp
    refine ⟨_, congrArg Host.Outcome.next effect, ?_, fun j _ hj => ?_, fun k hk ha => ?_, fun hnone => ?_, by simp,
        by simp, by simp,
      by simp⟩
    · rw [entryAt_congr entries, entryAt_removeEarmark_self hp (by rw [hfull]; exact i.isLt) marked]
      have status : (entryOnCheck s i).stored = (entryAt s i).stored := rfl
      rw [Entry.unmarked, status]
      split
      · simp [Entry.returnAbsent, entryOnCheck]
      · simp [Entry.write, entryOnCheck, he]
    · rw [entryAt_congr entries, entryAt_removeEarmark_ne hj]
    · obtain ⟨gone, tx⟩ := dropEarmark_gone hp hm hk ha
      have gone' : AnswerGone k s (endUpdate none (dropEarmark i s)) := gone.congr (by simp) (by simp)
      refine ⟨gone'.answerAt_self hl (by rw [← hl]; exact answerFor_lt hk), gone'.not_listed, fun a hsend hlive hslot => ?_,
        fun j _ hj => gone'.answerAt_ne hj⟩
      refine endUpdate_tx (cutClosed_marking a) none ?_
      rw [tx, hsend, cutFrom_of_live hlive hslot]
    · rw [← dropEarmark_answers hp hm hnone]
      simp
  · rintro ⟨hs, hp, hm, he⟩
    rcases hnot with h | h | h | h
    · simp [h] at hm
    · exact h he
    · simp [h] at hp
    · exact hs h

end Sys2Proof.Machine
end

section
/-! PROOFS. What a COLLIDED or CUT report does to the slot it reaches and to the slot's owner (R129 to R133). -/
namespace Sys2Proof.Machine
variable {s t u : State} {k : Nat} {c : ClaimRecord} {a : Attempt} {collided : Bool} {P : Transmitter → Prop}

/-! ## Which report, and which slot -/

theorem slotFailed_hold (h : s.outbox.hold.inFlight = true) : slotFailed collided .hold s = holdFailed collided s := if_pos h

theorem slotFailed_claim (h : s.outbox.claim.inFlight = true) : slotFailed collided .claim s = claimFailed collided s :=
    if_pos h

theorem slotFailed_answer (h : (answerAt s k).inFlight = true) :
    slotFailed collided (.answer k) s = answerFailed k collided s :=
  if_pos h

/-- A report for a slot emptied or refilled meanwhile counts nowhere (R129). -/
theorem slotFailed_idle {slot : SlotId} (h : inFlightAt s slot = false) : slotFailed collided slot s = s := by
  cases slot <;> exact if_neg (by rw [inFlightAt] at h; simp [h])

theorem attemptCollided_claim (h : SendsFrom s .claim a) (hm : a.mismatch = true) :
    attemptCollided s = claimFailed true (endAttempt s) := by
  have inFlight : s.outbox.claim.inFlight = true := h.2.2.2
  exact (attemptCollided_of_sends h hm).trans (slotFailed_claim (s := endAttempt s) inFlight)

theorem attemptCollided_answer (h : SendsFrom s (.answer k) a) (hm : a.mismatch = true) :
    attemptCollided s = answerFailed k true (endAttempt s) := by
  have inFlight : (answerAt s k).inFlight = true := h.2.2.2
  exact (attemptCollided_of_sends h hm).trans (slotFailed_answer (s := endAttempt s) inFlight)

/-! ## The transmitter after a change of state -/

theorem changeState_tx (hP : CutClosed P) (new : StationState) (h : P s.line.tx) : P (changeState new s).line.tx := by
  have out := abandonOutside_tx hP new h
  have line : (turned new s).line = (abandonOutside new s).line := by simp [turned]
  rw [changeState_eq]
  refine settle_tx hP none ?_
  rw [entered_line]
  refine discardSlots_tx hP new ?_
  rw [line]
  exact out

theorem cutClosed_none : CutClosed (fun tx => tx = .none) := by
  rintro slot _ rfl
  rfl

/-! ## The HOLD slot -/

/-- A HOLD report that leaves the own claim record as it is: no update of the table (R86). -/
theorem holdFailed_of_idle (h : ∀ c, s.alloc.claim = some c → c.inFlight = false)
    (hkept : (exhaustHold collided (countHold collided s)).alloc = s.alloc)
    (hentries : (exhaustHold collided (countHold collided s)).table.entries = s.table.entries) :
    holdFailed collided s = exhaustHold collided (countHold collided s) := by
  rw [holdFailed, settleCommit_of_idle fun c hc => h c (by rwa [hkept] at hc)]
  exact endIfChanged_same _ _ hentries (by rw [hkept]) (by rw [hkept])

theorem exhaustHold_of_cut (s : State) : exhaustHold false s = s := if_neg (by simp)

theorem exhaustHold_of_spent (h : 15 ≤ s.outbox.hold.attempts) :
    exhaustHold true (countHold true s) = holdExhausted (countHold true s) := by
  refine if_pos ⟨rfl, ?_⟩
  show 16 ≤ s.outbox.hold.attempts + 1
  omega

theorem exhaustHold_below (h : s.outbox.hold.attempts < 15) : exhaustHold true (countHold true s) = countHold true s := by
  refine exhaustHold_of_lt ?_ true
  show s.outbox.hold.attempts + 1 < 16
  omega

theorem gaveUp_hold (b : Bool) : gaveUpValue 1 1 b = if b then BitVec.ofNat 16
    (256 * 1 + 16 * 1 + 1) else BitVec.ofNat 16 (256 * 1 + 16 * 1) := by
  cases b <;> decide

/-- The sixteenth HOLD attempt in ACTIVE leaves the slot resting (R131). -/
theorem holdExhausted_active (hs : s.mc.station = .active) :
    holdExhausted s =
      { s with
        outbox := { s.outbox with hold := { s.outbox.hold with resting := true } }
        events := s.events.take .txGaveUp none (s.alloc.holdAttempt.bind (fun h => h.commit))
          (some (BitVec.ofNat 16 (256 * 1 + 16 * 1 + 1))) s.time.ms } := by
  have active : (s.mc.station == .active) = true := by simp [hs]
  rw [holdExhausted, restOrDrop, active, gaveUp_hold]
  simp only [raise_keeps, hs]
  rfl

/-- Outside ACTIVE the slot is dropped (R131). -/
theorem holdExhausted_inactive (hs : s.mc.station ≠ .active) :
    holdExhausted s = restOrDrop (raise .txGaveUp none (s.alloc.holdAttempt.bind (fun h => h.commit))
      (some (BitVec.ofNat 16 (256 * 1 + 16 * 1))) s) := by
  have inactive : (s.mc.station == .active) = false := by simp [hs]
  rw [holdExhausted, inactive, gaveUp_hold]
  rfl

theorem restOrDrop_leaving (hs : s.mc.station = .leaving) : restOrDrop s = changeState .detached (emptyHold s) := by
  simp [restOrDrop, hs]

theorem restOrDrop_other (ha : s.mc.station ≠ .active) (hl : s.mc.station ≠ .leaving) : restOrDrop s = emptyHold s := by
  unfold restOrDrop
  split
  · exact absurd ‹_› ha
  · exact absurd ‹_› hl
  · rfl

/-! ## The CLAIM slot -/

theorem claimFailed_cut (s : State) : claimFailed false s = countClaim false s := by simp [claimFailed, exhaustClaim]

theorem claimFailed_below (h : s.outbox.claim.attempts < 15) : claimFailed true s = countClaim true s := by
  refine if_neg ?_
  rintro ⟨-, hle⟩
  have le : 16 ≤ s.outbox.claim.attempts + 1 := hle
  omega

theorem claimFailed_spent (h : s.outbox.claim.attempts = 15) :
    claimFailed true s =
      endUpdate none (failClaim .txFailed none
        (raise .txGaveUp none s.outbox.claim.key (some (gaveUpValue 2 (claimFrameKind s.outbox.claim.content) false))
          (emptyClaim (countClaim true s)))) := by
  refine if_pos ⟨rfl, ?_⟩
  show 16 ≤ s.outbox.claim.attempts + 1
  omega

/-! ## An ANSWER slot -/

theorem modify_eq_set (answers : List AnswerSlot) (f : AnswerSlot → AnswerSlot) :
    answers.modify k f = answers.set k (f (answers[k]?.getD AnswerSlot.empty)) := by
  by_cases hk : k < answers.length
  · rw [List.modify_eq_set_getElem?, List.getElem?_eq_getElem hk]
    rfl
  · rw [List.modify_eq_self (Nat.le_of_not_lt hk), List.set_eq_of_length_le (Nat.le_of_not_lt hk)]

theorem countAnswer_eq (charged : Bool) (s : State) :
    countAnswer k charged s =
      setOutbox { s.outbox with answers := s.outbox.answers.set k ((answerAt s k).reported charged) } s := by
  rw [countAnswer, modify_eq_set]
  rfl

theorem answerAt_countAnswer (charged : Bool) (hk : k < s.outbox.answers.length) :
    answerAt (countAnswer k charged s) k = (answerAt s k).reported charged := by
  rw [answerAt_eq, countAnswer_eq]
  exact (slotAt_set _ _ _ _).trans (if_pos ⟨rfl, hk⟩)

/-- The slot keeps its answer: it has not expired, and the report does not make sixteen (R129). -/
theorem answerFailed_counted (hk : k < s.outbox.answers.length) (he : (answerAt s k).expired = false)
    (h : (answerAt s k).charged collided = false ∨ (answerAt s k).attempts < 15) :
    answerFailed k collided s = countAnswer k ((answerAt s k).charged collided) s := by
  rw [answerFailed, reportAnswer, exhaustAnswer, answerAt_countAnswer _ hk,
      if_neg (by simpa [AnswerSlot.reported] using he), if_neg]
  rintro ⟨hcharged, hle⟩
  have le : 16 ≤ (answerAt s k).attempts + ((answerAt s k).charged collided).toNat := hle
  rw [hcharged] at le h
  rcases h with h | h
  · cases h
  · simp only [Bool.toNat_true] at le
    omega

theorem answerFailed_expired (hk : k < s.outbox.answers.length) (he : (answerAt s k).expired = true) :
    answerFailed k collided s = dropAnswer k 1 (countAnswer k ((answerAt s k).charged collided) s) := by
  rw [answerFailed, reportAnswer, exhaustAnswer, answerAt_countAnswer _ hk]
  exact if_pos he

theorem answerFailed_spent (hk : k < s.outbox.answers.length) (he : (answerAt s k).expired = false)
    (hr : (answerAt s k).rewritten = false) (h : (answerAt s k).attempts = 15) :
    answerFailed k true s =
      dropAnswer k 2 (raiseGaveUp (answerAt (countAnswer k true s) k) (countAnswer k true s)) := by
  have charged : (answerAt s k).charged true = true := by simp [AnswerSlot.charged, hr]
  have spent : 16 ≤ ((answerAt s k).reported true).attempts := by
    show 16 ≤ (answerAt s k).attempts + 1
    omega
  rw [answerFailed, charged, reportAnswer, exhaustAnswer, answerAt_countAnswer _ hk,
    if_neg (by simpa [AnswerSlot.reported] using he), if_pos ⟨rfl, spent⟩]

theorem AnswerGone.of_count {charged : Bool} (h : AnswerGone k (countAnswer k charged s) t) : AnswerGone k s t := by
  obtain ⟨answers, list⟩ := h
  rw [countAnswer_eq] at answers list
  refine ⟨answers.trans ?_, list⟩
  exact List.set_set ..

/-- A report that drops its answer leaves the other three slots as they were. -/
theorem answerFailed_gone (hk : k < s.outbox.answers.length)
    (h : (answerAt s k).expired = true ∨ (collided = true ∧ (answerAt s k).rewritten = false
        ∧ (answerAt s k).attempts = 15)) :
    AnswerGone k s (answerFailed k collided s) := by
  by_cases he : (answerAt s k).expired = true
  · rw [answerFailed_expired hk he]
    exact (dropAnswer_gone k 1 _).of_count
  · obtain ⟨rfl, hr, hspent⟩ := h.resolve_left he
    rw [answerFailed_spent hk (by simpa using he) hr hspent]
    refine AnswerGone.of_count (charged := true) ?_
    have gone := dropAnswer_gone k 2 (raiseGaveUp (answerAt (countAnswer k true s) k) (countAnswer k true s))
    exact gone

theorem dropAnswer_tx (hP : CutClosed P) (k reason : Nat) (h : P s.line.tx) : P (dropAnswer k reason s).line.tx := by
  rw [dropAnswer]
  refine endIfChanged_tx hP s ?_
  rw [emptyAnswer_tx]
  refine hP _ _ ?_
  simpa using h

theorem answerFailed_tx (hP : CutClosed P) (k : Nat) (h : P s.line.tx) : P (answerFailed k collided s).line.tx := by
  unfold answerFailed reportAnswer exhaustAnswer
  split
  · exact dropAnswer_tx hP k 1 h
  · split
    · exact dropAnswer_tx hP k 2 h
    · exact h

end Sys2Proof.Machine
end

section
/-! PROOFS. TX_INHIBIT cuts an attempt without a mark (O22). -/
namespace Sys2Proof.Machine
variable {s t u : State} {k : Nat} {c : ClaimRecord} {a : Attempt} {collided : Bool}

/-! ## Expired answers at their report (R77) -/

theorem NoCheckFails.congr (h : NoCheckFails s) (he : t.table.entries = s.table.entries) (hm : t.mc = s.mc) :
    NoCheckFails t := by
  intro i hi hp
  rw [entryAt_congr he]
  exact h i hi ((isPeer_congr (t := t) (s := s) (by rw [hm]) (by rw [hm]) i).symm.trans hp)

/-- The events of an answer that is dropped where no check fails and the sum of held shares fits. -/
theorem dropAnswer_expired_log {key : Nat × Byte} {content : Answer} {reason : Nat} (hr : reason = 1 ∨ reason = 2)
    (full : FullTable s) (fine : NoCheckFails s) (hclear : s.table.overcommit = false) (hfits : sumHeld s ≤ capacity s)
    (hkey : (answerAt s k).key = some key) (hcontent : (answerAt s k).content = some content) :
    (dropAnswer k reason s).events.log =
      (s.events.take .answerExpired (some key.1) (some key.2)
        (some (BitVec.ofNat 16 (256 * reason + if content = .assent then 1 else 2))) s.time.ms).log := by
  rw [dropAnswer_log reason full fine hclear hfits, raiseExpired_events reason hkey hcontent, joined_answerCode hr]

theorem countAnswer_sums (charged : Bool) (k : Nat) (s : State) :
    sumHeld (countAnswer k charged s) = sumHeld s ∧ capacity (countAnswer k charged s) = capacity s :=
  ⟨sumHeld_congr rfl rfl rfl rfl, capacity_congr rfl⟩

theorem answerFailed_expired_log {key : Nat × Byte} {content : Answer} (hk : k < s.outbox.answers.length)
    (he : (answerAt s k).expired = true) (full : FullTable s) (fine : NoCheckFails s) (hclear : s.table.overcommit = false)
    (hfits : sumHeld s ≤ capacity s) (hkey : (answerAt s k).key = some key)
        (hcontent : (answerAt s k).content = some content) :
    (answerFailed k collided s).events.log =
      (s.events.take .answerExpired (some key.1) (some key.2)
        (some (BitVec.ofNat 16 (256 * 1 + if content = .assent then 1 else 2))) s.time.ms).log := by
  have slot := answerAt_countAnswer ((answerAt s k).charged collided) hk
  obtain ⟨sum, cap⟩ := countAnswer_sums ((answerAt s k).charged collided) k s
  rw [answerFailed_expired hk he]
  exact dropAnswer_expired_log (.inl rfl) full (fine.congr rfl rfl) hclear (by rw [sum, cap]; exact hfits)
    (by rw [slot]; exact hkey) (by rw [slot]; exact hcontent)

/-! ## The cut -/

/-- The state that the CUT report reaches: the pin's level, and the attempt stopped. -/
def inhibited (a : Attempt) (s : State) : State :=
  { s with
    pins := { s.pins with txInhibit := true }
    line := { s.line with tx := .sending { a with stopped := true } } }

theorem txInhibitAsserted_of_live {slot : SlotId} (h : SendsFrom s slot a) (hlive : a.live = true) :
    txInhibitAsserted s = slotFailed false slot (inhibited a s) := by
  obtain ⟨tx, rfl, -, -⟩ := h
  simp only [txInhibitAsserted, tx, hlive, if_true, inhibited, stopAttempt, setInhibit, setLine, Transmitter.stop]

theorem stopped_not_live (a : Attempt) : ({ a with stopped := true } : Attempt).live = false := by simp [Attempt.live]

/-- An attempt already reported is not cut with the claim that ends. -/
theorem claimEnded_of_stopped {events : EventUnit} (h : s.line.tx = .sending { a with stopped := true }) :
    claimEnded events s =
      { s with
        alloc := claimCounted s
        outbox := { s.outbox with claim := ClaimSlot.empty }
        events := events } := by
  have tx : s.line.tx.cutFrom .claim = s.line.tx := by rw [h, cutFrom_sending, if_neg (by simp [stopped_not_live])]
  rw [claimEnded, tx]

theorem txInhibitAsserted_commit (h : SendsFrom s .hold a) (hlive : a.live = true) (hc : s.alloc.claim = some c)
    (hin : c.inFlight = true) :
    txInhibitAsserted s =
      endUpdate none (settleFailedCommit c (setClaim (some { c with inFlight := false })
          (countHold false (inhibited a s)))) := by
  have inFlight : s.outbox.hold.inFlight = true := h.2.2.2
  have report := slotFailed_hold (s := inhibited a s) (collided := false) inFlight
  rw [txInhibitAsserted_of_live h hlive, report,
    holdFailed_of_inFlight (s := inhibited a s) (c := c) hc hin (by rw [exhaustHold_of_cut]; exact hc), exhaustHold_of_cut]

/-- Settles O22. -/
theorem transmitInhibitCutsWithoutAMark : Obligations.TransmitInhibitCutsWithoutAMark := by
  refine ⟨fun s hdead => congrArg Host.Outcome.next ?_, fun a s h hlive => congrArg Host.Outcome.next ?_,
    fun a k s h hlive hl => ?_, fun a s h hlive hidle => congrArg Host.Outcome.next ?_, fun c a s h hlive hc hin => ?_,
    fun s => rfl⟩
  · unfold txInhibitAsserted
    split
    · rw [if_neg (by simp [hdead _ ‹_›])]
      rfl
    · rfl
  · have inFlight : s.outbox.claim.inFlight = true := h.2.2.2
    rw [txInhibitAsserted_of_live h hlive]
    exact (slotFailed_claim (s := inhibited a s) inFlight).trans (claimFailed_cut _)
  · have inFlight : (answerAt s k).inFlight = true := h.2.2.2
    have hk : k.val < (inhibited a s).outbox.answers.length := by
      show k.val < s.outbox.answers.length
      rw [hl]
      exact k.isLt
    have effect : txInhibitAsserted s = answerFailed k false (inhibited a s) :=
      (txInhibitAsserted_of_live h hlive).trans (slotFailed_answer (s := inhibited a s) inFlight)
    refine ⟨fun he => congrArg Host.Outcome.next ?_, fun he => ⟨_, congrArg Host.Outcome.next effect, ?_⟩⟩
    · rw [effect, answerFailed_counted hk he (.inl rfl), countAnswer_eq]
      rfl
    · have gone : AnswerGone k s (answerFailed k false (inhibited a s)) :=
        answerFailed_gone (s := inhibited a s) (collided := false) hk (.inl he)
      have pins : (answerFailed k false (inhibited a s)).pins = (inhibited a s).pins := by
        unfold answerFailed reportAnswer exhaustAnswer
        (repeat' split) <;> simp [raiseGaveUp]
      refine ⟨answerFailed_tx (cutClosed_ended (stopped_not_live a)) k rfl, pins, gone.answerAt_self hl k.isLt,
        gone.not_listed, fun j _ hj => gone.answerAt_ne hj, fun hsettled hfull hclear key hkey content hcontent => ?_⟩
      have fine : NoCheckFails (inhibited a s) := hsettled.1.congr rfl rfl
      have sum : sumHeld (inhibited a s) = sumHeld s := sumHeld_congr rfl rfl rfl rfl
      have cap : capacity (inhibited a s) = capacity s := capacity_congr rfl
      refine EventUnit.queue_of_log ?_
      exact answerFailed_expired_log (s := inhibited a s) hk he hfull fine hclear
          (by rw [sum, cap]; exact hsettled.fits hclear)
        hkey hcontent
  · have inFlight : s.outbox.hold.inFlight = true := h.2.2.2
    have report := slotFailed_hold (s := inhibited a s) (collided := false) inFlight
    have same := exhaustHold_of_cut (countHold false (inhibited a s))
    rw [txInhibitAsserted_of_live h hlive, report,
      holdFailed_of_idle (s := inhibited a s) hidle (by rw [same]; rfl) (by rw [same]; rfl), same]
    rfl
  · have effect := txInhibitAsserted_commit h hlive hc hin
    have claim : (countHold false (inhibited a s)).alloc.claim = some c := hc
    have tx : (countHold false (inhibited a s)).line.tx = .sending { a with stopped := true } := rfl
    refine ⟨fun ⟨hd, hstay⟩ => ?_, fun ⟨hk, hd, hlow⟩ => ?_, fun ⟨hk, hd, hdrop⟩ => ?_, fun ⟨hk, hd, hdrop⟩ => ?_,
        fun ⟨hk, hd⟩ => ?_⟩
    · have stays := dropDue_eq_false (c := c) (s := countHold false (inhibited a s)) hstay
      rw [settleFailedCommit_of_waiting hd (by simpa [dropDue] using stays)] at effect
      exact congrArg Host.Outcome.next effect
    · rw [settleFailedCommit_lapsed claim hd (dropDue_eq_false (.inr hlow)), lapseClaim_increase claim hk,
          claimEnded_of_stopped tx]
        at effect
      exact congrArg Host.Outcome.next effect
    · rw [settleFailedCommit_abandoned claim hd ((dropDue_iff c _).2 ⟨hk, hdrop⟩),
          abandonClaim_increase claim hk (by decide),
        claimEnded_of_stopped tx] at effect
      exact congrArg Host.Outcome.next effect
    · obtain ⟨events, ended⟩ := settleFailedCommit_of_both claim hk hd false
      rw [ended] at effect
      exact ⟨_, congrArg Host.Outcome.next effect, endUpdate_claimEnded none events _⟩
    · rw [settleFailedCommit_lapsed claim hd (dropDue_eq_false (.inl hk)), lapseClaim_floor claim hk] at effect
      obtain ⟨station, -, none, -, -, failures, backoff⟩ := waiting_update none
        (removeClaim (raise .claimLapsed none (some c.number) (some (valueOf c.amount)) (countHold false (inhibited a s))))
      exact ⟨_, congrArg Host.Outcome.next effect, station, none, failures, backoff⟩

end Sys2Proof.Machine
end

section
/-! PROOFS. Collisions counted, and the sixteenth (O36). -/
namespace Sys2Proof.Machine
variable {s t u : State} {k : Nat} {c : ClaimRecord} {a : Attempt}

/-! ## What a change of state leaves in the table -/

/-- A change of state at which no check fails and the sum fits leaves OVERCOMMIT clear and the sum fitting. -/
theorem changeState_fits {new : StationState} (hm : new ≠ .monitor) (full : FullTable s) (fine : NoCheckFails s)
    (hclear : s.table.overcommit = false) (hfits : sumHeld s ≤ capacity s)
    (hactive : new = .active → sumHeld s + s.alloc.share.held ≤ capacity s) :
    (changeState new s).table.overcommit = false ∧ sumHeld (changeState new s) ≤ capacity (changeState new s) := by
  obtain ⟨-, overcommit, sum⟩ := arrived_report hm full fine hclear hfits hactive
  have clear : (entered new s).table.overcommit = false := by rw [entered_resolves]; simpa using overcommit
  have fits : sumHeld (entered new s) ≤ capacity (entered new s) := by
    rw [entered_resolves, resolveReached_sumHeld, capacity_congr (s := s) (by simp)]
    exact sum
  have upToDate : (entered new s).table.overcommit = true ↔ capacity (entered new s) < sumHeld (entered new s) := by
    rw [clear]
    exact ⟨fun h => (by cases h), fun h => absurd h (Nat.not_lt.2 fits)⟩
  have cap : capacity (changeState new s) = capacity (entered new s) := capacity_congr (by simp [changeState_eq])
  rw [cap, changeState_eq, sumHeld_settle_of_unset none (.inr fits), settle_eq_summed none upToDate, summed_overcommit]
  exact ⟨clear, fits⟩

theorem endIfChanged_changeState_log {new : StationState} (before : State) (hm : new ≠ .monitor) (full : FullTable s)
    (fine : NoCheckFails s) (hclear : s.table.overcommit = false) (hfits : sumHeld s ≤ capacity s)
    (hactive : new = .active → sumHeld s + s.alloc.share.held ≤ capacity s) :
    (endIfChanged before (changeState new s)).events.log = (resolveReached (arrived new s)).events.log := by
  obtain ⟨clear, fits⟩ := changeState_fits hm full fine hclear hfits hactive
  rw [endIfChanged_log_of_fits before clear fits, changeState_report hm full fine hclear hfits hactive]

theorem endUpdate_changeState_log {new : StationState} (source : Option Nat) (hm : new ≠ .monitor) (full : FullTable s)
    (fine : NoCheckFails s) (hclear : s.table.overcommit = false) (hfits : sumHeld s ≤ capacity s)
    (hactive : new = .active → sumHeld s + s.alloc.share.held ≤ capacity s) :
    (endUpdate source (changeState new s)).events.log = (resolveReached (arrived new s)).events.log := by
  obtain ⟨clear, fits⟩ := changeState_fits hm full fine hclear hfits hactive
  rw [endUpdate_log_of_fits source clear fits, changeState_report hm full fine hclear hfits hactive]

/-! ## The sixteenth HOLD attempt -/

/-- The own records and the slot after the sixteenth HOLD attempt in ACTIVE. -/
def rested (s : State) : State :=
  { s with
    line := (endAttempt s).line
    outbox := { s.outbox with hold := { s.outbox.hold with inFlight := false, attempts := 16, resting := true } }
    events := s.events.take .txGaveUp none (s.alloc.holdAttempt.bind (fun h => h.commit))
      (some (BitVec.ofNat 16 (256 * 1 + 16 * 1 + 1))) s.time.ms }

theorem exhaustHold_rested (hs : s.mc.station = .active) (h : s.outbox.hold.attempts = 15) :
    exhaustHold true (countHold true (endAttempt s)) = rested s := by
  have due : 15 ≤ (endAttempt s).outbox.hold.attempts := h.ge
  have station : (countHold true (endAttempt s)).mc.station = .active := hs
  have slot : (countHold true (endAttempt s)).outbox.hold = { s.outbox.hold with inFlight := false, attempts := 16 } := by
    show ({ s.outbox.hold with inFlight := false, attempts := s.outbox.hold.attempts + 1 } : HoldSlot) = _
    rw [h]
  rw [exhaustHold_of_spent due, holdExhausted_active station, slot]
  rfl

/-- The HOLD slot dropped at the sixteenth attempt outside ACTIVE and LEAVING. -/
def dropped (s : State) : State :=
  { s with
    line := (endAttempt s).line
    outbox := { s.outbox with hold := HoldSlot.empty }
    events := s.events.take .txGaveUp none (s.alloc.holdAttempt.bind (fun h => h.commit))
      (some (BitVec.ofNat 16 (256 * 1 + 16 * 1))) s.time.ms }

theorem holdExhausted_dropped (hs : s.mc.station ≠ .active) (h : s.outbox.hold.attempts = 15) :
    exhaustHold true (countHold true (endAttempt s)) =
      if s.mc.station = .leaving then changeState .detached (dropped s) else dropped s := by
  have due : 15 ≤ (endAttempt s).outbox.hold.attempts := h.ge
  have station : (countHold true (endAttempt s)).mc.station ≠ .active := hs
  rw [exhaustHold_of_spent due, holdExhausted_inactive station]
  split
  · rename_i hl
    exact restOrDrop_leaving hl
  · rename_i hl
    exact restOrDrop_other hs hl

/-! ## A failed commit attempt with its deadline still open -/

/-- A failed commit attempt whose deadline has not passed leaves the claim waiting or abandoned; the slots but the
CLAIM slot and
the table stand. -/
theorem settleFailedCommit_unpassed (hd : c.deadlinePassed = false) (s : State) :
    settleFailedCommit c s = s ∨ settleFailedCommit c s = abandonClaim .demandDrop s := by
  cases hdrop : dropDue c s
  · exact .inl (settleFailedCommit_of_waiting hd hdrop)
  · exact .inr (settleFailedCommit_of_dropped hd hdrop)

theorem settleCommit_unpassed (h : ∀ c, s.alloc.claim = some c → c.deadlinePassed = false) :
    (settleCommit s).outbox.hold = s.outbox.hold ∧ (settleCommit s).mc = s.mc
      ∧ (settleCommit s).table = s.table ∧ (settleCommit s).alloc.share.held = s.alloc.share.held
      ∧ (settleCommit s).alloc.share.lastTx = s.alloc.share.lastTx
      ∧ (settleCommit s).alloc.share.holdSeq = s.alloc.share.holdSeq
      ∧ (settleCommit s).alloc.share.silence = s.alloc.share.silence := by
  unfold settleCommit
  split
  · exact ⟨rfl, rfl, rfl, rfl, rfl, rfl, rfl⟩
  · rename_i c hc
    split
    · rcases settleFailedCommit_unpassed (h c hc) (setClaim (some { c with inFlight := false }) s) with same | same <;>
        simp [same]
    · exact ⟨rfl, rfl, rfl, rfl, rfl, rfl, rfl⟩

theorem afterClaim_tx {P : Transmitter → Prop} (hP : CutClosed P) (kind : ClaimKind) (new : StationState) (h : P s.line.tx) :
    P (afterClaim kind new s).line.tx := by
  cases kind
  case increase =>
    rw [afterClaim, show (countFailure s).line = s.line from rfl]
    exact h
  case floor =>
    rw [afterClaim]
    exact changeState_tx hP new h

theorem lapseClaim_tx {P : Transmitter → Prop} (hP : CutClosed P) (h : P s.line.tx) : P (lapseClaim s).line.tx := by
  unfold lapseClaim
  split
  · exact h
  · refine afterClaim_tx hP _ _ ?_
    rw [removeClaim_tx]
    refine hP _ _ ?_
    simpa using h

theorem settleCommit_tx {P : Transmitter → Prop} (hP : CutClosed P) (h : P s.line.tx) : P (settleCommit s).line.tx := by
  unfold settleCommit
  split
  · exact h
  · split
    · unfold settleFailedCommit
      split
      · split
        · exact lapseClaim_tx hP h
        · exact abandonClaim_tx hP _ h
      · exact lapseClaim_tx hP h
      · exact abandonClaim_tx hP _ h
      · exact h
    · exact h

end Sys2Proof.Machine
end

section
/-! PROOFS. Collisions counted, and the sixteenth: the HOLD slot (O36). -/
namespace Sys2Proof.Machine
variable {s t u : State} {k : Nat} {c : ClaimRecord} {a : Attempt}

/-- A collided HOLD attempt that makes sixteen in ACTIVE, with no commit attempt in flight. -/
theorem attemptCollided_rested (h : SendsFrom s .hold a) (hm : a.mismatch = true) (h15 : s.outbox.hold.attempts = 15)
    (hs : s.mc.station = .active) (hidle : ∀ c, s.alloc.claim = some c → c.inFlight = false) :
        attemptCollided s = rested s := by
  have same := exhaustHold_rested hs h15
  rw [attemptCollided_hold h hm, holdFailed_of_idle (s := endAttempt s) hidle (by rw [same]; rfl) (by rw [same]; rfl), same]

/-- The same with a commit attempt in flight. -/
theorem attemptCollided_rested_commit (h : SendsFrom s .hold a) (hm : a.mismatch = true) (h15 : s.outbox.hold.attempts = 15)
    (hs : s.mc.station = .active) (hc : s.alloc.claim = some c) (hin : c.inFlight = true) :
    attemptCollided s =
      endUpdate none (settleFailedCommit c (setClaim (some { c with inFlight := false }) (rested s))) := by
  have same := exhaustHold_rested hs h15
  rw [attemptCollided_hold h hm, holdFailed_of_inFlight (s := endAttempt s) (c := c) hc hin (by rw [same]; exact hc), same]

theorem endAttempt_keeps_alloc (s : State) : (endAttempt s).alloc = s.alloc := rfl

theorem endIfChanged_outbox_of_unset (before : State) (h : s.table.overcommit = true ∨ sumHeld s ≤ capacity s) :
    (endIfChanged before s).outbox.hold = s.outbox.hold := by
  have quiet := settle_quiet_of_unset none h
  unfold endIfChanged
  split
  · rw [endUpdate, tryStart_hold, quiet.outbox]
  · rfl

theorem endIfChanged_hold_of_inactive (before : State) (hs : s.mc.station ≠ .active) :
    (endIfChanged before s).outbox.hold = s.outbox.hold := by
  unfold endIfChanged
  split
  · rw [endUpdate_of_inactive none hs]
    exact (settle_pilot_of_inactive none hs).2
  · rfl

/-- The sixteenth HOLD attempt in ACTIVE, whatever becomes of the claim (R131). -/
theorem attemptCollided_resting (h : SendsFrom s .hold a) (hm : a.mismatch = true) (h15 : s.outbox.hold.attempts = 15)
    (hs : s.mc.station = .active) (hfits : s.table.overcommit = false → sumHeld s ≤ capacity s)
    (hpassed : ∀ c, s.alloc.claim = some c → c.deadlinePassed = false) :
    (attemptCollided s).line.tx = .none ∧ (attemptCollided s).mc = s.mc
      ∧ (attemptCollided s).outbox.hold = { s.outbox.hold with inFlight := false, attempts := 16, resting := true }
      ∧ (attemptCollided s).alloc.share.lastTx = s.alloc.share.lastTx
      ∧ (attemptCollided s).alloc.share.holdSeq = s.alloc.share.holdSeq
      ∧ (attemptCollided s).alloc.share.silence = s.alloc.share.silence := by
  have effect : attemptCollided s = endIfChanged (endAttempt s) (settleCommit (rested s)) := by
    rw [attemptCollided_hold h hm, holdFailed, exhaustHold_rested hs h15]
  obtain ⟨hold, mc, table, held, lastTx, holdSeq, silence⟩ := settleCommit_unpassed (s := rested s) hpassed
  have tx := settleCommit_tx (s := rested s) cutClosed_none rfl
  have unset : (settleCommit (rested s)).table.overcommit = true
      ∨ sumHeld (settleCommit (rested s)) ≤ capacity (settleCommit (rested s)) := by
    have sum : sumHeld (settleCommit (rested s)) = sumHeld s :=
      sumHeld_congr (by rw [table]; rfl) (by rw [mc]; rfl) (by rw [mc]; rfl) held
    have cap : capacity (settleCommit (rested s)) = capacity s := capacity_congr (by rw [mc]; rfl)
    have overcommit : (settleCommit (rested s)).table.overcommit = s.table.overcommit := by rw [table]; rfl
    rw [sum, cap, overcommit]
    cases hset : s.table.overcommit
    · exact .inr (hfits hset)
    · exact .inl rfl
  generalize settleCommit (rested s) = v at *
  rw [effect]
  refine ⟨endIfChanged_tx cutClosed_none _ tx, ?_, ?_, ?_, ?_, ?_⟩
  · rw [(endIfChanged_keeps (endAttempt s) v).2.1, mc]
    rfl
  · rw [endIfChanged_outbox_of_unset _ unset, hold]
    rfl
  · simp only [endIfChanged_keeps]
    exact lastTx
  · simp only [endIfChanged_keeps]
    exact holdSeq
  · simp only [endIfChanged_keeps]
    exact silence

/-- The sixteenth HOLD attempt in LEAVING and in FENCED (R131). -/
theorem attemptCollided_dropped (h : SendsFrom s .hold a) (hm : a.mismatch = true) (h15 : s.outbox.hold.attempts = 15)
    (hs : s.mc.station ≠ .active) :
    attemptCollided s =
      endIfChanged (endAttempt s)
        (settleCommit (if s.mc.station = .leaving then changeState .detached (dropped s) else dropped s)) := by
  rw [attemptCollided_hold h hm, holdFailed, holdExhausted_dropped hs h15]

theorem attemptCollided_detached (h : SendsFrom s .hold a) (hm : a.mismatch = true) (h15 : s.outbox.hold.attempts = 15)
    (hs : s.mc.station = .leaving) :
    attemptCollided s = endIfChanged (endAttempt s) (changeState .detached (dropped s)) := by
  have none : (changeState .detached (dropped s)).alloc.claim = none := changeState_claim .detached _ (by decide) (by decide)
  rw [attemptCollided_dropped h hm h15 (by rw [hs]; decide), if_pos hs,
    settleCommit_of_idle fun c hc => by rw [none] at hc; cases hc]

/-- FENCED keeps its state when its farewell cannot be said. -/
theorem attemptCollided_fenced (h : SendsFrom s .hold a) (hm : a.mismatch = true) (h15 : s.outbox.hold.attempts = 15)
    (hs : s.mc.station = .fenced) (hpassed : ∀ c, s.alloc.claim = some c → c.deadlinePassed = false) :
    (attemptCollided s).line.tx = .none ∧ (attemptCollided s).outbox.hold = HoldSlot.empty
      ∧ (attemptCollided s).mc.station = .fenced := by
  obtain ⟨hold, mc, -, -, -, -, -⟩ := settleCommit_unpassed (s := dropped s) hpassed
  have tx := settleCommit_tx (s := dropped s) cutClosed_none rfl
  have station : (settleCommit (dropped s)).mc.station = .fenced := by rw [mc]; exact hs
  rw [attemptCollided_dropped h hm h15 (by rw [hs]; decide), if_neg (by rw [hs]; decide)]
  generalize settleCommit (dropped s) = v at *
  refine ⟨endIfChanged_tx cutClosed_none _ tx, ?_, by simpa using station⟩
  rw [endIfChanged_hold_of_inactive _ (by rw [station]; decide), hold]
  rfl

theorem attemptCollided_unsaid (h : SendsFrom s .hold a) (hm : a.mismatch = true) (h15 : s.outbox.hold.attempts = 15)
    (ha : s.mc.station ≠ .active) (hl : s.mc.station ≠ .leaving) (hidle : ∀ c, s.alloc.claim = some c → c.inFlight = false) :
    attemptCollided s = dropped s := by
  rw [attemptCollided_dropped h hm h15 ha, if_neg hl, settleCommit_of_idle (s := dropped s) hidle]
  exact endIfChanged_same _ _ rfl rfl rfl

theorem attemptCollided_unsaid_commit (h : SendsFrom s .hold a) (hm : a.mismatch = true) (h15 : s.outbox.hold.attempts = 15)
    (ha : s.mc.station ≠ .active) (hl : s.mc.station ≠ .leaving) (hc : s.alloc.claim = some c) (hin : c.inFlight = true) :
    attemptCollided s = endUpdate none (settleFailedCommit c
        (setClaim (some { c with inFlight := false }) (dropped s))) := by
  have same := holdExhausted_dropped ha h15
  rw [if_neg hl] at same
  rw [attemptCollided_hold h hm, holdFailed_of_inFlight (s := endAttempt s) (c := c) hc hin (by rw [same]; exact hc), same]

/-- LEAVING ends in DETACHED: its HOLD slot empty, the transmitter idle. -/
theorem attemptCollided_leaving (h : SendsFrom s .hold a) (hm : a.mismatch = true) (h15 : s.outbox.hold.attempts = 15)
    (hs : s.mc.station = .leaving) :
    (attemptCollided s).line.tx = .none ∧ (attemptCollided s).outbox.hold = HoldSlot.empty
      ∧ (attemptCollided s).mc.station = .detached := by
  have inactive : (changeState .detached (dropped s)).mc.station ≠ .active := by simp
  have tx := changeState_tx (s := dropped s) cutClosed_none .detached rfl
  obtain ⟨-, -, hold⟩ := changeState_idle (new := .detached) (by decide) (dropped s)
  rw [attemptCollided_detached h hm h15 hs]
  refine ⟨endIfChanged_tx cutClosed_none _ tx, ?_, by simp⟩
  rw [endIfChanged_hold_of_inactive _ inactive, hold, entered_slots, (discardSlots_answers (by decide) _).2.2.2.2,
    if_neg (by simp)]

/-- A taken DETACHED request is done where the station reaches DETACHED (R48, R193). -/
theorem resolveReached_detached_log (hs : s.mc.station = .detached) :
    (resolveReached s).events.log =
      s.events.log.takeIf (s.mc.request.taken && s.mc.request.first == some .detached) .commandDone none none (some 0x9120)
        s.time.ms := by
  have done : (Resolution.command .stateRequest (some .detached) .done).code = 0x9120 := by decide
  cases taken : s.mc.request.taken
  · rw [resolveReached_of_not_taken taken]
    rfl
  · cases first : s.mc.request.first with
    | none => simp [resolveReached, taken, first]
    | some target =>
      cases target
      · simp [resolveReached, taken, first, hs]
        rfl
      · simp [resolveReached, taken, first, hs, resolveFirst, report, setRequest, done, Resolution.eventKind]

theorem attemptCollided_leaving_log (h : SendsFrom s .hold a) (hm : a.mismatch = true) (h15 : s.outbox.hold.attempts = 15)
    (hs : s.mc.station = .leaving) (hnone : s.alloc.claim = none) (full : FullTable s) (hsettled : Settled s)
    (hclear : s.table.overcommit = false) :
    (attemptCollided s).events.log =
      (((s.events.take .txGaveUp none (s.alloc.holdAttempt.bind (fun h => h.commit))
          (some (BitVec.ofNat 16 (256 * 1 + 16 * 1)))
          s.time.ms).take .stateChanged none none (some (BitVec.ofNat 16 (256 * 7 + 8))) s.time.ms).takeIf
        (s.mc.request.taken && s.mc.request.first == some .detached) .commandDone none none
            (some 0x9120) s.time.ms).log := by
  have fine : NoCheckFails (dropped s) := hsettled.1.congr rfl rfl
  have sum : sumHeld (dropped s) = sumHeld s := sumHeld_congr rfl rfl rfl rfl
  have cap : capacity (dropped s) = capacity s := capacity_congr rfl
  have fits : sumHeld (dropped s) ≤ capacity (dropped s) := by rw [sum, cap]; exact hsettled.fits hclear
  obtain ⟨log, -, -⟩ := arrived_report (s := dropped s) (new := .detached) (by decide) full fine hclear fits (by simp)
  have station : (dropped s).mc.station = .leaving := hs
  rw [abandonOutside_of_kept (s := dropped s) (.inl hnone), station] at log
  rw [attemptCollided_detached h hm h15 hs,
    endIfChanged_changeState_log (s := dropped s) (endAttempt s) (by decide) full fine hclear fits (by simp)]
  have time : (arrived .detached (dropped s)).time = (dropped s).time := by simp [arrived, turned]
  have base : (dropped s).events.log = s.events.log.take .txGaveUp none (s.alloc.holdAttempt.bind (fun h => h.commit))
      (some (BitVec.ofNat 16 (256 * 1 + 16 * 1))) s.time.ms := EventUnit.take_log ..
  rw [resolveReached_detached_log (by simp), log, base, time, arrived_mc, EventUnit.takeIf_log, EventUnit.take_log,
    EventUnit.take_log]
  rfl

end Sys2Proof.Machine
end

section
/-! PROOFS. Collisions counted, and the sixteenth: the CLAIM slot and the ANSWER slots (O36). -/
namespace Sys2Proof.Machine
variable {s t u : State} {k : Nat} {c : ClaimRecord} {a : Attempt} {key : Nat × Byte} {content : Answer} {collided : Bool}

/-! ## The CLAIM slot -/

/-- The CLAIM slot dropped at its sixteenth attempt. -/
def claimDropped (number : Byte) (frame : Nat) (s : State) : State :=
  { s with
    line := (endAttempt s).line
    outbox := { s.outbox with claim := ClaimSlot.empty }
    events := s.events.take .txGaveUp none (some number) (some (BitVec.ofNat 16 (256 * 2 + 16 * frame))) s.time.ms }

/-- A join that has just lost its claim, sending nothing, goes to WAITING with nothing being sent (R35). -/
theorem waiting_update_tx (h : s.line.tx = .none) : (endUpdate none (changeState .waiting s)).line.tx = .none :=
  endUpdate_tx cutClosed_none none (changeState_tx cutClosed_none .waiting h)

theorem gaveUp_claim (kind : ClaimKind) :
    gaveUpValue 2 (claimFrameKind (some kind)) false =
      BitVec.ofNat 16 (256 * 2 + 16 * claimFrameKind (some kind)) := by cases kind <;> decide

theorem attemptCollided_claim_spent (h : SendsFrom s .claim a) (hm : a.mismatch = true) (h15 : s.outbox.claim.attempts = 15)
    (hkey : s.outbox.claim.key = some c.number) (hcontent : s.outbox.claim.content = some c.kind) :
    attemptCollided s = endUpdate none (failClaim .txFailed none
        (claimDropped c.number (claimFrameKind (some c.kind)) s)) := by
  have report := claimFailed_spent (s := endAttempt s) h15
  rw [attemptCollided_claim h hm, report, endAttempt_outbox, hkey, hcontent, gaveUp_claim]
  rfl

/-- A join whose ANNOUNCE has been given up goes to WAITING, and reports it (R35, R130). -/
theorem claimDropped_join_log (hk : c.kind = .floor) (hs : s.mc.station = .joining) (full : FullTable s)
    (hsettled : Settled s)
    (hclear : s.table.overcommit = false) (htaken : s.mc.request.taken = false) :
    (endUpdate none (changeState .waiting
        (removeClaim (raise .claimFailed none (some c.number) (some (joined 0 EndReason.txFailed.code))
          (claimDropped c.number (claimFrameKind (some c.kind)) s))))).events.log =
      (((s.events.take .txGaveUp none (some c.number) (some (BitVec.ofNat 16 (256 * 2 + 16 * 3))) s.time.ms).take
          .claimFailed none (some c.number) (some (BitVec.ofNat 16 (256 * 0 + 9))) s.time.ms).take
        .stateChanged none none (some (BitVec.ofNat 16 (256 * 4 + 5))) s.time.ms).log := by
  have code : joined 0 EndReason.txFailed.code = BitVec.ofNat 16 (256 * 0 + 9) := by decide
  have base : (removeClaim (raise .claimFailed none (some c.number) (some (BitVec.ofNat 16 (256 * 0 + 9)))
      (claimDropped c.number 3 s))).events =
        (s.events.take .txGaveUp none (some c.number) (some (BitVec.ofNat 16 (256 * 2 + 16 * 3))) s.time.ms).take
          .claimFailed none (some c.number) (some (BitVec.ofNat 16 (256 * 0 + 9))) s.time.ms := rfl
  have frame : claimFrameKind (some c.kind) = 3 := by rw [hk]; rfl
  rw [code, frame]
  generalize hv : removeClaim (raise .claimFailed none (some c.number) (some (BitVec.ofNat 16 (256 * 0 + 9)))
    (claimDropped c.number 3 s)) = v at base ⊢
  have table : v.table = s.table := by rw [← hv]; rfl
  have mc : v.mc = s.mc := by rw [← hv]; rfl
  have share : v.alloc.share.held = s.alloc.share.held := by rw [← hv]; rfl
  have noClaim : v.alloc.claim = none := by rw [← hv]; rfl
  have time : v.time = s.time := by rw [← hv]; rfl
  have fullV : FullTable v := by rw [FullTable, table]; exact full
  have fine : NoCheckFails v := hsettled.1.congr (by rw [table]) mc
  have sum : sumHeld v = sumHeld s := sumHeld_congr (by rw [table]) (by rw [mc]) (by rw [mc]) share
  have cap : capacity v = capacity s := capacity_congr (by rw [mc])
  have fits : sumHeld v ≤ capacity v := by rw [sum, cap]; exact hsettled.fits hclear
  have clear : v.table.overcommit = false := by rw [table, hclear]
  obtain ⟨log, -, -⟩ := arrived_report (s := v) (new := .waiting) (by decide) fullV fine clear fits (by simp)
  rw [endUpdate_changeState_log none (by decide) fullV fine clear fits (by simp),
      resolveReached_of_not_taken (by simp [mc, htaken]),
    log, abandonOutside_of_kept (.inl noClaim), base, mc, hs, time, EventUnit.take_log, EventUnit.take_log,
        EventUnit.take_log,
    EventUnit.take_log, EventUnit.take_log]
  rfl

/-! ## The ANSWER slots -/

theorem gaveUp_answer (content : Answer) :
    gaveUpValue 3 content.frameKind false = BitVec.ofNat 16 (256 * 3 + 16 * content.frameKind) := by
  cases content <;> rfl

theorem raiseGaveUp_events {b : AnswerSlot} (hkey : b.key = some key) (hcontent : b.content = some content) :
    (raiseGaveUp b s).events =
      s.events.take .txGaveUp (some key.1) (some key.2) (some
          (BitVec.ofNat 16 (256 * 3 + 16 * content.frameKind))) s.time.ms := by
  simp [raiseGaveUp, hkey, hcontent, gaveUp_answer]

/-- The state in which an answer is dropped at the report: the report counted, TX_GAVE_UP where the attempts are spent. -/
def answerSpent (k : Nat) (collided : Bool) (s : State) : State :=
  if (answerAt s k).expired then countAnswer k ((answerAt s k).charged collided) s
  else raiseGaveUp (answerAt (countAnswer k true s) k) (countAnswer k true s)

/-- The reason of the drop (R193): 1 DEADLINE, 2 ATTEMPTS. -/
def dropReason (a : AnswerSlot) : Nat := if a.expired then 1 else 2

theorem dropReason_cases (a : AnswerSlot) : dropReason a = 1 ∨ dropReason a = 2 := by
  unfold dropReason
  split <;> simp

/-- The report ends the answer: it has expired, or these are its sixteen attempts. -/
def Ends (collided : Bool) (a : AnswerSlot) : Prop :=
  a.expired = true ∨ (collided = true ∧ a.rewritten = false ∧ a.attempts = 15)

theorem answerFailed_ends (hk : k < s.outbox.answers.length) (h : Ends collided (answerAt s k)) :
    answerFailed k collided s = dropAnswer k (dropReason (answerAt s k)) (answerSpent k collided s) := by
  by_cases he : (answerAt s k).expired = true
  · rw [answerFailed_expired hk he, dropReason, if_pos he, answerSpent, if_pos he]
  · obtain ⟨rfl, hr, hspent⟩ := h.resolve_left he
    rw [answerFailed_spent hk (by simpa using he) hr hspent, dropReason, if_neg he, answerSpent, if_neg he]

theorem answerSpent_keeps (k : Nat) (collided : Bool) (s : State) :
    (answerSpent k collided s).table = s.table ∧ (answerSpent k collided s).mc = s.mc
      ∧ (answerSpent k collided s).alloc = s.alloc ∧ (answerSpent k collided s).time = s.time := by
  unfold answerSpent
  split <;> exact ⟨rfl, rfl, rfl, rfl⟩

theorem answerSpent_slot (hk : k < s.outbox.answers.length) :
    (answerAt (answerSpent k collided s) k).key = (answerAt s k).key
      ∧ (answerAt (answerSpent k collided s) k).content = (answerAt s k).content := by
  have slot (charged : Bool) := answerAt_countAnswer (s := s) (k := k) charged hk
  unfold answerSpent
  split
  · rw [slot]
    exact ⟨rfl, rfl⟩
  · have same : answerAt (raiseGaveUp (answerAt (countAnswer k true s) k) (countAnswer k true s)) k = answerAt
        (countAnswer k true s) k :=
      rfl
    rw [same, slot]
    exact ⟨rfl, rfl⟩

theorem answerSpent_events (hk : k < s.outbox.answers.length) (hkey : (answerAt s k).key = some key)
    (hcontent : (answerAt s k).content = some content) :
    (answerSpent k collided s).events =
      s.events.takeIf (!(answerAt s k).expired) .txGaveUp (some key.1) (some key.2)
        (some (BitVec.ofNat 16 (256 * 3 + 16 * content.frameKind))) s.time.ms := by
  have slot := answerAt_countAnswer (s := s) (k := k) true hk
  unfold answerSpent
  split
  · rename_i he
    rw [he]
    rfl
  · rename_i he
    rw [raiseGaveUp_events (key := key) (content := content) (by rw [slot]; exact hkey) (by rw [slot]; exact hcontent)]
    simp only [he]
    rfl

theorem answerSpent_sums (k : Nat) (collided : Bool) (s : State) :
    sumHeld (answerSpent k collided s) = sumHeld s ∧ capacity (answerSpent k collided s) = capacity s := by
  obtain ⟨table, mc, alloc, -⟩ := answerSpent_keeps k collided s
  exact ⟨sumHeld_congr (by rw [table]) (by rw [mc]) (by rw [mc]) (by rw [alloc]), capacity_congr (by rw [mc])⟩

/-- The events of an answer that ends at its report. -/
theorem answerFailed_ends_log (hk : k < s.outbox.answers.length) (h : Ends collided (answerAt s k)) (full : FullTable s)
    (fine : NoCheckFails s) (hclear : s.table.overcommit = false) (hfits : sumHeld s ≤ capacity s)
    (hkey : (answerAt s k).key = some key) (hcontent : (answerAt s k).content = some content) :
    (answerFailed k collided s).events.log =
      ((s.events.takeIf (!(answerAt s k).expired) .txGaveUp (some key.1) (some key.2)
          (some (BitVec.ofNat 16 (256 * 3 + 16 * content.frameKind))) s.time.ms).take .answerExpired (some key.1)
              (some key.2)
        (some (BitVec.ofNat 16 (256 * dropReason (answerAt s k) + if content = .assent then 1 else 2))) s.time.ms).log := by
  obtain ⟨table, mc, -, time⟩ := answerSpent_keeps k collided s
  obtain ⟨sum, cap⟩ := answerSpent_sums k collided s
  obtain ⟨keySame, contentSame⟩ := answerSpent_slot (collided := collided) hk
  rw [answerFailed_ends hk h, dropAnswer_expired_log (key := key) (content := content) (dropReason_cases _)
    (by rw [FullTable, table]; exact full) (fine.congr (by rw [table]) mc) (by rw [table, hclear])
        (by rw [sum, cap]; exact hfits)
    (keySame.trans hkey) (contentSame.trans hcontent), answerSpent_events hk hkey hcontent, time]

/-- An OBJECT that ends at its report leaves the table alone. -/
theorem answerFailed_object (hk : k < s.outbox.answers.length) (h : Ends collided (answerAt s k))
    (hkey : (answerAt s k).key = some key) (hcontent : (answerAt s k).content = some content) (ho : content ≠ .assent) :
    (answerFailed k collided s).events =
        (s.events.takeIf (!(answerAt s k).expired) .txGaveUp (some key.1) (some key.2)
          (some (BitVec.ofNat 16 (256 * 3 + 16 * content.frameKind))) s.time.ms).take .answerExpired (some key.1)
              (some key.2)
        (some (BitVec.ofNat 16 (256 * dropReason (answerAt s k) + if content = .assent then 1 else 2))) s.time.ms
      ∧ (answerFailed k collided s).table.entries = s.table.entries := by
  obtain ⟨table, -, -, time⟩ := answerSpent_keeps k collided s
  obtain ⟨keySame, contentSame⟩ := answerSpent_slot (collided := collided) hk
  have other : (answerAt (answerSpent k collided s) k).content ≠ some .assent := by
    rw [contentSame, hcontent]
    simpa using ho
  rw [answerFailed_ends hk h, dropAnswer_of_other _ other]
  refine ⟨?_, by simp [table]⟩
  have reported := raiseExpired_events (s := answerSpent k collided s) (dropReason (answerAt s k)) (keySame.trans hkey)
    (contentSame.trans hcontent)
  have emptied (v : State) : (emptyAnswer k v).events = v.events := by simp
  rw [emptied, reported, joined_answerCode (dropReason_cases _), answerSpent_events hk hkey hcontent, time]

/-- The earmark of an ASSENT that ends at its report goes with it; no other entry changes. -/
theorem answerFailed_assent (hk : k < s.outbox.answers.length) (h : Ends collided (answerAt s k)) (full : FullTable s)
    (hkey : (answerAt s k).key = some key) (hcontent : (answerAt s k).content = some .assent) (hx : key.1 < 24) :
    (isPeer s key.1 = true → ∀ m, (entryAt s key.1).stored.earmark = some m → m.number = key.2 →
        (entryAt (answerFailed k collided s) key.1).stored.earmark = none
          ∧ ((entryAt s key.1).stored.status = .pendingJoin →
            (entryAt (answerFailed k collided s) key.1).stored.status = .absent))
      ∧ ∀ i, i ≠ key.1 → entryAt (answerFailed k collided s) i = entryAt s i := by
  obtain ⟨table, mc, -, -⟩ := answerSpent_keeps k collided s
  obtain ⟨keySame, contentSame⟩ := answerSpent_slot (collided := collided) hk
  have entry (i : Nat) : entryAt (answerSpent k collided s) i = entryAt s i := entryAt_congr (by rw [table]) i
  rw [answerFailed_ends hk h]
  refine ⟨fun hp m hm hn => ?_, fun i hi => ?_⟩
  · have peer : isPeer (answerSpent k collided s) key.1 = true := (isPeer_congr (by rw [mc]) (by rw [mc]) key.1).trans hp
    have gone := dropAnswer_earmark (s := answerSpent k collided s) (n := key.2) (m := m) (dropReason (answerAt s k))
      (by rw [FullTable, table]; exact full) hx (keySame.trans hkey) (contentSame.trans hcontent) peer
          (by rw [entry]; exact hm) hn
    rwa [entry] at gone
  · rw [dropAnswer_entryAt_ne (x := key.1) (n := key.2) _ (keySame.trans hkey) hi, entry]

/-! ## Reports that are not due -/

theorem attemptCollided_of_sends_out (htx : s.line.tx = .sending a) (hs : a.stopped = false) (hm : a.mismatch = true) :
    attemptCollided s = slotFailed true a.slot (endAttempt s) := by
  simp [attemptCollided, htx, Attempt.collided, hm, hs]


theorem attemptCompleted_of_not (h : ∀ a, s.line.tx = .sending a
    → a.stopped = true ∨ a.mismatch = true ∨ a.taken ≠ 8 * a.bytes.length) :
    attemptCompleted s = s := by
  unfold attemptCompleted
  split
  · rename_i a ha
    rw [if_neg]
    simp only [Attempt.completed, Attempt.total, Bool.and_eq_true, Bool.not_eq_true', beq_iff_eq, not_and]
    rintro ⟨hm, ht⟩ hs
    rcases h a ha with h | h | h
    · simp [hs] at h
    · simp [hm] at h
    · exact h ht
  · rfl

theorem attemptCollided_of_not (h : ∀ a, s.line.tx = .sending a → a.stopped = true ∨ a.mismatch = false) :
    attemptCollided s = s := by
  unfold attemptCollided
  split
  · rename_i a ha
    rw [if_neg]
    simp only [Attempt.collided, Bool.and_eq_true, Bool.not_eq_true', not_and]
    intro hm hs
    rcases h a ha with h | h
    · simp [hs] at h
    · simp [hm] at h
  · rfl

/-- Settles O36. -/
theorem collisionsCountAndExhaust : Obligations.CollisionsCountAndExhaust := by
  refine ⟨fun a s h hm hlt => ?_, fun a s h hm h15 c hc hk hkey hcontent => ?_, fun a s h hm hidle hlt => ?_,
    fun a s h hm h15 hs => ?_, fun a s h hm h15 hs hfits hpassed => ?_, fun a s h hm h15 hs hpassed => ?_,
    fun a k s h hm hl he => ?_, fun a k s h hm hl hends => ?_,
        fun a k s h hm hl he hr h15 hclear hfits key hkey r hcontent => ?_,
    fun a k s h hm hl he hclear hfits key hkey r hcontent => ?_, fun a k s h hm hl hfull hcontent key hkey hx hends => ?_,
    fun c a s h hm h15 hc hk hs hkey hcontent => ?_, fun c a s h hm h15 hs hc hk => ?_, fun a s htx hs hm hout => ?_,
    fun s => ⟨fun h => ?_, fun h => ?_⟩⟩
  · have effect : attemptCollided s = countClaim true (endAttempt s) :=
      (attemptCollided_claim h hm).trans (claimFailed_below (s := endAttempt s) hlt)
    exact congrArg Host.Outcome.next effect
  · have effect := attemptCollided_claim_spent (c := c) h hm h15 hkey (by rw [hcontent, hk])
    rw [failClaim_increase (s := claimDropped c.number _ s) (c := c) .txFailed none hc hk, hk] at effect
    exact congrArg Host.Outcome.next effect
  · have below := exhaustHold_below (s := endAttempt s) hlt
    have report := holdFailed_of_idle (s := endAttempt s) (collided := true) hidle (by rw [below]; rfl) (by rw [below]; rfl)
    rw [below] at report
    exact congrArg Host.Outcome.next ((attemptCollided_hold h hm).trans report)
  · refine ⟨fun hidle => congrArg Host.Outcome.next (attemptCollided_rested h hm h15 hs hidle), fun c hc hin hd hstay => ?_,
      fun c kind value hc hk hin hcase => ?_, fun c hc hk hin hd hdrop => ?_⟩
    · have effect := attemptCollided_rested_commit h hm h15 hs hc hin
      have stays := dropDue_eq_false (c := c) (s := rested s) hstay
      rw [settleFailedCommit_of_waiting hd (by simpa [dropDue] using stays)] at effect
      exact congrArg Host.Outcome.next effect
    · have effect := attemptCollided_rested_commit h hm h15 hs hc hin
      have claim : (rested s).alloc.claim = some c := hc
      rcases hcase with ⟨hd, hlow, rfl, rfl⟩ | ⟨hd, hdrop, rfl, rfl⟩
      · rw [settleFailedCommit_lapsed claim hd (dropDue_eq_false (.inr hlow)), lapseClaim_increase claim hk] at effect
        exact congrArg Host.Outcome.next effect
      · rw [settleFailedCommit_abandoned claim hd ((dropDue_iff c _).2 ⟨hk, hdrop⟩),
            abandonClaim_increase claim hk (by decide)]
          at effect
        exact congrArg Host.Outcome.next effect
    · have effect := attemptCollided_rested_commit h hm h15 hs hc hin
      obtain ⟨events, ended⟩ := settleFailedCommit_of_both (s := rested s) hc hk hd false
      obtain ⟨gone, failures⟩ := endUpdate_claimEnded none events (rested s)
      have tx : (claimEnded events (rested s)).line.tx = .none := rfl
      rw [ended] at effect
      exact ⟨_, congrArg Host.Outcome.next effect, endUpdate_tx cutClosed_none none tx, gone, failures⟩
  · exact ⟨_, rfl, attemptCollided_resting h hm h15 hs hfits hpassed⟩
  · refine ⟨_, rfl, ?_⟩
    show (attemptCollided s).line.tx = .none ∧ (attemptCollided s).outbox.hold = HoldSlot.empty
      ∧ (attemptCollided s).mc.station = (if s.mc.station = .leaving then .detached else .fenced) ∧ _ ∧ _
    rcases hs with hs | hs
    · obtain ⟨tx, hold, station⟩ := attemptCollided_leaving h hm h15 hs
      refine ⟨tx, hold, by rw [station, if_pos hs], fun _ hf => ?_, fun hnone _ hsettled hfull hclear =>
        EventUnit.queue_of_log (attemptCollided_leaving_log h hm h15 hs hnone hfull hsettled hclear)⟩
      rw [hs] at hf
      cases hf
    · obtain ⟨tx, hold, station⟩ := attemptCollided_fenced h hm h15 hs hpassed
      have other : s.mc.station ≠ .leaving := by rw [hs]; decide
      refine ⟨tx, hold, by rw [station, if_neg other], fun hnone _ => ?_, fun _ hl => absurd hl other⟩
      have effect := attemptCollided_unsaid h hm h15 (by rw [hs]; decide) other fun c hc => by rw [hnone] at hc; cases hc
      show (attemptCollided s).events = _ ∧ { attemptCollided s with events := s.events, line := s.line, outbox :=
          s.outbox } = s
      rw [effect]
      exact ⟨rfl, rfl⟩
  · have hk : k.val < s.outbox.answers.length := by rw [hl]; exact k.isLt
    have report := answerFailed_counted (s := endAttempt s) (k := k) (collided := true) hk he
    refine ⟨fun hr hlt => congrArg Host.Outcome.next ?_, fun hr => congrArg Host.Outcome.next ?_⟩
    · have charged : (answerAt (endAttempt s) k).charged true = true := by
        show (true && !(answerAt s k).rewritten) = true
        rw [hr]
        rfl
      have slot : (answerAt s k).reported true =
          { answerAt s k with inFlight := false, attempts := (answerAt s k).attempts + 1 } := by
        rw [AnswerSlot.reported, ← hr]
        rfl
      rw [attemptCollided_answer h hm, report (.inr hlt), charged, countAnswer_eq, ← slot]
      rfl
    · have charged : (answerAt (endAttempt s) k).charged true = false := by
        show (true && !(answerAt s k).rewritten) = false
        rw [hr]
        rfl
      rw [attemptCollided_answer h hm, report (.inl charged), charged, countAnswer_eq]
      rfl
  · have hk : k.val < s.outbox.answers.length := by rw [hl]; exact k.isLt
    have gone : AnswerGone k s (answerFailed k true (endAttempt s)) :=
      answerFailed_gone (s := endAttempt s) (collided := true) hk (hends.imp_right fun both => ⟨rfl, both⟩)
    exact ⟨_, congrArg Host.Outcome.next (attemptCollided_answer h hm), answerFailed_tx cutClosed_none k rfl,
      gone.answerAt_self hl k.isLt, gone.not_listed, fun j _ hj => gone.answerAt_ne hj⟩
  · have hk : k.val < s.outbox.answers.length := by rw [hl]; exact k.isLt
    obtain ⟨events, entries⟩ := answerFailed_object (s := endAttempt s) (collided := true) hk
        (.inr ⟨rfl, hr, h15⟩) hkey hcontent
      (by simp)
    refine ⟨_, congrArg Host.Outcome.next (attemptCollided_answer h hm), ?_, entries⟩
    have kept : (answerAt (endAttempt s) k).expired = false := he
    rw [events, dropReason, kept]
    rfl
  · have hk : k.val < s.outbox.answers.length := by rw [hl]; exact k.isLt
    obtain ⟨events, -⟩ := answerFailed_object (s := endAttempt s) (collided := true) hk (.inl he) hkey hcontent (by simp)
    refine ⟨_, congrArg Host.Outcome.next (attemptCollided_answer h hm), ?_⟩
    have kept : (answerAt (endAttempt s) k).expired = true := he
    rw [events, dropReason, kept]
    rfl
  · have hk : k.val < s.outbox.answers.length := by rw [hl]; exact k.isLt
    have ends : Ends true (answerAt (endAttempt s) k) := hends.imp_right fun both => ⟨rfl, both⟩
    obtain ⟨earmark, others⟩ := answerFailed_assent (s := endAttempt s) hk ends hfull hkey hcontent hx
    refine ⟨_, congrArg Host.Outcome.next (attemptCollided_answer h hm), earmark, fun i _ hi => others i hi,
        fun hsettled hclear => ?_⟩
    have sum : sumHeld (endAttempt s) = sumHeld s := sumHeld_congr rfl rfl rfl rfl
    have cap : capacity (endAttempt s) = capacity s := capacity_congr rfl
    have log := answerFailed_ends_log (s := endAttempt s) hk ends hfull (hsettled.1.congr rfl rfl) hclear
      (by rw [sum, cap]; exact hsettled.fits hclear) hkey hcontent
    rw [if_pos rfl, dropReason, show Answer.assent.frameKind = 4 from rfl] at log
    exact EventUnit.queue_of_log log
  · have effect := attemptCollided_claim_spent (c := c) h hm h15 hkey (by rw [hcontent, hk])
    rw [failClaim_floor (s := claimDropped c.number _ s) (c := c) none hc hk, if_neg (by decide)] at effect
    obtain ⟨station, retry, gone, -, slot, failures, backoff⟩ := waiting_update none
      (removeClaim (raise .claimFailed none (some c.number) (some (joined 0 EndReason.txFailed.code))
        (claimDropped c.number (claimFrameKind (some c.kind)) s)))
    have tx := waiting_update_tx (s := removeClaim (raise .claimFailed none (some c.number)
      (some (joined 0 EndReason.txFailed.code)) (claimDropped c.number (claimFrameKind (some c.kind)) s))) rfl
    refine ⟨_, congrArg Host.Outcome.next effect, tx, station, retry, gone, slot, failures, backoff,
        fun hsettled hfull hclear htaken =>
      EventUnit.queue_of_log (claimDropped_join_log hk hs hfull hsettled hclear htaken)⟩
  · have ha : s.mc.station ≠ .active := by rw [hs]; decide
    have hl : s.mc.station ≠ .leaving := by rw [hs]; decide
    refine ⟨fun hd hin => congrArg Host.Outcome.next ?_, fun hin => congrArg Host.Outcome.next ?_, fun hd hin => ?_⟩
    · rw [attemptCollided_unsaid_commit h hm h15 ha hl hc hin, settleFailedCommit_of_waiting hd (dropDue_eq_false (.inl hk))]
      rfl
    · refine attemptCollided_unsaid h hm h15 ha hl fun d hd => ?_
      rw [hc] at hd
      cases hd
      exact hin
    · have effect := attemptCollided_unsaid_commit h hm h15 ha hl hc hin
      have claim : (dropped s).alloc.claim = some c := hc
      rw [settleFailedCommit_lapsed claim hd (dropDue_eq_false (.inl hk)), lapseClaim_floor claim hk] at effect
      obtain ⟨station, -, gone, hold, -⟩ := waiting_update none
        (removeClaim (raise .claimLapsed none (some c.number) (some (valueOf c.amount)) (dropped s)))
      have tx := waiting_update_tx (s := removeClaim (raise .claimLapsed none (some c.number)
          (some (valueOf c.amount)) (dropped s))) rfl
      exact ⟨_, congrArg Host.Outcome.next effect, tx, station, gone, hold⟩
  · exact congrArg Host.Outcome.next ((attemptCollided_of_sends_out htx hs hm).trans
        (slotFailed_idle (s := endAttempt s) hout))
  · exact congrArg Host.Outcome.next (attemptCompleted_of_not h)
  · exact congrArg Host.Outcome.next (attemptCollided_of_not h)

end Sys2Proof.Machine
end

section
/-! PROOFS. A claim frame and an answer that complete (O35). -/
namespace Sys2Proof.Machine
variable {s t u : State} {k : Nat} {c : ClaimRecord} {a : Attempt}

/-! ## The report COMPLETED -/

theorem attemptCompleted_of_done (htx : s.line.tx = .sending a) (hs : a.stopped = false) (hm : a.mismatch = false)
    (hd : a.taken = 8 * a.bytes.length) : attemptCompleted s = slotCompleted a (endAttempt s) := by
  simp [attemptCompleted, htx, Attempt.completed, Attempt.total, hs, hm, hd]

theorem attemptCompleted_of_sends {slot : SlotId} (h : SendsFrom s slot a) (hm : a.mismatch = false)
    (hd : a.taken = 8 * a.bytes.length) : a.slot = slot ∧ attemptCompleted s = slotCompleted a (endAttempt s) := by
  obtain ⟨htx, hslot, hs, -⟩ := h
  exact ⟨hslot, attemptCompleted_of_done htx hs hm hd⟩

theorem attemptCompleted_hold (h : SendsFrom s .hold a) (hm : a.mismatch = false) (hd : a.taken = 8 * a.bytes.length) :
    attemptCompleted s = holdCompleted (endAttempt s) := by
  obtain ⟨hslot, report⟩ := attemptCompleted_of_sends h hm hd
  have inFlight : (endAttempt s).outbox.hold.inFlight = true := h.2.2.2
  rw [report, slotCompleted, hslot]
  exact if_pos inFlight

theorem attemptCompleted_claim (h : SendsFrom s .claim a) (hm : a.mismatch = false) (hd : a.taken = 8 * a.bytes.length) :
    attemptCompleted s = claimCompleted (endAttempt s) := by
  obtain ⟨hslot, report⟩ := attemptCompleted_of_sends h hm hd
  have inFlight : (endAttempt s).outbox.claim.inFlight = true := h.2.2.2
  rw [report, slotCompleted, hslot]
  exact if_pos inFlight

theorem attemptCompleted_answer (h : SendsFrom s (.answer k) a) (hm : a.mismatch = false)
    (hd : a.taken = 8 * a.bytes.length) :
    attemptCompleted s = emptyAnswer k (endAttempt s) := by
  obtain ⟨hslot, report⟩ := attemptCompleted_of_sends h hm hd
  have inFlight : (answerAt (endAttempt s) k).inFlight = true := h.2.2.2
  rw [report, slotCompleted, hslot]
  exact if_pos inFlight

/-! ## The roll -/

theorem rollNow_congr (he : t.table.entries = s.table.entries) (hm : t.mc = s.mc) : rollNow t = rollNow s := by
  unfold rollNow
  refine List.filter_congr fun i _ => ?_
  rw [isPeer_congr (t := t) (s := s) (by rw [hm]) (by rw [hm]) i, entryAt_congr he i]

theorem await_covered (c : ClaimRecord) (roll : List Nat) : (c.await roll).covered = roll.isEmpty := by
  cases roll <;> simp [ClaimRecord.await, ClaimRecord.covered]

theorem rollNow_isEmpty (s : State) :
    (rollNow s).isEmpty = !(List.range 24).any (fun i => isPeer s i && (entryAt s i).stands .member) := by
  rw [Bool.eq_iff_iff]
  simp [rollNow, List.filter_eq_nil_iff, Config.stations]

/-- A claim that has just taken its roll waits for it, or commits at once. -/
theorem commitIfCovered_await (hc : s.alloc.claim = some (c.await (rollNow s))) :
    commitIfCovered s =
      if (List.range 24).any (fun i => isPeer s i && (entryAt s i).stands .member) = true then s
      else requestHold (setClaim (some { c.await (rollNow s) with phase := .committing }) s) := by
  have covered : (c.await (rollNow s)).covered = !(List.range 24).any
      (fun i => isPeer s i && (entryAt s i).stands .member) := by
    rw [await_covered, rollNow_isEmpty]
  have awaiting : (c.await (rollNow s)).phase = .awaiting := rfl
  rw [commitIfCovered, hc, Option.any_some, covered, awaiting]
  split
  · rename_i h
    rw [if_neg (by simpa using h), enterCommitting, hc]
    rfl
  · rename_i h
    rw [if_pos (by simpa using h)]

/-- An update that changes nothing of OVERCOMMIT, with a claim open, is quiet. -/
theorem endUpdate_quiet_of_claim (source : Option Nat) (hc : s.alloc.claim = some c)
    (hsame : s.table.overcommit = true ↔ capacity s < sumHeld s) : Quiet s (endUpdate source s) := by
  rw [endUpdate_of_claim source hc, settle_eq_summed source hsame]
  exact summed_quiet s

theorem sameSums_congr (hsame : s.table.overcommit = true ↔ capacity s < sumHeld s) (ht : t.table = s.table)
    (hm : t.mc = s.mc)
    (hheld : t.alloc.share.held = s.alloc.share.held) : t.table.overcommit = true ↔ capacity t < sumHeld t := by
  rw [sumHeld_congr (t := t) (s := s) (by rw [ht]) (by rw [hm]) (by rw [hm]) hheld,
      capacity_congr (t := t) (s := s) (by rw [hm]), ht]
  exact hsame

theorem announceSent_share (kind : ClaimKind) (s : State) :
    (announceSent kind s).alloc.share = if kind = .floor then { s.alloc.share with silence := 0 } else s.alloc.share := by
  cases kind <;> simp [announceSent]

theorem requestHold_filled_of_allowed (h : holdAllowed s = true) : (requestHold s).outbox.hold.occupancy = .filled := by
  rw [requestHold_hold, h]
  by_cases hf : s.outbox.hold.occupancy = .filled
  · simp [hf]
  · simp [hf, freshHold]

/-- The claim with its roll just taken: AWAITING, or COMMITTING where nobody is to answer (R55, R58). -/
def rolled (c : ClaimRecord) (s : State) : ClaimRecord :=
  { c.await (rollNow s) with
    phase := if (List.range 24).any (fun i => isPeer s i && (entryAt s i).stands .member) then .awaiting else .committing }

/-- What the taking of the roll leaves (R55). -/
theorem takeRoll_spec (h : c.kind = .floor ∨ anySuspect s = false) :
    (takeRoll c s).alloc = { s.alloc with claim := some (rolled c s) }
      ∧ ((∀ i < 24, (isPeer s i && (entryAt s i).stands .member) = false)
          → (s.mc.station = .active ∨ s.mc.station = .joining) →
        (takeRoll c s).outbox.hold.occupancy = .filled)
      ∧ (takeRoll c s).mc = s.mc ∧ (takeRoll c s).table = s.table ∧ (takeRoll c s).line = s.line
      ∧ (takeRoll c s).outbox.claim = s.outbox.claim ∧ (takeRoll c s).outbox.answers = s.outbox.answers := by
  have takes : ¬(c.kind = .increase ∧ anySuspect s = true) := by
    rintro ⟨hk, hs⟩
    rcases h with h | h
    · rw [h] at hk
      cases hk
    · rw [h] at hs
      cases hs
  have effect : takeRoll c s =
      if (List.range 24).any (fun i => isPeer s i && (entryAt s i).stands .member) = true then
        setClaim (some (c.await (rollNow s))) s
      else requestHold (setClaim (some { c.await (rollNow s) with phase := .committing }) s) := by
    rw [takeRoll, if_neg takes]
    exact commitIfCovered_await (s := setClaim (some (c.await (rollNow s))) s) (c := c) rfl
  rw [effect]
  by_cases hroll : (List.range 24).any (fun i => isPeer s i && (entryAt s i).stands .member) = true
  · rw [if_pos hroll, rolled, if_pos hroll]
    refine ⟨rfl, fun hnone => ?_, rfl, rfl, rfl, rfl, rfl⟩
    obtain ⟨i, hi, hmember⟩ := List.any_eq_true.1 hroll
    rw [hnone i (List.mem_range.1 hi)] at hmember
    cases hmember
  · rw [if_neg hroll, rolled, if_neg hroll]
    refine ⟨by simp; rfl, fun _ hs => requestHold_filled_of_allowed ?_, by simp, by simp, by simp, by simp, by simp⟩
    rcases hs with hs | hs <;> simp [holdAllowed, hs]

/-- Settles O35. -/
theorem claimFrameAndAnswerComplete : Obligations.ClaimFrameAndAnswerComplete := by
  refine ⟨fun a s h hm hd hsame c hc hkind => ?_, fun a s h hm hd hsus c hc hk => congrArg Host.Outcome.next ?_,
    fun a k s h hm hd => congrArg Host.Outcome.next (attemptCompleted_answer h hm hd)⟩
  · generalize hu : announceSent c.kind (emptyClaim (endAttempt s)) = u
    have table : u.table = s.table := by rw [← hu]; simp [endAttempt, setLine]
    have mc : u.mc = s.mc := by rw [← hu]; simp [endAttempt, setLine]
    have share : u.alloc.share = if c.kind = .floor then { s.alloc.share with silence := 0 } else s.alloc.share := by
      rw [← hu, announceSent_share]
      rfl
    have outbox : u.outbox = { s.outbox with claim := ClaimSlot.empty } := by
      rw [← hu, (announceSent_keeps c.kind _).2.2.2.2.2.2.2.2.2.2.2.2.2.2.1]
      rfl
    have line : u.line.tx = .none := by
      rw [← hu]
      simp
      rfl
    have kindSuspect : c.kind = .floor ∨ anySuspect u = false :=
      hkind.imp_right fun h => (anySuspect_congr (by rw [table]) (by rw [mc]) (by rw [mc])).trans h
    obtain ⟨alloc, hold, mc', table', line', slot, answers⟩ := takeRoll_spec kindSuspect
    have effect : attemptCompleted s = endUpdate none (takeRoll c u) := by
      rw [attemptCompleted_claim h hm hd, claimCompleted, endAttempt_keeps_alloc, hc, ← hu]
    have roll : rolled c u = rolled c s := by
      have members (i : Nat) : (isPeer u i && (entryAt u i).stands .member) =
          (isPeer s i && (entryAt s i).stands .member) := by
        rw [isPeer_congr (t := u) (s := s) (by rw [mc]) (by rw [mc]) i, entryAt_congr (t := u) (s := s) (by rw [table]) i]
      simp only [rolled, rollNow_congr (t := u) (s := s) (by rw [table]) mc, members]
    have held : u.alloc.share.held = s.alloc.share.held := by
      rw [share]
      split <;> rfl
    have same := sameSums_congr (t := takeRoll c u) hsame (table'.trans table) (mc'.trans mc) (by rw [alloc]; exact held)
    have quiet := endUpdate_quiet_of_claim none (s := takeRoll c u) (congrArg Allocation.claim alloc) same
    generalize takeRoll c u = v at *
    refine ⟨_, congrArg Host.Outcome.next effect, ?_, fun hnone hs => ?_, ?_, ?_, ?_, ?_, ?_, ?_⟩
    · rw [quiet.alloc, alloc, roll]
      rfl
    · rw [quiet.outbox]
      refine hold (fun i hi => ?_) (by rwa [mc])
      rw [isPeer_congr (t := u) (s := s) (by rw [mc]) (by rw [mc]) i, entryAt_congr (t := u) (s := s) (by rw [table]) i]
      exact hnone i hi
    · rw [quiet.alloc, alloc, share]
    · rw [quiet.outbox, slot, outbox]
    · rw [quiet.line, line', line]
    · rw [quiet.mc, mc', mc]
    · rw [quiet.entries, table', table]
    · rw [quiet.outbox, answers, outbox]
  · have suspect : anySuspect (emptyClaim (endAttempt s)) = true := (anySuspect_congr rfl rfl rfl).trans hsus
    have effect : attemptCompleted s = endUpdate none (takeRoll c (emptyClaim (endAttempt s))) := by
      rw [attemptCompleted_claim h hm hd, claimCompleted, endAttempt_keeps_alloc, hc]
      simp only [hk]
      rfl
    rw [takeRoll, if_pos ⟨hk, suspect⟩, failClaim_increase (s := emptyClaim (endAttempt s))
        (c := c) .suspect none hc hk] at effect
    exact effect

end Sys2Proof.Machine
end

section
/-! PROOFS. A HOLD that completes in ACTIVE (O32, O33). -/
namespace Sys2Proof.Machine
variable {s t u : State} {k : Nat} {c : ClaimRecord} {a : Attempt} {h : HoldAttempt}

/-! ## The checks of a HOLD completion (R85) -/

theorem requestHold_active_empty (hs : s.mc.station = .active) (he : s.outbox.hold = HoldSlot.empty) :
    (requestHold s).outbox.hold = freshHold := by
  rw [requestHold_active hs, if_neg (by rw [he]; decide)]

theorem requestHold_fresh (he : s.outbox.hold = freshHold) : (requestHold s).outbox.hold = freshHold := by
  rw [requestHold_hold, he]
  simp [freshHold]

/-- A request of the HOLD slot in ACTIVE: empty or fresh before, fresh after. -/
theorem requestHold_of_emptyOrFresh (hs : s.mc.station = .active) {b : Bool}
    (he : s.outbox.hold = if b then freshHold else HoldSlot.empty) (ask : Bool) :
    (if ask then requestHold s else s).outbox.hold = if b || ask then freshHold else HoldSlot.empty := by
  cases ask
  · simpa using he
  · cases b
    · simpa using requestHold_active_empty hs he
    · simpa using requestHold_fresh he

theorem shedCheck_hold (hs : s.mc.station = .active) {b : Bool}
    (he : s.outbox.hold = if b then freshHold else HoldSlot.empty) :
    (shedCheck h s).outbox.hold =
      if b || (!h.afterCut && s.outbox.answers.any (·.waitingShed)) then freshHold else HoldSlot.empty := by
  cases hcut : h.afterCut
  · have ask := requestHold_of_emptyOrFresh hs he (s.outbox.answers.any (·.waitingShed))
    simpa [shedCheck, hcut] using ask
  · simpa [shedCheck, hcut] using he

theorem shedCheck_answers (h : HoldAttempt) (s : State) :
    (shedCheck h s).outbox.answers =
      if h.afterCut then s.outbox.answers.map (fun b => { b with waitingShed := false }) else s.outbox.answers := by
  unfold shedCheck
  cases h.afterCut
  · simp only [Bool.false_eq_true, if_false]
    split <;> simp
  · rfl

/-- The completed HOLD calls for another (R58, R74, R85). -/
def calledFor (h : HoldAttempt) (s : State) : Bool :=
  (!h.afterCut && s.outbox.answers.any (·.waitingShed)) || s.alloc.claim.any (fun c => c.phase == .committing) || stale h s

theorem stale_congr (ha : t.alloc = s.alloc) (hf : t.pilot.faultIn = s.pilot.faultIn) (h : HoldAttempt) :
    stale h t = stale h s := by
  simp only [stale, openIncrease, ha, hf]

theorem holdChecks_hold (hs : s.mc.station = .active) {b : Bool}
    (he : s.outbox.hold = if b then freshHold else HoldSlot.empty) :
    (holdChecks h s).outbox.hold = if b || calledFor h s then freshHold else HoldSlot.empty := by
  have shed := shedCheck_hold (h := h) hs he
  have active : (shedCheck h s).mc.station = .active := by simpa using hs
  have owed : (owedCommit (shedCheck h s)).outbox.hold =
      if (b || (!h.afterCut && s.outbox.answers.any (·.waitingShed))) || s.alloc.claim.any
          (fun c => c.phase == .committing) then
        freshHold else HoldSlot.empty := by
    have ask := requestHold_of_emptyOrFresh active shed (s.alloc.claim.any (fun c => c.phase == .committing))
    have same : (shedCheck h s).alloc = s.alloc := by simp
    rw [owedCommit, same]
    exact ask
  have active' : (owedCommit (shedCheck h s)).mc.station = .active := by simpa using hs
  have ask := requestHold_of_emptyOrFresh active' owed (stale h s)
  rw [holdChecks, staleCheck, stale_congr (s := s) (by simp) (by simp) h, ask]
  simp only [calledFor, Bool.or_assoc]

theorem holdChecks_answers (h : HoldAttempt) (s : State) :
    (holdChecks h s).outbox.answers =
      if h.afterCut then s.outbox.answers.map (fun b => { b with waitingShed := false }) else s.outbox.answers := by
  simp [holdChecks, shedCheck_answers]

theorem openIncrease_eq (s : State) :
    openIncrease s = s.alloc.claim.bind (fun c => if c.kind = .increase then some c.number else none) := by
  unfold openIncrease
  cases s.alloc.claim <;> rfl

theorem calledFor_iff (h : HoldAttempt) (s : State) :
    calledFor h s = true ↔
      (h.held ≠ s.alloc.share.held ∨ h.floor ≠ s.alloc.share.floor ∨ h.localFault ≠ s.pilot.faultIn
        ∨ h.openClaim ≠ s.alloc.claim.bind (fun c => if c.kind = .increase then some c.number else none)
        ∨ (h.afterCut = false ∧ ∃ b ∈ s.outbox.answers, b.waitingShed = true)
        ∨ (∃ c ∈ s.alloc.claim, c.phase = .committing)) := by
  simp only [calledFor, stale, openIncrease_eq, Bool.or_eq_true, Bool.and_eq_true, Bool.not_eq_true',
      List.any_eq_true, bne_iff_ne,
    Option.any_eq_true, beq_iff_eq, Option.mem_def]
  rw [or_comm]
  simp only [or_assoc]

/-! ## The completion -/

/-- The own share record, the drive level and the slot as every HOLD completion leaves them (R85, 1 to 4). -/
def declared (h : HoldAttempt) (s : State) : State := holdDone h (endAttempt s)

theorem declared_spec (h : HoldAttempt) (s : State) :
    (declared h s).alloc = { s.alloc with share := { s.alloc.share with lastTx := h.held, holdSeq := s.alloc.share.holdSeq + 1, silence := 0 } }
      ∧ (declared h s).outbox = { s.outbox with hold := HoldSlot.empty } ∧ (declared h s).line.tx = .none
      ∧ (declared h s).mc = s.mc ∧ (declared h s).table = s.table ∧ (declared h s).events = s.events
      ∧ (declared h s).time = s.time ∧ (declared h s).pins = s.pins ∧ (declared h s).port = s.port
      ∧ (declared h s).pilot.faultIn = s.pilot.faultIn := ⟨rfl, rfl, rfl, rfl, rfl, rfl, rfl, rfl, rfl, rfl⟩

theorem declared_requested (hs : s.mc.station = .active) :
    (declared h s).pilot.requested = if s.pilot.faultIn = false then min s.alloc.share.held
        (min h.held s.alloc.share.demand) else 0 := by
  show (if s.mc.station = .active ∧ s.pilot.faultIn = false then min s.alloc.share.held (min h.held s.alloc.share.demand) else 0) = _
  simp [hs]

theorem attemptCompleted_declared (hsend : SendsFrom s .hold a) (hm : a.mismatch = false) (hd : a.taken = 8 * a.bytes.length)
    (hh : s.alloc.holdAttempt = some h) : attemptCompleted s = endUpdate none (holdFollows h (declared h s)) := by
  have attempt : (endAttempt s).alloc.holdAttempt = some h := hh
  rw [attemptCompleted_hold hsend hm hd, holdCompleted, attempt]
  rfl

theorem holdFollows_active (hs : s.mc.station = .active) :
    holdFollows h s =
      holdChecks h (match s.alloc.claim with
        | some c => if c.inFlight then commitIncrease c s else s
        | none => s) := by
  unfold holdFollows
  rw [hs]
  cases s.alloc.claim <;> rfl

/-- Settles O32. -/
theorem holdCompletionUpdatesTheShareRecord : Obligations.HoldCompletionUpdatesTheShareRecord := by
  intro a s hsend hm hd hs hidle hsame h hh
  obtain ⟨alloc, outbox, tx, mc, table, -, time, pins, port, faultIn⟩ := declared_spec h s
  have requested := declared_requested (h := h) hs
  have effect := attemptCompleted_declared hsend hm hd hh
  have station : (declared h s).mc.station = .active := by rw [mc]; exact hs
  have follows : holdFollows h (declared h s) = holdChecks h (declared h s) := by
    rw [holdFollows_active station, alloc]
    cases hc : s.alloc.claim with
    | none => rfl
    | some c => simp [hidle c hc]
  have hold := holdChecks_hold (h := h) (b := false) station (by rw [outbox]; rfl)
  have answers := holdChecks_answers h (declared h s)
  have called : (calledFor h (declared h s) = true) ↔ _ := calledFor_iff h (declared h s)
  rw [follows] at effect
  have same := sameSums_congr (t := holdChecks h (declared h s)) hsame (by simp [table]) (by simp [mc]) (by simp [alloc])
  have quiet : Quiet (holdChecks h (declared h s)) (settle none (holdChecks h (declared h s))) := by
    rw [settle_eq_summed none same]
    exact summed_quiet _
  refine ⟨_, congrArg Host.Outcome.next effect, by simp [alloc], by simp [alloc], by simp [alloc], ?_,
      by simp [alloc], ?_, fun hf => ?_,
    fun hf => ?_, ?_, ?_, ?_, by simp [table], by simp [mc], by simp [pins], by simp [time], by simp [port]⟩
  · rw [endUpdate, tryStart_share_held, quiet.alloc]
    simp [alloc]
  · rw [endUpdate, (tryStart_keeps _).2.2.2.2.2.2.2.2.2.2.2.2.1, quiet.alloc]
    simp [alloc]
  · rw [endUpdate]
    simp only [tryStart_keeps, quiet.pilot, holdChecks_keeps]
    rw [requested, if_pos hf]
  · rw [endUpdate]
    simp only [tryStart_keeps, quiet.pilot, holdChecks_keeps]
    rw [requested, if_neg (by simp [hf])]
  · simp only [endUpdate_keeps]
    rw [answers, outbox]
  · rw [endUpdate, tryStart_hold, quiet.outbox, hold, Bool.false_or]
    exact if_congr called rfl rfl
  · rw [endUpdate]
    simp only [tryStart_keeps, quiet.line, holdChecks_keeps]
    exact tx

end Sys2Proof.Machine
end

section
/-! PROOFS. The commit of an INCREASE claim (O33). -/
namespace Sys2Proof.Machine
variable {s t u : State} {k : Nat} {c : ClaimRecord} {a : Attempt} {h : HoldAttempt}

/-! ## The sum of held shares where own held rises -/

theorem sum_le_sum_add_at {f g : Nat → Nat} {m n : Nat} (hle : ∀ i, f i ≤ g i + if i = m then n else 0) (k : Nat) :
    ((List.range k).map f).sum ≤ ((List.range k).map g).sum + if m < k then n else 0 := by
  induction k with
  | zero => simp
  | succ k ih =>
    simp only [List.range_succ, List.map_append, List.sum_append, List.map_cons, List.map_nil, List.sum_cons, List.sum_nil]
    have step := hle k
    split at ih <;> split at step <;> split <;> omega

/-- Own held risen by no more than `n`, nothing else of the table changed. -/
theorem sumHeld_le_add {n : Nat} (he : t.table.entries = s.table.entries) (hm : t.mc = s.mc)
    (hheld : t.alloc.share.held ≤ s.alloc.share.held + n) : sumHeld t ≤ sumHeld s + n := by
  rw [sumHeld_eq, sumHeld_eq]
  refine (sum_le_sum_add_at (m := s.mc.identity.number) (n := n) (g := fun i => (view s i).share) (fun i => ?_) 24).trans ?_
  · unfold view
    rw [isPeer_congr (t := t) (s := s) (by rw [hm]) (by rw [hm]) i, entryAt_congr he i]
    split
    · exact Nat.le_add_right _ _
    · rename_i hp
      have own : i = s.mc.identity.number := by
        by_contra hne
        exact hp (isPeer_of_ne hne)
      rw [if_pos own]
      unfold Entry.share Entry.valid ownEntry
      rw [hm]
      split
      · exact hheld
      · exact Nat.zero_le _
  · split <;> omega

/-! ## The commit -/

/-- The own records at the commit, before a decrease (R59). -/
def committed (c : ClaimRecord) (s : State) : State :=
  removeClaim (clearFailures
    (raise .claimCommitted none (some c.number) (some (valueOf c.amount)) (setHeld (s.alloc.share.held + c.amount) s)))

theorem commitIncrease_eq (c : ClaimRecord) (s : State) : commitIncrease c s = decrease (committed c s) := rfl

theorem committed_spec (c : ClaimRecord) (s : State) :
    (committed c s).alloc = { s.alloc with
        share := { s.alloc.share with held := s.alloc.share.held + c.amount, failures := 0 }, claim := none }
      ∧ (committed c s).events = s.events.take .claimCommitted none (some c.number) (some (valueOf c.amount)) s.time.ms
      ∧ (committed c s).mc = s.mc ∧ (committed c s).table = s.table ∧ (committed c s).time = s.time
      ∧ (committed c s).line.tx = s.line.tx.cutFrom .claim ∧ (committed c s).pilot.faultIn = s.pilot.faultIn
      ∧ (committed c s).outbox.answerList = s.outbox.answerList
      ∧ (committed c s).pilot.requested = driveLevel (committed c s) := ⟨rfl, rfl, rfl, rfl, rfl, rfl, rfl, rfl, rfl⟩

theorem decrease_requested (h : s.pilot.requested = driveLevel s) :
    (decrease s).pilot.requested = driveLevel (decrease s) := by
  unfold decrease
  split
  · have same : driveLevel (lowerHeld (max s.alloc.share.demand s.alloc.share.floor) s)
        = driveLevel (setHeld (max s.alloc.share.demand s.alloc.share.floor) s) := by
      simp [lowerHeld, driveLevel]
    rw [same]
    simp [lowerHeld]
    rfl
  · exact h

theorem decrease_held (hs : s.mc.station = .active) :
    (decrease s).alloc.share.held =
      if s.alloc.share.demand < s.alloc.share.held ∧ s.alloc.share.floor < s.alloc.share.held then
        max s.alloc.share.demand s.alloc.share.floor else s.alloc.share.held := by
  unfold decrease
  simp only [hs, true_and]
  split <;> simp

theorem decrease_log (hs : s.mc.station = .active) :
    (decrease s).events.log =
      s.events.log.takeIf (decide (s.alloc.share.demand < s.alloc.share.held
          ∧ s.alloc.share.floor < s.alloc.share.held)) .shareChanged
        none none (some (valueOf (max s.alloc.share.demand s.alloc.share.floor))) s.time.ms := by
  unfold decrease
  simp only [hs, true_and]
  split
  · rename_i hlow
    rw [lowerHeld_log, decide_eq_true hlow]
    rfl
  · rename_i hlow
    rw [decide_eq_false hlow]
    rfl

/-- Settles O33. -/
theorem commitRaisesHeldByTheAmount : Obligations.CommitRaisesHeldByTheAmount := by
  intro a s hsend hm hd hs hclear c hc hk hin hfits h hh
  obtain ⟨alloc, outbox, tx, mc, table, events, time, pins, port, faultIn⟩ := declared_spec h s
  have effect := attemptCompleted_declared hsend hm hd hh
  have station : (declared h s).mc.station = .active := by rw [mc]; exact hs
  have follows : holdFollows h (declared h s) = holdChecks h (decrease (committed c (declared h s))) := by
    rw [holdFollows_active station, alloc]
    simp only [hc, hin, if_true, commitIncrease_eq]
  rw [follows] at effect
  generalize declared h s = u at *
  obtain ⟨allocC, eventsC, mcC, tableC, timeC, txC, faultC, listC, requestedC⟩ := committed_spec c u
  have stationC : (committed c u).mc.station = .active := by rw [mcC]; exact station
  have held := decrease_held stationC
  have log := decrease_log stationC
  have requested := decrease_requested requestedC
  have atMost := decrease_held_le (committed c u)
  generalize committed c u = v at *
  have mcW : (holdChecks h (decrease v)).mc = s.mc := by simp [mcC, mc]
  have tableW : (holdChecks h (decrease v)).table = s.table := by simp [tableC, table]
  have noClaim : (holdChecks h (decrease v)).alloc.claim = none := by simp [allocC]
  have counter : (holdChecks h (decrease v)).alloc.share.claimCounter = s.alloc.share.claimCounter := by simp [allocC, alloc]
  have clear : (holdChecks h (decrease v)).table.overcommit = false := by rw [tableW, hclear]
  have fits : sumHeld (holdChecks h (decrease v)) ≤ capacity (holdChecks h (decrease v)) := by
    have risen : (holdChecks h (decrease v)).alloc.share.held ≤ s.alloc.share.held + c.amount := by
      simpa [allocC, alloc] using atMost
    have sum := sumHeld_le_add (s := s) (by rw [tableW]) mcW risen
    rw [capacity_congr (s := s) (by rw [mcW])]
    exact sum.trans hfits
  have quiet := settle_quiet_of_unset none (.inr fits)
  refine ⟨_, congrArg Host.Outcome.next effect, ?_, by simp [allocC, alloc], by simp [allocC, alloc],
      by simp [allocC, alloc], ?_,
    fun hf => ?_, fun d hd => ?_, ?_, ?_, by simp [mcC, mc], by simp [tableC, table], by simp [listC, outbox]⟩
  · rw [endUpdate, tryStart_share_held, quiet.alloc, holdChecks_keeps h (decrease v) |>.2.2.2.1, held, allocC, alloc]
  · rw [endUpdate]
    simp only [tryStart_keeps, quiet.alloc, holdChecks_keeps, decrease_keeps, allocC]
  · have stationD : (decrease v).mc.station = .active := by simpa using stationC
    have faultD : (decrease v).pilot.faultIn = false := by simp [faultC, faultIn, hf]
    rw [endUpdate]
    simp only [tryStart_keeps, quiet.pilot, quiet.alloc, holdChecks_keeps]
    rw [requested, driveLevel, if_pos ⟨stationD, faultD⟩]
    simp only [decrease_keeps, allocC, alloc]
  · rcases tryStart_claim (settle none (holdChecks h (decrease v))) with same | ⟨-, started⟩
    · rw [endUpdate, same, quiet.alloc, noClaim] at hd
      cases hd
    · rw [endUpdate, started, quiet.alloc, counter] at hd
      obtain rfl := Option.some.inj hd
      exact ⟨rfl, rfl⟩
  · refine EventUnit.of_log ?_ (by simp) (by simp)
    have same : (holdChecks h (decrease v)).events = (decrease v).events := by simp
    rw [endUpdate_log_of_fits none clear fits, same, log, eventsC, events, timeC, time, allocC, alloc, EventUnit.takeIf_log]
  · rw [endUpdate]
    simp only [tryStart_keeps, quiet.line, holdChecks_keeps, decrease_keeps, txC, tx]
    rfl

end Sys2Proof.Machine
end

section
/-! PROOFS. The commit of a join, farewells, and attempts that outlive their slot (O34). -/
namespace Sys2Proof.Machine
variable {s t u v : State} {k : Nat} {c : ClaimRecord} {a : Attempt} {h : HoldAttempt}

/-! ## The change to ACTIVE -/

/-- Own held at the floor is not cut by an update. -/
theorem settle_held_at_floor (source : Option Nat) (hf : s.alloc.share.held = s.alloc.share.floor) :
    (settle source s).alloc.share.held = s.alloc.share.floor := by
  rcases settle_quiet_or_cut source s with quiet | ⟨v, before, after⟩
  · rw [quiet.alloc, hf]
  · have floor : (abandonIncrease .overcommit v).alloc.share.floor = s.alloc.share.floor := by simp [before.alloc]
    have held : (abandonIncrease .overcommit v).alloc.share.held = s.alloc.share.floor := by simp [before.alloc, hf]
    rw [after.alloc, cutToFloor_share_held, floor, held]
    split <;> rfl

/-- What holds of own held and the sum where the station comes to count in the table. -/
theorem sumHeld_le_add_entered (he : t.table.entries = s.table.entries) (ht : t.mc.station ≠ .monitor)
    (hid : t.mc.identity = s.mc.identity) : sumHeld t ≤ sumHeld s + t.alloc.share.held := by
  rw [sumHeld_eq, sumHeld_eq]
  refine (sum_le_sum_add_at (m := s.mc.identity.number) (n := t.alloc.share.held) (g := fun i => (view s i).share)
    (fun i => ?_) 24).trans ?_
  · unfold view
    by_cases hi : i = s.mc.identity.number
    · have own : isPeer t i = false := by simp [isPeer, ht, hid, hi]
      rw [if_pos hi, own]
      exact (ownEntry_share_le t).trans (Nat.le_add_left _ _)
    · rw [isPeer_of_ne (s := t) (by rw [hid]; exact hi), isPeer_of_ne hi, entryAt_congr he i]
      exact Nat.le_add_right _ _
  · split <;> omega

theorem resolveReached_active_log (hs : s.mc.station = .active) :
    (resolveReached s).events.log =
      s.events.log.takeIf (s.mc.request.taken && s.mc.request.first == some .active) .commandDone none none
          (some 0x9110) s.time.ms := by
  have done : (Resolution.command .stateRequest (some .active) .done).code = 0x9110 := by decide
  cases taken : s.mc.request.taken
  · rw [resolveReached_of_not_taken taken]
    rfl
  · cases first : s.mc.request.first with
    | none => simp [resolveReached, taken, first]
    | some target =>
      cases target
      · simp [resolveReached, taken, first, hs, resolveFirst, report, setRequest, done, Resolution.eventKind]
      · simp [resolveReached, taken, first, hs]
        rfl

theorem resolveReached_active_done (hs : s.mc.station = .active) (ht : s.mc.request.taken = true)
    (hf : s.mc.request.first = some .active) :
    (resolveReached s).mc.lastResolution = some (.command .stateRequest (some .active) .done) := by
  simp [resolveReached, ht, hf, hs, resolveFirst, report, setRequest]

theorem entered_active_alloc (s : State) : (entered .active s).alloc = s.alloc := by
  simp [entered, heldForState, abandonOutside, discardSlots, dropEarmarksLeaving, setStation]

/-- What the change from JOINING to ACTIVE reaches before the request is resolved. -/
theorem arrived_active (hs : s.mc.station = .joining) :
    (arrived .active s).events.log =
        s.events.log.take .stateChanged none none (some (BitVec.ofNat 16 (256 * 4 + 6))) s.time.ms
      ∧ (arrived .active s).table = s.table ∧ (arrived .active s).alloc = s.alloc ∧ (arrived .active s).time = s.time := by
  have turn := turned_log .active s
  rw [abandonOutside_of_kept (.inr (.inl rfl)), hs] at turn
  have left : dropEarmarksLeaving s.mc.station .active (discardSlots .active (turned .active s)) = turned .active s := by
    rw [dropEarmarksLeaving_of_inactive (by rw [hs]; decide)]
    rfl
  unfold arrived
  rw [left]
  refine ⟨?_, ?_, ?_, ?_⟩
  · have same : (clearRetry .active (keepFormer s (heldForState .active (turned .active s)))).events =
        (turned .active s).events := by
      simp [heldForState]
    rw [same]
    exact turn
  · simp [heldForState, turned, abandonOutside, setStation]
  · simp [heldForState, turned, abandonOutside, setStation]
  · simp [heldForState, turned, abandonOutside, setStation]

/-- The change from JOINING to ACTIVE with own held at the floor and no claim open (R34). -/
theorem changeState_active_spec (hfloor : s.alloc.share.held = s.alloc.share.floor) (hc : s.alloc.claim = none) :
    (changeState .active s).alloc.share.held = s.alloc.share.floor ∧ (changeState .active s).alloc.claim = none
      ∧ (changeState .active s).alloc.share.failures = s.alloc.share.failures := by
  have alloc := entered_active_alloc s
  have held := settle_held_at_floor none (s := entered .active s) (by rw [alloc]; exact hfloor)
  have failures := (settle_failures_of_no_claim none (s := entered .active s) (by rw [alloc]; exact hc)).1
  have claim := settle_claim_none none (entered .active s) (by rw [alloc]; exact hc)
  rw [alloc] at held failures
  rw [changeState_eq]
  exact ⟨held, claim, failures⟩

/-- Its events and its sum, where the floor fits. -/
theorem changeState_active_fits (hs : s.mc.station = .joining) (hclear : s.table.overcommit = false)
    (hfits : sumHeld s + s.alloc.share.held ≤ capacity s) :
    (changeState .active s).events.log =
        (s.events.log.take .stateChanged none none (some (BitVec.ofNat 16 (256 * 4 + 6))) s.time.ms).takeIf
          (s.mc.request.taken && s.mc.request.first == some .active) .commandDone none none (some 0x9110) s.time.ms
      ∧ (changeState .active s).table.overcommit = false
      ∧ sumHeld (changeState .active s) ≤ capacity (changeState .active s) := by
  obtain ⟨log, table, alloc, time⟩ := arrived_active hs
  have mc := arrived_mc .active s
  have clear : (entered .active s).table.overcommit = false := by rw [entered_resolves]; simpa [table] using hclear
  have sum : sumHeld (entered .active s) ≤ capacity (entered .active s) := by
    rw [entered_resolves, resolveReached_sumHeld, capacity_congr (t := resolveReached _) (s := s) (by simp)]
    have risen := sumHeld_le_add_entered (t := arrived .active s) (s := s) (by rw [table]) (by simp) (by simp)
    rw [alloc] at risen
    exact risen.trans hfits
  have cap : capacity (changeState .active s) = capacity (entered .active s) := capacity_congr (by simp [changeState_eq])
  have upToDate : (entered .active s).table.overcommit = true
      ↔ capacity (entered .active s) < sumHeld (entered .active s) := by
    rw [clear]
    exact ⟨fun h => (by cases h), fun h => absurd h (Nat.not_lt.2 sum)⟩
  have request : (arrived .active s).mc.request = s.mc.request := by rw [mc]
  refine ⟨?_, ?_, ?_⟩
  · rw [changeState_eq, settle_log_of_unset none (.inr sum), clear]
    show (entered .active s).events.log = _
    rw [entered_resolves, resolveReached_active_log (by simp), log, request, time]
  · rw [changeState_eq, settle_eq_summed none upToDate, summed_overcommit, clear]
  · rw [cap, changeState_eq, sumHeld_settle_of_unset none (.inr sum)]
    exact sum

/-! ## The commit of a join -/

/-- The own records at the commit of a join, before the change of state (R34). -/
def joinedShare (c : ClaimRecord) (s : State) : State :=
  removeClaim (raise .claimCommitted none (some c.number) (some (valueOf s.alloc.share.floor))
    (setShare { s.alloc.share with held := s.alloc.share.floor, failures := 0 } s))

theorem commitJoin_eq (c : ClaimRecord) (s : State) : commitJoin c s = changeState .active (joinedShare c s) := rfl

theorem joinedShare_spec (c : ClaimRecord) (s : State) :
    (joinedShare c s).alloc = { s.alloc with
        share := { s.alloc.share with held := s.alloc.share.floor, failures := 0 }, claim := none }
      ∧ (joinedShare c s).events =
        s.events.take .claimCommitted none (some c.number) (some (valueOf s.alloc.share.floor)) s.time.ms
      ∧ (joinedShare c s).mc = s.mc ∧ (joinedShare c s).table = s.table ∧ (joinedShare c s).time = s.time
      ∧ (joinedShare c s).line.tx = s.line.tx.cutFrom .claim := ⟨rfl, rfl, rfl, rfl, rfl, rfl⟩

theorem holdFollows_joining (hs : s.mc.station = .joining) (hc : s.alloc.claim = some c) (hin : c.inFlight = true) :
    holdFollows h s = holdChecks h (commitJoin c s) := by
  unfold holdFollows
  rw [hs, hc]
  exact if_pos hin

/-- A station that is not a member of the table holds nothing in it. -/
theorem sumHeld_joinedShare (hs : s.mc.station = .joining) (c : ClaimRecord) : sumHeld (joinedShare c s) = sumHeld s := by
  rw [sumHeld_eq, sumHeld_eq]
  refine congrArg List.sum (List.map_congr_left fun i _ => ?_)
  have own : (ownEntry (joinedShare c s)).share = (ownEntry s).share := by
    have station : (joinedShare c s).mc.station = .joining := hs
    simp [Entry.share, Entry.valid, ownEntry, hs, station]
  unfold view
  rw [isPeer_congr (t := joinedShare c s) (s := s) rfl rfl i, entryAt_congr (t := joinedShare c s) (s := s) rfl i]
  split
  · rfl
  · exact own

/-! ## Attempts that outlive their slot (log 34) -/

theorem announces_iff (a : Attempt) : a.announces = true ↔ a.bytes[2]?.map (fun kl => kl.toNat / 16) = some 3 := by
  unfold Attempt.announces kindOf
  cases a.bytes[2]? <;> simp

theorem slotCompleted_outlived (hout : inFlightAt s a.slot = false) :
    slotCompleted a s = match a.slot with
      | .hold => holdOutlived s
      | .claim => claimOutlived a s
      | .answer _ => s := by
  unfold slotCompleted
  cases hslot : a.slot <;> rw [hslot] at hout <;> exact if_neg (by rw [inFlightAt] at hout; simp [hout])

theorem endIfChanged_share {before : State} (hs : s.alloc.share ≠ before.alloc.share) :
    endIfChanged before s = endUpdate none s := by
  simp [endIfChanged, recordsChanged, hs]

theorem clearSilence_of_zero (h : s.alloc.share.silence = 0) : clearSilence s = s := by
  have same : ({ s.alloc.share with silence := 0 } : ShareRecord) = s.alloc.share := by rw [← h]
  rw [clearSilence, same]
  rfl

/-- A farewell's completion in FENCED leaves the state and the slot as they are (R42). -/
theorem holdFollows_fenced (hs : s.mc.station = .fenced) : holdFollows h s = s := by
  unfold holdFollows
  rw [hs]

theorem holdFollows_leaving (hs : s.mc.station = .leaving) : holdFollows h s = changeState .detached s := by
  unfold holdFollows
  rw [hs]

/-- Settles O34. -/
theorem joinCommitsAndFarewellsEnd : Obligations.JoinCommitsAndFarewellsEnd := by
  refine ⟨fun a s hsend hm hd hs c hc hk hin h hh => ?_, fun a s hsend hm hd hs h hh => ?_, fun a s htx hs hm hd hout => ?_⟩
  · obtain ⟨alloc, outbox, tx, mc, table, events, time, pins, port, faultIn⟩ := declared_spec h s
    have effect := attemptCompleted_declared hsend hm hd hh
    have station : (declared h s).mc.station = .joining := by rw [mc]; exact hs
    have claim : (declared h s).alloc.claim = some c := by rw [alloc]; exact hc
    rw [holdFollows_joining station claim hin, commitJoin_eq] at effect
    have sumJ := sumHeld_joinedShare station c
    obtain ⟨allocJ, eventsJ, mcJ, tableJ, timeJ, txJ⟩ := joinedShare_spec c (declared h s)
    have sumU : sumHeld (declared h s) = sumHeld s := sumHeld_congr rfl rfl rfl rfl
    generalize declared h s = u at *
    generalize joinedShare c u = v at *
    have noClaim : v.alloc.claim = none := by rw [allocJ]
    obtain ⟨held, claimA, failures⟩ := changeState_active_spec (s := v) (by rw [allocJ]) noClaim
    have mcA := changeState_mc .active v
    have txA := changeState_tx (s := v) cutClosed_none .active (by rw [txJ, tx]; rfl)
    have entriesA : (changeState .active v).table.entries = s.table.entries := by
      have same := changeState_entries .active v
      have left : dropEarmarksLeaving v.mc.station .active (discardSlots .active (turned .active v)) = turned .active v := by
        rw [dropEarmarksLeaving_of_inactive (by rw [mcJ, station]; decide)]
        rfl
      rw [same, left]
      simp [tableJ, table]
    have floorJ : v.alloc.share.floor = s.alloc.share.floor := by rw [allocJ, alloc]
    have lastTxJ : v.alloc.share.lastTx = h.held := by rw [allocJ, alloc]
    have seqJ : v.alloc.share.holdSeq = s.alloc.share.holdSeq + 1 := by rw [allocJ, alloc]
    have silenceJ : v.alloc.share.silence = 0 := by rw [allocJ, alloc]
    have failuresJ : v.alloc.share.failures = 0 := by rw [allocJ]
    have heldJ : v.alloc.share.held = s.alloc.share.floor := by rw [allocJ, alloc]
    have kept := changeState_keeps .active v
    have requestV : (arrived .active v).mc.request = s.mc.request := by rw [arrived_mc, mcJ, mc]
    have report (hclear : s.table.overcommit = false) (hfits : sumHeld s + s.alloc.share.floor ≤ capacity s) :=
      changeState_active_fits (s := v) (by rw [mcJ]; exact station) (by rw [tableJ, table]; exact hclear)
        (by rw [sumJ, sumU, heldJ, capacity_congr (t := v) (s := s) (by rw [mcJ, mc])]; exact hfits)
    have stationA : (changeState .active v).mc.station = .active := (changeState_reaches .active v).1
    have copyA : (changeState .active v).pilot.stateCopy = .active := (changeState_reaches .active v).2
    obtain ⟨-, -, -, -, -, -, lastTxA, floorA, -, -, seqA, -, silenceA, -⟩ := kept
    generalize changeState .active v = j at *
    have floorW : (holdChecks h j).alloc.share.floor = s.alloc.share.floor := by simp [floorA, floorJ]
    have heldW : (holdChecks h j).alloc.share.held = (holdChecks h j).alloc.share.floor := by simp [held, floorA]
    have claimW : (holdChecks h j).alloc.claim = none := by simp [claimA]
    have heldT := settle_held_at_floor none heldW
    have failuresT := (settle_failures_of_no_claim none claimW).1
    have claimT := settle_claim_none none (holdChecks h j) claimW
    refine ⟨_, congrArg Host.Outcome.next effect, by simp [stationA], ?_, by simp [lastTxA, lastTxJ], by simp [seqA, seqJ],
      by simp [silenceA, silenceJ], ?_, fun d hd => ?_, fun ht hf => ?_, fun hclear hfits => ?_, by simp [copyA], ?_,
          by simp [entriesA]⟩
    · rw [endUpdate, tryStart_share_held, heldT, floorW]
    · rw [endUpdate]
      simp only [tryStart_keeps]
      rw [failuresT]
      simp [failures, failuresJ]
    · rcases tryStart_claim (settle none (holdChecks h j)) with same | ⟨-, started⟩
      · rw [endUpdate, same, claimT] at hd
        cases hd
      · rw [endUpdate, started] at hd
        obtain rfl := Option.some.inj hd
        rfl
    · have done := resolveReached_active_done (s := arrived .active v) (by simp) (by rw [requestV]; exact ht)
          (by rw [requestV]; exact hf)
      rw [← mcA] at done
      simpa using done
    · obtain ⟨log, clear, fits⟩ := report hclear hfits
      have sumW : sumHeld (holdChecks h j) = sumHeld j := sumHeld_congr (by simp) (by simp) (by simp) (by simp)
      have capW : capacity (holdChecks h j) = capacity j := capacity_congr (by simp)
      have same : (holdChecks h j).events = j.events := by simp
      refine EventUnit.of_log ?_ (by simp) (by simp)
      rw [endUpdate_log_of_fits none (by simpa using clear) (by rw [sumW, capW]; exact fits), same, log, eventsJ,
          events, timeJ, time,
        mcJ, mc, alloc, EventUnit.takeIf_log, EventUnit.take_log, EventUnit.take_log, EventUnit.take_log]
    · exact endUpdate_tx cutClosed_none none (by simpa using txA)
  · obtain ⟨alloc, outbox, tx, mc, table, events, time, pins, port, faultIn⟩ := declared_spec h s
    have effect := attemptCompleted_declared hsend hm hd hh
    generalize declared h s = u at *
    rcases hs with hs | hs
    · rw [holdFollows_leaving (by rw [mc]; exact hs)] at effect
      obtain ⟨station, -, -, hold, -⟩ := emptied_update (new := .detached) (by decide) (by decide) (by decide)
          (by decide) none u
      exact ⟨_, congrArg Host.Outcome.next effect, by rw [station, if_pos hs], hold, by simp [alloc], by simp [alloc],
          by simp [alloc],
        endUpdate_tx cutClosed_none none (changeState_tx cutClosed_none .detached tx)⟩
    · have station : u.mc.station = .fenced := by rw [mc]; exact hs
      have inactive : u.mc.station ≠ .active := by rw [station]; decide
      rw [holdFollows_fenced station] at effect
      refine ⟨_, congrArg Host.Outcome.next effect, by simp [station, hs], ?_, by simp [alloc], by simp [alloc],
          by simp [alloc],
        endUpdate_tx cutClosed_none none tx⟩
      rw [endUpdate_of_inactive none inactive, (settle_pilot_of_inactive none inactive).2, outbox]
  · have report := attemptCompleted_of_done htx hs hm hd
    rw [slotCompleted_outlived (s := endAttempt s) hout] at report
    refine ⟨fun hslot h hh => congrArg Host.Outcome.next ?_, fun hslot hbytes => ⟨fun hzero => congrArg Host.Outcome.next ?_,
      fun hpos => congrArg Host.Outcome.next ?_⟩, fun ⟨hhold, hother⟩ => congrArg Host.Outcome.next ?_⟩
    · rw [hslot] at report
      have attempt : (endAttempt s).alloc.holdAttempt = some h := hh
      refine report.trans ?_
      rw [holdOutlived, attempt]
      rfl
    · rw [hslot] at report
      refine report.trans ?_
      rw [claimOutlived, if_pos ((announces_iff a).2 hbytes)]
      have zero : (endAttempt s).alloc.share.silence = 0 := hzero
      rw [clearSilence_of_zero zero]
      exact endIfChanged_same _ _ rfl rfl rfl
    · rw [hslot] at report
      refine report.trans ?_
      rw [claimOutlived, if_pos ((announces_iff a).2 hbytes), endIfChanged_share]
      · rfl
      · intro same
        have zero : 0 = s.alloc.share.silence := congrArg ShareRecord.silence same
        exact hpos zero.symm
    · refine report.trans ?_
      cases hslot : a.slot with
      | hold => exact absurd hslot hhold
      | claim => exact if_neg fun h => hother hslot ((announces_iff a).1 h)
      | answer k => rfl

end Sys2Proof.Machine
end

section
/-! PROOFS. What the attempt of each slot carries (O24), and the offer of the line (O23). -/
namespace Sys2Proof.Machine
variable {s t u : State} {k : Nat} {c : ClaimRecord} {a : Attempt}

/-! ## The transmitter at the end of an update -/

theorem settle_tx_or_cut (source : Option Nat) (s : State) :
    (settle source s).line.tx = s.line.tx ∨ (settle source s).line.tx = s.line.tx.cutFrom .claim := by
  rcases settle_quiet_or_cut source s with quiet | ⟨v, before, after⟩
  · exact .inl (by rw [quiet.line])
  · rw [after.line]
    have kept : (cutToFloor (abandonIncrease .overcommit v)).line = (abandonIncrease .overcommit v).line := by simp
    rw [kept, abandonIncrease]
    split
    · rw [abandonClaim]
      split
      · exact .inl (by rw [before.line])
      · refine .inr ?_
        rw [countIf_tx, removeClaim_tx]
        simp [before.line]
    · exact .inl (by rw [before.line])

/-- An attempt of the HOLD slot outlives an update. -/
theorem endIfChanged_tx_hold {before : State} (h : s.line.tx = .sending a) (hslot : a.slot = .hold) :
    (endIfChanged before s).line.tx = .sending a := by
  have cut : s.line.tx.cutFrom .claim = .sending a := by rw [h, cutFrom_of_slot_ne (by rw [hslot]; decide)]
  unfold endIfChanged
  split
  · have line : (endUpdate none s).line = (settle none s).line := by simp [endUpdate]
    rw [line]
    rcases settle_tx_or_cut none s with same | same
    · rw [same, h]
    · rw [same, cut]
  · exact h

/-! ## The start of a HOLD attempt -/

/-- The attempt as the transmitter starts it (R112). -/
def startedAttempt (slot : SlotId) (f : Frame) : Attempt :=
  { bytes := f.bytes, slot := slot, sent := 0, taken := 0, mismatch := false, stopped := false }

/-- The HOLD attempt started, before the end of an update. -/
def holdStarted (s : State) : State :=
  beginSending .hold (holdFrame s (holdNow s)) (markHoldInFlight (noteAttempt (holdNow s) s))

theorem startHold_eq (s : State) : startHold s = endIfChanged s (holdStarted s) := rfl

theorem holdStarted_tx (s : State) : (holdStarted s).line.tx = .sending
    (startedAttempt .hold (holdFrame s (holdNow s))) := rfl

theorem startHold_tx (s : State) : (startHold s).line.tx = .sending (startedAttempt .hold (holdFrame s (holdNow s))) := by
  rw [startHold_eq]
  exact endIfChanged_tx_hold (holdStarted_tx s) rfl

theorem commitDue_of_commitsIn (hc : s.alloc.claim = some c) (h : c.CommitsIn s.mc.station) : commitDue s = some c :=
  commitDue_eq_some.2 ⟨hc, h⟩

theorem saysFarewell_of_commitDue (h : commitDue s = some c) : saysFarewell s = false := by
  obtain ⟨-, -, -, hs⟩ := commitDue_eq_some.1 h
  rcases hs with ⟨hs, -⟩ | ⟨hs, -⟩ <;> simp [saysFarewell, hs]

/-- The commit HOLD (R58, R82). -/
theorem holdNow_of_commit (h : commitDue s = some c) :
    holdNow s = { ordinaryHold s with held := s.alloc.share.held + c.amount, openClaim := none, commit := some c.number } := by
  simp [holdNow, saysFarewell_of_commitDue h, h]

/-- The ordinary HOLD (R81). -/
theorem holdNow_of_ordinary (hf : saysFarewell s = false) (h : commitDue s = none) : holdNow s = ordinaryHold s := by
  simp [holdNow, hf, h]

/-- The farewell (R37). -/
theorem holdNow_of_farewell (hf : saysFarewell s = true) : holdNow s = { ordinaryHold s with held := 0, openClaim := none } := by
  simp [holdNow, hf]

theorem noteAttempt_claim_of_plain (h : (holdNow s).commit = none) : (noteAttempt (holdNow s) s).alloc.claim = s.alloc.claim := by
  simp [noteAttempt, h]

theorem noteAttempt_claim_of_commit (h : commitDue s = some c) :
    (noteAttempt (holdNow s) s).alloc.claim = some { c with inFlight := true } := by
  have claim := (commitDue_eq_some.1 h).1
  simp [noteAttempt, holdNow_of_commit h, claim]

theorem noteAttempt_of_commit (h : commitDue s = some c) :
    noteAttempt (holdNow s) s =
      { s with alloc := { s.alloc with holdAttempt := some (holdNow s), claim := some { c with inFlight := true } } } := by
  rw [← noteAttempt_claim_of_commit h]
  rfl

/-- A commit attempt whose claim is in flight already changes no claim record. -/
theorem noteAttempt_claim_of_same (h : ∀ c, commitDue s = some c → c.inFlight = true) :
    (noteAttempt (holdNow s) s).alloc.claim = s.alloc.claim := by
  cases hcommit : (holdNow s).commit with
  | none => exact noteAttempt_claim_of_plain hcommit
  | some n =>
    obtain ⟨c, hdue⟩ := holdNow_commit (s := s) (by rw [hcommit]; rfl)
    have inFlight : ({ c with inFlight := true } : ClaimRecord) = c := by rw [← h c hdue]
    rw [noteAttempt_claim_of_commit hdue, inFlight, (commitDue_eq_some.1 hdue).1]

theorem noteAttempt_alloc_of_same (h : ∀ c, commitDue s = some c → c.inFlight = true) :
    (noteAttempt (holdNow s) s).alloc = { s.alloc with holdAttempt := some (holdNow s) } :=
  calc (noteAttempt (holdNow s) s).alloc
      = { s.alloc with holdAttempt := some (holdNow s), claim := (noteAttempt (holdNow s) s).alloc.claim } := rfl
    _ = { s.alloc with holdAttempt := some (holdNow s) } := by rw [noteAttempt_claim_of_same h]

/-- A HOLD attempt that starts without committing a claim anew is no update of the table. -/
theorem startHold_of_same (h : ∀ c, commitDue s = some c → c.inFlight = true) : startHold s = holdStarted s := by
  rw [startHold_eq]
  exact endIfChanged_same _ _ rfl rfl (noteAttempt_claim_of_same h)

theorem startHold_of_commit (h : commitDue s = some c) (hin : c.inFlight = false) :
    startHold s = endUpdate none (holdStarted s) := by
  rw [startHold_eq]
  refine endIfChanged_claim _ _ ?_
  have claim : (holdStarted s).alloc.claim = some { c with inFlight := true } := noteAttempt_claim_of_commit h
  rw [claim, (commitDue_eq_some.1 h).1]
  intro same
  have raised : true = c.inFlight := congrArg ClaimRecord.inFlight (Option.some.inj same)
  rw [hin] at raised
  cases raised

/-! ## What each attempt carries -/

/-- The body of an answer's frame (R68, R191). -/
def answerBody (x : Nat) (n : Byte) : Answer → FrameBody
  | .assent => .assent x n
  | .object reason => .object x n reason

/-- An answer's attempt carries the slot's key and content. -/
theorem startAnswer_eq {key : Nat × Byte} {content : Answer} (hk : (answerAt s k).key = some key)
    (hc : (answerAt s k).content = some content) :
    startAnswer k s =
      beginSending (.answer k) { source := s.mc.identity.number, body := answerBody key.1 key.2 content }
          (markAnswerInFlight k s) := by
  cases content <;> simp only [startAnswer, answerFrame, hk, hc, answerBody]

/-- The body of the CLAIM slot's frame (R32, R54). -/
def claimBody (c : ClaimRecord) (s : State) : FrameBody :=
  match c.kind with
  | .increase => .claim c.number c.amount s.alloc.share.priority
  | .floor => .announce c.number s.alloc.share.floor s.alloc.share.priority s.mc.identity.capacityClass s.mc.identity.leaseSelect

theorem startClaim_eq (hc : s.alloc.claim = some c) :
    startClaim s = beginSending .claim { source := s.mc.identity.number, body := claimBody c s } (markClaimInFlight s) := by
  rw [startClaim, claimFrame, hc]
  rfl

/-- Settles O24. -/
theorem attemptCarriesTheOwnersStateAtItsStart : Obligations.AttemptCarriesTheOwnersStateAtItsStart := by
  refine ⟨fun s ⟨hs, hclaim⟩ => ?_, fun c s hc hcommits => ?_, fun s hs => ?_, fun c s hc => ?_, fun k s key hk content hc => ?_⟩
  · have farewell : saysFarewell s = false := by simp [saysFarewell, hs]
    have due : commitDue s = none := by
      rw [Option.eq_none_iff_forall_ne_some]
      intro c h
      obtain ⟨hc, hp, -⟩ := commitDue_eq_some.1 h
      exact hclaim c hc hp
    have now := holdNow_of_ordinary farewell due
    rw [startHold_of_same fun c h => by rw [due] at h; cases h]
    refine ⟨?_, ?_⟩
    · rw [holdStarted_tx, now, holdFrame, farewell, ordinaryHold, openIncrease_eq]
      rfl
    · show (noteAttempt (holdNow s) s).alloc = _
      rw [now, noteAttempt, ordinaryHold, openIncrease_eq]
      rfl
  · have due := commitDue_of_commitsIn hc hcommits
    have now := holdNow_of_commit due
    have frame : (startHold s).line.tx = .sending (startedAttempt .hold (holdFrame s (holdNow s))) := startHold_tx s
    refine ⟨?_, fun hin => ?_⟩
    · rw [frame, now, holdFrame, saysFarewell_of_commitDue due]
      rfl
    · have claim := noteAttempt_claim_of_commit due
      rw [frame, startHold_of_commit due hin]
      refine congrArg (endUpdate none) ?_
      rw [holdStarted, noteAttempt, now, hc]
      rfl
  · have farewell : saysFarewell s = true := by rcases hs with hs | hs <;> simp [saysFarewell, hs]
    rw [startHold_tx, holdNow_of_farewell farewell, holdFrame, farewell]
    rfl
  · rw [startClaim_eq hc]
    rfl
  · rw [startAnswer_eq hk hc]
    cases content <;> rfl

end Sys2Proof.Machine
end

section
/-! PROOFS. The offer of the line (O23). -/
namespace Sys2Proof.Machine
variable {s t u : State} {k : Nat} {c : ClaimRecord} {a : Attempt}

/-- The line is at a boundary at which it is available to the station (R111). -/
structure Offered (s : State) : Prop where
  station : s.mc.station ≠ .reset
  idle : s.line.tx = .none
  inhibit : s.pins.txInhibit = false
  gap : 40 + 4 * s.mc.identity.number ≤ s.line.idle
  boundary : s.line.bits.taken = true ∨ s.line.bits.pos = 0

theorem offered_iff (s : State) : lineAvailable s = true ∧ s.line.bits.atBoundary = true ↔ Offered s := by
  simp only [lineAvailable, accessGap, BitClock.atBoundary, Bool.and_eq_true, Bool.or_eq_true, Bool.not_eq_true',
      bne_iff_ne, beq_iff_eq]
  constructor
  · rintro ⟨⟨⟨⟨station, idle⟩, inhibit⟩, gap⟩, boundary⟩
    exact ⟨station, idle, inhibit, of_decide_eq_true gap, boundary⟩
  · rintro ⟨station, idle, inhibit, gap, boundary⟩
    exact ⟨⟨⟨⟨station, idle⟩, inhibit⟩, decide_eq_true gap⟩, boundary⟩

theorem lineOffer_of_not (h : ¬Offered s) : lineOffer s = s := if_neg fun both => h ((offered_iff s).1 both)

theorem lineOffer_of_slot {slot : SlotId} (h : Offered s) (hs : chooseSlot s = some slot) :
    lineOffer s = startAttempt slot (toBoundary s) := by
  rw [lineOffer, if_pos ((offered_iff s).2 h), hs]

theorem lineOffer_of_none (hs : chooseSlot s = none) : lineOffer s = s := by
  unfold lineOffer
  split
  · rw [hs]
  · rfl

/-! ## The choice -/

theorem not_eligible_answer {b : AnswerSlot}
    (h : b.occupancy ≠ .filled ∨ b.waitingShed = true ∨ b.expired = true ∨ b.inFlight = true) : b.eligible = false := by
  rcases h with h | h | h | h <;> simp [AnswerSlot.eligible, h]

theorem not_eligible_hold {b : HoldSlot} (h : b.occupancy ≠ .filled ∨ b.resting = true ∨ b.inFlight = true) :
    b.eligible = false := by
  rcases h with h | h | h <;> simp [HoldSlot.eligible, h]

theorem not_eligible_claim {b : ClaimSlot} (h : b.occupancy ≠ .filled ∨ b.inFlight = true) : b.eligible = false := by
  rcases h with h | h <;> simp [ClaimSlot.eligible, h]

theorem find_eligible_none (h : ∀ k ∈ s.outbox.answerList,
    (answerAt s k).occupancy ≠ .filled ∨ (answerAt s k).waitingShed = true
    ∨ (answerAt s k).expired = true ∨ (answerAt s k).inFlight = true) :
    s.outbox.answerList.find? (fun k => (answerAt s k).eligible) = none :=
  List.find?_eq_none.2 fun k hk => by rw [not_eligible_answer (h k hk)]; exact Bool.false_ne_true

theorem chooseSlot_of_answer (h : s.outbox.answerList.find? (fun k => (answerAt s k).eligible) = some k) :
    chooseSlot s = some (.answer k) := by
  rw [chooseSlot, h]

theorem chooseSlot_of_none (h : s.outbox.answerList.find? (fun k => (answerAt s k).eligible) = none) :
    chooseSlot s = if s.outbox.hold.eligible then some .hold else if s.outbox.claim.eligible then some .claim else none := by
  rw [chooseSlot, h]

/-! ## The boundary and the start -/

/-- The bit time in progress at the boundary at hand (log 3). -/
def boundaryBits (b : BitClock) : BitClock := if b.taken then b.start else b

theorem toBoundary_eq (h : s.line.tx = .none) :
    toBoundary s = { s with line := { s.line with bits := boundaryBits s.line.bits } } := by
  unfold toBoundary LineInterface.untaken boundaryBits
  split
  · rw [LineInterface.nextBit, h]
    simp [setLine, Transmitter.advance, ← h]
  · rfl

theorem startedIn_of_line {slot : SlotId} {f : Frame} (htx : t.line.tx = .sending (startedAttempt slot f))
    (hidle : t.line.idle = 0)
    (hrx : t.line.rx = s.line.rx) (hinbox : t.line.inbox = s.line.inbox) (hbits : t.line.bits = boundaryBits s.line.bits) :
    t.line.tx.slot? = some slot ∧ StartedIn s t := by
  refine ⟨by rw [htx]; rfl, ⟨_, htx, rfl, rfl, rfl, rfl⟩, hidle, hrx, hinbox, fun h => ?_, fun h => ?_⟩
  · rw [hbits, boundaryBits, if_pos h]
    exact BitClock.start_begun _
  · rw [hbits, boundaryBits, if_neg (by simp [h])]

theorem holdNow_toBoundary (s : State) : holdNow (toBoundary s) = holdNow s := rfl

theorem startHold_toBoundary_tx (s : State) : (startHold (toBoundary s)).line.tx = (startHold s).line.tx := by
  rw [startHold_tx, startHold_tx]
  rfl

theorem startHold_attempt (s : State) : (startHold s).alloc.holdAttempt = some (holdNow s) := by
  rw [startHold_eq, (endIfChanged_keeps s (holdStarted s)).2.2.2.2.2.2.2.2.2.2.1]
  rfl

/-- Settles O23. -/
theorem offerChoosesAnswerThenHoldThenClaim : Obligations.OfferChoosesAnswerThenHoldThenClaim := by
  refine ⟨fun s hnot => congrArg Host.Outcome.next (lineOffer_of_not ?_), fun s hhold hclaim hanswers =>
    congrArg Host.Outcome.next (lineOffer_of_none ?_), fun s hs htx hin hgap hb hshape k hfind => ?_,
    fun s hs htx hin hgap hb hanswers hf hi hr => ?_, fun c s hc hs htx hin hgap hb hanswers hhold hf hi => ?_⟩
  · rintro ⟨hs, htx, hin, hgap, hb⟩
    rcases hnot with h | h | h | h | ⟨ht, hp⟩
    · exact hs h
    · exact h htx
    · rw [hin] at h
      cases h
    · omega
    · rcases hb with hb | hb
      · rw [ht] at hb
        cases hb
      · exact hp hb
  · rw [chooseSlot_of_none (find_eligible_none hanswers), not_eligible_hold hhold, not_eligible_claim hclaim]
    rfl
  · have offered : Offered s := ⟨hs, htx, hin, hgap, hb⟩
    obtain ⟨-, hlen, hlaw, -, -, hrange, -, -, -⟩ := hshape
    have hk : k < 4 := hrange k (List.mem_of_find?_eq_some hfind)
    have eligible : (answerAt s k).eligible = true := by
      have found := List.find?_some hfind
      exact found
    have filled : (answerAt s k).occupancy = .filled := by
      simp only [AnswerSlot.eligible, Bool.and_eq_true, beq_iff_eq] at eligible
      obtain ⟨⟨⟨filled, -⟩, -⟩, -⟩ := eligible
      exact filled
    have law : (answerAt s k).Law := hlaw _ (slotAt_mem (hlen ▸ hk))
    obtain ⟨hkey, hcontent, -, -⟩ := (AnswerSlot.law_filled filled).1 law
    obtain ⟨key, hkey⟩ := Option.isSome_iff_exists.1 hkey
    obtain ⟨content, hcontent⟩ := Option.isSome_iff_exists.1 hcontent
    have effect : lineOffer s = startAnswer k (toBoundary s) := lineOffer_of_slot offered (chooseSlot_of_answer hfind)
    rw [toBoundary_eq htx, startAnswer_eq (s := { s with line :=
        { s.line with bits := boundaryBits s.line.bits } }) hkey hcontent] at effect
    have started := startedIn_of_line (slot := .answer k) (s := s) (t := beginSending (.answer k)
      { source := s.mc.identity.number, body := answerBody key.1 key.2 content }
      (markAnswerInFlight k { s with line := { s.line with bits := boundaryBits s.line.bits } })) rfl rfl rfl rfl rfl
    refine ⟨_, congrArg Host.Outcome.next effect, started.1, started.2, ?_, ?_, fun j _ hj => ?_, rfl, rfl, rfl⟩
    · rw [startAnswer_eq hkey hcontent]
      rfl
    · exact (slotAt_modify _ _ _ _).trans (if_pos ⟨rfl, by rw [hlen]; exact hk⟩)
    · exact (slotAt_modify _ _ _ _).trans (if_neg fun both => hj both.1)
  · have offered : Offered s := ⟨hs, htx, hin, hgap, hb⟩
    have eligible : s.outbox.hold.eligible = true := by simp [HoldSlot.eligible, hf, hi, hr]
    have chosen : chooseSlot s = some .hold := by rw [chooseSlot_of_none (find_eligible_none hanswers), if_pos eligible]
    have effect : lineOffer s = startHold (toBoundary s) := lineOffer_of_slot offered chosen
    refine ⟨fun hidle => ?_, fun c hc hcommits hidle => congrArg Host.Outcome.next ?_⟩
    · have inFlight : ∀ c, commitDue s = some c → c.inFlight = true := fun c h => by
        obtain ⟨hc, hcommits⟩ := commitDue_eq_some.1 h
        exact hidle c hc hcommits
      have same := startHold_of_same (s := toBoundary s) inFlight
      have claim := noteAttempt_alloc_of_same inFlight
      rw [same, toBoundary_eq htx] at effect
      have started := startedIn_of_line (slot := .hold) (s := s)
        (t := holdStarted { s with line := { s.line with bits := boundaryBits s.line.bits } }) rfl rfl rfl rfl rfl
      refine ⟨_, congrArg Host.Outcome.next effect, started.1, started.2, ?_, rfl, ?_, rfl⟩
      · rw [startHold_tx]
        rfl
      · rw [startHold_attempt]
        exact claim
    · rw [effect, startHold_of_commit (s := toBoundary s) (c := c) (commitDue_of_commitsIn hc hcommits) hidle,
          toBoundary_eq htx,
        startHold_tx, startHold_attempt]
      have noted := noteAttempt_of_commit (s := { s with line := { s.line with bits := boundaryBits s.line.bits } })
        (commitDue_of_commitsIn hc hcommits)
      rw [holdStarted, noted]
      rfl
  · have offered : Offered s := ⟨hs, htx, hin, hgap, hb⟩
    have eligible : s.outbox.claim.eligible = true := by simp [ClaimSlot.eligible, hf, hi]
    have chosen : chooseSlot s = some .claim := by
      rw [chooseSlot_of_none (find_eligible_none hanswers), not_eligible_hold hhold, if_neg Bool.false_ne_true,
          if_pos eligible]
    have effect : lineOffer s = startClaim (toBoundary s) := lineOffer_of_slot offered chosen
    rw [toBoundary_eq htx, startClaim_eq (s := { s with line :=
        { s.line with bits := boundaryBits s.line.bits } }) hc] at effect
    have started := startedIn_of_line (slot := .claim) (s := s) (t := beginSending .claim
      { source := s.mc.identity.number, body := claimBody c s }
      (markClaimInFlight { s with line := { s.line with bits := boundaryBits s.line.bits } })) rfl rfl rfl rfl rfl
    refine ⟨_, congrArg Host.Outcome.next effect, started.1, started.2, ?_, rfl, rfl⟩
    rw [startClaim_eq hc]
    rfl

end Sys2Proof.Machine
end

section
/-! PROOFS. The bits of the line: the receiver, the edges and the ends of what is driven (O28, O29). -/

namespace Sys2Proof.Machine

variable {s t : State}

/-! ## A bit taken -/

theorem lineBitTaken_of_reset (h : s.mc.station = .reset) (recessive : Bool) : lineBitTaken recessive s = s := if_pos h

theorem lineBitTaken_eq (h : s.mc.station ≠ .reset) (recessive : Bool) :
    lineBitTaken recessive s = setLine (s.line.untaken.takeBit recessive) s := if_neg h

theorem LineInterface.untaken_of_fresh {l : LineInterface} (h : l.bits.taken = false) : l.untaken = l := if_neg (by simp [h])

theorem LineInterface.untaken_of_taken {l : LineInterface} (h : l.bits.taken = true) :
    l.untaken = { l with bits := l.bits.start, tx := l.tx.advance } := if_pos h

theorem lineBitTaken_of_fresh (h : s.mc.station ≠ .reset) (hb : s.line.bits.taken = false) (recessive : Bool) :
    lineBitTaken recessive s = setLine (s.line.takeBit recessive) s := by
  rw [lineBitTaken_eq h, LineInterface.untaken_of_fresh hb]

/-- A bit taken late is that of the next bit time, whose boundary is reached first (log 3). -/
theorem lineBitTaken_of_taken (h : s.mc.station ≠ .reset) (hb : s.line.bits.taken = true) (recessive : Bool) :
    lineBitTaken recessive s
      = lineBitTaken recessive { s with line := { s.line with bits := s.line.bits.start, tx := s.line.tx.advance } } := by
  rw [lineBitTaken_eq h, LineInterface.untaken_of_taken hb,
    lineBitTaken_of_fresh (s := { s with line := { s.line with bits := s.line.bits.start, tx := s.line.tx.advance } }) h
      (BitClock.start_begun _).2.1]
  rfl

/-! ## The sync match -/

theorem Receiver.synced_iff (r : Receiver) : r.synced = true ↔ r.mode = .hunt ∧ r.window = 0x55B4 := by
  simp [Receiver.synced, syncPattern]

theorem Receiver.afterSync_of_not {r : Receiver} (h : ¬(r.mode = .hunt ∧ r.window = 0x55B4)) (tx : Transmitter) :
    r.afterSync tx = r := if_neg fun hs => h (r.synced_iff.1 hs)

theorem Receiver.afterSync_of_synced {r : Receiver} (h : r.mode = .hunt ∧ r.window = 0x55B4) (tx : Transmitter) :
    r.afterSync tx = r.enterHeader tx := if_pos (r.synced_iff.2 h)

theorem syncPatternMatch_of_synced (h : s.mc.station ≠ .reset) (hs : s.line.rx.mode = .hunt ∧ s.line.rx.window = 0x55B4) :
    syncPatternMatch s = setLine { s.line with rx := s.line.rx.enterHeader s.line.tx, idle := 0 } s :=
  if_pos ⟨h, s.line.rx.synced_iff.2 hs⟩

theorem syncPatternMatch_of_not
    (h : s.mc.station = .reset ∨ s.line.rx.mode ≠ .hunt ∨ s.line.rx.window ≠ 0x55B4) : syncPatternMatch s = s :=
  if_neg fun ⟨hst, hs⟩ => by
    obtain ⟨hm, hw⟩ := s.line.rx.synced_iff.1 hs
    rcases h with h | h | h
    · exact hst h
    · exact h hm
    · exact h hw

/-- The frame began with the station's own attempt if that attempt has read back its sixteen bits (R108). -/
theorem Receiver.enterHeader_ownStart (r : Receiver) (tx : Transmitter) :
    (r.enterHeader tx).ownStart = true ↔ ∃ a ∈ tx.attempt?, a.taken = 16 ∧ a.mismatch = false := by
  cases tx with
  | none => simp [Receiver.enterHeader, Transmitter.attempt?]
  | marking a start => simp [Receiver.enterHeader, Transmitter.attempt?]
  | sending a =>
    cases hstop : a.stopped <;> simp [Receiver.enterHeader, Transmitter.attempt?, Transmitter.intact, hstop]

theorem Transmitter.intact_iff (tx : Transmitter) : tx.intact = true ↔ ∃ a ∈ tx.attempt?, a.mismatch = false := by
  cases tx with
  | none => simp [Transmitter.intact, Transmitter.attempt?]
  | marking a start => simp [Transmitter.intact, Transmitter.attempt?]
  | sending a => cases hstop : a.stopped <;> simp [Transmitter.attempt?, Transmitter.intact, hstop]

/-! ## The receiver's bit, mode by mode -/

theorem Receiver.takeBit_hunt {r : Receiver} (h : r.mode = .hunt) (recessive : Bool) (tx : Transmitter) :
    r.takeBit recessive tx = { r with window := (r.window <<< 1) ||| (if recessive then 1 else 0) } := by
  simp only [Receiver.takeBit, h]

theorem Receiver.takeBit_skip {r : Receiver} (h : r.mode = .skip) (recessive : Bool) (tx : Transmitter) :
    r.takeBit recessive tx = { r with skipLeft := r.skipLeft - 1 } := by
  simp only [Receiver.takeBit, h]

/-- What HEADER and BODY do with a bit (R102, R106, R108). -/
theorem Receiver.takeBit_frame {r : Receiver} (h : r.mode = .header ∨ r.mode = .body) (recessive : Bool) (tx : Transmitter) :
    r.takeBit recessive tx =
      { r with
        bits := r.bits ++ [recessive]
        ownMark := r.ownMark || tx.marks
        cls := if r.bits.length + 1 = 16 then some (if r.ownStart && tx.intact then .own else .foreign) else r.cls } := by
  rcases h with h | h <;> simp only [Receiver.takeBit, h]

theorem idleAfter_of_not_hunt {mode : RxMode} (h : mode ≠ .hunt) (idle : Nat) (recessive : Bool) (tx : Transmitter) :
    idleAfter idle recessive mode tx = 0 := if_neg fun ⟨_, hunt, _⟩ => h hunt

/-! ## The comparison -/

theorem Transmitter.compare_sending (a : Attempt) (recessive : Bool) :
    (Transmitter.sending a).compare recessive =
      if a.live then
        if a.bitAt a.sent = recessive then .sending { a with taken := a.taken + 1 } else .sending { a with mismatch := true }
      else .sending a := rfl

theorem Transmitter.compare_of_not_live {tx : Transmitter} (h : ∀ a, tx = .sending a → a.live = false) (recessive : Bool) :
    tx.compare recessive = tx := by
  cases tx with
  | none => rfl
  | marking a start => rfl
  | sending a => rw [Transmitter.compare_sending, if_neg (by simp [h a rfl])]

theorem Transmitter.marks_compare (tx : Transmitter) (recessive : Bool) :
    (tx.compare recessive).marks = true ↔ ∃ a start, tx = .marking a start ∧ start ≤ a.sent
        ∧ a.sent ≤ 8 * a.bytes.length := by
  cases tx with
  | none => simp [Transmitter.compare, Transmitter.marks]
  | marking a start =>
    show (decide (start ≤ a.sent) && decide (a.sent ≤ a.total)) = true ↔ _
    simp only [Bool.and_eq_true, decide_eq_true_eq, Transmitter.marking.injEq]
    exact ⟨fun h => ⟨a, start, ⟨rfl, rfl⟩, h⟩, fun ⟨b, n, ⟨hb, hn⟩, h⟩ => hb ▸ hn ▸ h⟩
  | sending a =>
    rw [Transmitter.compare_sending]
    split
    · split <;> simp [Transmitter.marks]
    · simp [Transmitter.marks]

/-! ## The pins -/

theorem lineDe_eq_false (s : State) : lineDe s = false ↔ s.line.tx.over = true := by simp [lineDe]

theorem lineDe_eq_true (s : State) : lineDe s = true ↔ s.line.tx.over = false := by simp [lineDe]

theorem lineDe_lineTx_sending {a : Attempt} (h : s.line.tx = .sending a) :
    (a.over = true → lineDe s = false ∧ lineTx s = true)
      ∧ (a.over = false → lineDe s = true ∧ lineTx s = (a.bytes[a.sent / 8]?.getD 0xFF).getLsbD (a.sent % 8)) := by
  refine ⟨fun ho => ?_, fun ho => ?_⟩
  · simp [lineDe, lineTx, h, Transmitter.over, Transmitter.level, ho]
  · simp [lineDe, lineTx, h, Transmitter.over, Transmitter.level, ho, Attempt.bitAt]

theorem lineDe_lineTx_marking {a : Attempt} {start : Nat} (h : s.line.tx = .marking a start) :
    (8 * a.bytes.length < a.sent → lineDe s = false ∧ lineTx s = true)
      ∧ (a.sent ≤ 8 * a.bytes.length → lineDe s = true
        ∧ lineTx s = (if a.sent < start then (a.bytes[a.sent / 8]?.getD 0xFF).getLsbD (a.sent % 8) else false)) := by
  refine ⟨fun ho => ?_, fun ho => ?_⟩
  · simp [lineDe, lineTx, h, Transmitter.over, Transmitter.level, ho, Attempt.total]
  · simp [lineDe, lineTx, h, Transmitter.over, Transmitter.level, Nat.not_lt.2 ho, Attempt.total, Attempt.bitAt]

/-- Settles O28. -/
theorem bitsReachReceiverAndTransmitter : Obligations.BitsReachReceiverAndTransmitter := by
  refine ⟨fun recessive s hst hb => ?_, fun recessive s hst hb hm hw => ?_, fun recessive s hst hb hm hw => ?_,
    fun recessive s hst hb hm => ?_, fun recessive s hst hb hm => ?_, fun recessive s hst hb => ?_,
    fun recessive s hst => congrArg Host.Outcome.next (lineBitTaken_of_reset hst recessive),
    fun s => ⟨fun htx => ?_, fun a htx => lineDe_lineTx_sending htx, fun a start htx => lineDe_lineTx_marking htx⟩⟩
  · exact ⟨{ s.line with bits := s.line.bits.start, tx := s.line.tx.advance }, BitClock.start_begun _,
      Transmitter.advance_sentOn _, rfl, congrArg Host.Outcome.next (lineBitTaken_of_taken hst hb recessive)⟩
  · have unsynced : s.line.rx.afterSync s.line.tx = s.line.rx := Receiver.afterSync_of_not (fun h => hw h.2) _
    refine ⟨_, congrArg Host.Outcome.next (lineBitTaken_of_fresh hst hb recessive), ?_, ?_⟩
    · show (s.line.rx.afterSync s.line.tx).takeBit _ _ = _
      rw [unsynced, Receiver.takeBit_hunt hm]
    · show idleAfter s.line.idle recessive (s.line.rx.afterSync s.line.tx).mode s.line.tx = _
      rw [unsynced, hm]
      simp only [idleAfter, lineDe_eq_false, true_and, Config.idleTop]
  · refine ⟨_, congrArg Host.Outcome.next (syncPatternMatch_of_synced hst ⟨hm, hw⟩), rfl, congrArg Host.Outcome.next ?_⟩
    rw [lineBitTaken_of_fresh hst hb, lineBitTaken_of_fresh
        (s := setLine { s.line with rx := s.line.rx.enterHeader s.line.tx, idle := 0 } s) hst hb]
    have synced : s.line.rx.afterSync s.line.tx = s.line.rx.enterHeader s.line.tx := Receiver.afterSync_of_synced ⟨hm, hw⟩ _
    have again : (s.line.rx.enterHeader s.line.tx).afterSync s.line.tx = s.line.rx.enterHeader s.line.tx :=
      Receiver.afterSync_of_not (fun h => RxMode.noConfusion h.1) _
    have mode : (s.line.rx.enterHeader s.line.tx).mode ≠ .hunt := RxMode.noConfusion
    simp only [setLine, LineInterface.takeBit, synced, again, idleAfter_of_not_hunt mode]
  · have unsynced : s.line.rx.afterSync s.line.tx = s.line.rx :=
      Receiver.afterSync_of_not (fun h => by rcases hm with hm | hm <;> simp [h.1] at hm) _
    have taken : ((s.line.takeBit recessive).rx) = _ := (congrArg (Receiver.takeBit · _ _) unsynced).trans
      (Receiver.takeBit_frame hm recessive (s.line.tx.compare recessive))
    have idle : (s.line.takeBit recessive).idle = 0 :=
      idleAfter_of_not_hunt (by rw [unsynced]; rcases hm with hm | hm <;> simp [hm]) _ _ _
    refine ⟨_, congrArg Host.Outcome.next (lineBitTaken_of_fresh hst hb recessive), ?_⟩
    simp only [setLine, taken, idle]
    refine ⟨trivial, trivial, trivial, trivial, ?_, fun hlen => if_neg (by omega), fun hlen => ?_⟩
    · rw [Bool.or_eq_true, Transmitter.marks_compare]
    · rw [if_pos (by omega)]
      have intact : (s.line.takeBit recessive).tx = s.line.tx.compare recessive := rfl
      rw [intact, ← Transmitter.intact_iff]
      cases s.line.rx.ownStart <;> cases (s.line.tx.compare recessive).intact <;> simp
  · have unsynced : s.line.rx.afterSync s.line.tx = s.line.rx := Receiver.afterSync_of_not (fun h => by simp [h.1] at hm) _
    refine ⟨_, congrArg Host.Outcome.next (lineBitTaken_of_fresh hst hb recessive), ?_, ?_⟩
    · exact (congrArg (Receiver.takeBit · _ _) unsynced).trans (Receiver.takeBit_skip hm _ _)
    · exact idleAfter_of_not_hunt (by rw [unsynced, hm]; exact RxMode.noConfusion) _ _ _
  · refine ⟨_, congrArg Host.Outcome.next (lineBitTaken_of_fresh hst hb recessive), rfl, fun a htx hlive hbit => ?_,
      fun a htx hlive hbit => ?_, fun hnot => Transmitter.compare_of_not_live hnot recessive, rfl, rfl⟩
    · show s.line.tx.compare recessive = _
      rw [htx, Transmitter.compare_sending, if_pos hlive]
      exact if_pos hbit
    · show s.line.tx.compare recessive = _
      rw [htx, Transmitter.compare_sending, if_pos hlive]
      exact if_neg hbit
  · simp [lineDe, lineTx, htx, Transmitter.over, Transmitter.level]

/-! ## Edges -/

theorem lineRxEdge_of_station (h : s.mc.station ≠ .reset) : lineRxEdge s = setLine s.line.edge s := if_neg h

theorem lineRxEdge_of_reset (h : s.mc.station = .reset) (htx : s.line.tx ≠ .none) :
    lineRxEdge s = setLine s.line.edge.release s := (if_pos h).trans (if_neg htx)

theorem lineRxEdge_of_reset_none (h : s.mc.station = .reset) (htx : s.line.tx = .none) : lineRxEdge s = s :=
  (if_pos h).trans (if_pos htx)

theorem BitClock.half_iff (b : BitClock) : b.half = true ↔ b.taken = true ∨ 8 ≤ b.pos := by simp [BitClock.half]

theorem LineInterface.edge_bits (l : LineInterface) : l.edge.bits = l.bits.start := by
  unfold LineInterface.edge
  split <;> rfl

theorem LineInterface.edge_tx_of_half {l : LineInterface} (h : l.bits.taken = true ∨ 8 ≤ l.bits.pos) :
    l.edge.tx = l.tx.advance := by
  rw [LineInterface.edge, if_pos (l.bits.half_iff.2 h)]
  rfl

theorem LineInterface.edge_tx_of_first {l : LineInterface} (h : l.bits.taken = false ∧ l.bits.pos < 8) :
    l.edge.tx = l.tx := by
  rw [LineInterface.edge, if_neg]
  rw [BitClock.half_iff]
  rintro (ht | hp)
  · simp [h.1] at ht
  · omega

theorem LineInterface.edge_rest (l : LineInterface) : { l.edge with bits := l.bits, tx := l.tx } = l := by
  unfold LineInterface.edge
  split <;> rfl

theorem LineInterface.release_eq (l : LineInterface) : l.release = { l with tx := if l.tx.over then .none else l.tx } := by
  unfold LineInterface.release
  split <;> rfl

/-! ## The ends of SKIP and of a mark -/

theorem skipEnd_of_end (h : s.line.rx.mode = .skip) (hn : s.line.rx.skipLeft = 0) : skipEnd s = toHunt s := if_pos ⟨h, hn⟩

theorem skipEnd_of_not (h : s.line.rx.mode ≠ .skip ∨ s.line.rx.skipLeft ≠ 0) : skipEnd s = s :=
  if_neg fun ⟨hm, hn⟩ => h.elim (· hm) (· hn)

theorem cutMarkEnd_of_marking {a : Attempt} {start : Nat} (h : s.line.tx = .marking a start) :
    cutMarkEnd s = if 8 * a.bytes.length < a.sent
        ∨ (a.sent = 8 * a.bytes.length ∧ (s.line.bits.taken = true ∨ 8 ≤ s.line.bits.pos)) then endAttempt s else s := by
  have ends : s.line.tx.inEndSpace = true ↔ 8 * a.bytes.length ≤ a.sent := by
    rw [h]
    exact decide_eq_true_iff
  have ended : s.line.tx.over = true ↔ 8 * a.bytes.length < a.sent := by
    rw [h]
    exact decide_eq_true_iff
  refine if_congr ?_ rfl rfl
  rw [ends, ended, BitClock.half_iff]
  constructor
  · rintro ⟨hge, hgt | hhalf⟩
    · exact .inl hgt
    · exact hge.lt_or_eq.imp id fun heq => ⟨heq.symm, hhalf⟩
  · rintro (hgt | ⟨heq, hhalf⟩)
    · exact ⟨hgt.le, .inl hgt⟩
    · exact ⟨heq.ge, .inr hhalf⟩

theorem cutMarkEnd_of_not (h : ∀ a start, s.line.tx ≠ .marking a start) : cutMarkEnd s = s := by
  refine if_neg fun ⟨hend, _⟩ => ?_
  cases htx : s.line.tx with
  | none => simp [htx, Transmitter.inEndSpace] at hend
  | sending a => simp [htx, Transmitter.inEndSpace] at hend
  | marking a start => exact h a start htx

theorem endAttempt_bits_of_over (h : lineDe s = false) : (endAttempt s).line.bits = s.line.bits :=
  if_pos ((lineDe_eq_false s).1 h)

theorem endAttempt_bits_of_driving (h : lineDe s = true) : (endAttempt s).line.bits = s.line.bits.start :=
  if_neg (by simp [(lineDe_eq_true s).1 h])

/-- The window of the start bytes as their bits are sent (R102). -/
theorem syncWindow :
    (lineBits [0xAA, 0x2D]).foldl (fun (w : Half) b => (w <<< 1) ||| (if b then 1 else 0)) 0 = 0x55B4 := by decide

/-- Settles O29. -/
theorem syncEdgesSkipAndMarks : Obligations.SyncEdgesSkipAndMarks := by
  refine ⟨fun s hst hm hw => ?_, fun s h => congrArg Host.Outcome.next (syncPatternMatch_of_not h), fun s hst => ?_,
    fun s hst htx => congrArg Host.Outcome.next (lineRxEdge_of_reset_none hst htx), fun s hst htx => ?_, fun s hm hn => ?_,
    fun s h => congrArg Host.Outcome.next (skipEnd_of_not h), fun a start s htx => ⟨fun h => ?_, fun h => ?_⟩,
    fun s h => congrArg Host.Outcome.next (cutMarkEnd_of_not h), fun s => ?_⟩
  · rw [syncWindow] at hw
    exact ⟨_, congrArg Host.Outcome.next (syncPatternMatch_of_synced hst ⟨hm, hw⟩), rfl, rfl, rfl, rfl, rfl,
      Receiver.enterHeader_ownStart _ _, rfl, rfl⟩
  · refine ⟨_, congrArg Host.Outcome.next (lineRxEdge_of_station hst), ?_, fun h => ?_,
        fun h => LineInterface.edge_tx_of_first h,
      rfl, LineInterface.edge_rest _⟩
    · exact (LineInterface.edge_bits s.line).symm ▸ BitClock.start_begun _
    · exact (LineInterface.edge_tx_of_half h).symm ▸ Transmitter.advance_sentOn _
  · refine ⟨_, congrArg Host.Outcome.next (lineRxEdge_of_reset hst htx), ?_, rfl, ?_, s.line.edge.tx, fun h => ?_,
      fun h => LineInterface.edge_tx_of_first h, ?_⟩
    · simp only [setLine, LineInterface.release_eq, LineInterface.edge_bits]
      exact BitClock.start_begun _
    · simp only [setLine, LineInterface.release_eq]
      exact LineInterface.edge_rest _
    · exact (LineInterface.edge_tx_of_half h).symm ▸ Transmitter.advance_sentOn _
    · simp only [setLine, LineInterface.release_eq]
  · exact ⟨_, congrArg Host.Outcome.next (skipEnd_of_end hm hn), rfl, rfl, rfl, rfl, rfl, rfl⟩
  · exact congrArg Host.Outcome.next ((cutMarkEnd_of_marking htx).trans (if_pos h))
  · refine congrArg Host.Outcome.next ((cutMarkEnd_of_marking htx).trans (if_neg ?_))
    rintro (hgt | ⟨heq, ht | hp⟩)
    · omega
    · rcases h with h | ⟨-, h, -⟩
      · omega
      · simp [h] at ht
    · omega
  · exact ⟨rfl, endAttempt_bits_of_over, fun h => (endAttempt_bits_of_driving h).symm ▸ BitClock.start_begun _, rfl, rfl⟩

end Sys2Proof.Machine
end

section
/-! PROOFS. The header and the verdict (O30, O31). -/

namespace Sys2Proof.Machine

variable {s t : State}

/-! ## The header -/

theorem frameHeader_of_bad {c : BadClass} (hm : s.line.rx.mode = .header) (h : judgeHeader s.line.rx.bits = .bad c) :
    frameHeader s = raiseFrameBad s.line.rx.ownMark none c (enterSkip s) := by
  rw [frameHeader, if_pos hm, h]

theorem frameHeader_of_complete {kind x : Nat} {n : Byte} (hm : s.line.rx.mode = .header)
    (h : judgeHeader s.line.rx.bits = .complete kind x n) :
    frameHeader s =
      if s.mc.station = .active ∧ s.line.rx.cls = some .foreign ∧ (kind = 2 ∨ kind = 3) ∧ x ≠ s.mc.identity.number then
        reserveAnswer kind x n (enterBody s)
      else enterBody s := by
  rw [frameHeader, if_pos hm, h]

theorem frameHeader_reserves {kind x : Nat} {n : Byte} (hm : s.line.rx.mode = .header)
    (h : judgeHeader s.line.rx.bits = .complete kind x n) (hs : s.mc.station = .active) (hc : s.line.rx.cls = some .foreign)
    (hk : kind = 2 ∨ kind = 3) (hx : x ≠ s.mc.identity.number) : frameHeader s = reserveAnswer kind x n (enterBody s) := by
  rw [frameHeader_of_complete hm h, if_pos ⟨hs, hc, hk, hx⟩]

theorem frameHeader_of_not (h : s.line.rx.mode ≠ .header ∨ judgeHeader s.line.rx.bits = .incomplete) :
    frameHeader s = s := by
  rcases h with hm | hj
  · exact if_neg hm
  · rw [frameHeader, hj]
    exact ite_self s

theorem raiseFrameBad_spec (ownMark : Bool) (station : Option Nat) (c : BadClass) (s : State) :
    raiseFrameBad ownMark station c s =
      { s with events := if ownMark then s.events
          else s.events.take .frameBad station none (some (BitVec.ofNat 16 c.code)) s.time.ms } := by
  cases ownMark <;> rfl

/-! ## The reservation -/

theorem reserveAnswer_of_key {x : Nat} {n : Byte} {k : Nat} (kind : Nat) (h : slotFor s x n = some k) :
    reserveAnswer kind x n s = noteReservation k s := by
  rw [reserveAnswer, h]

theorem reserveAnswer_of_empty {x : Nat} {n : Byte} {k : Nat} (kind : Nat) (hkey : slotFor s x n = none)
    (h : s.outbox.answers.findIdx? (fun a => a.occupancy == .empty) = some k) :
    reserveAnswer kind x n s = noteReservation k
      (setOutbox { s.outbox with answers := s.outbox.answers.set k (AnswerSlot.reservedFor x n) } s) := by
  rw [reserveAnswer, hkey, h]

theorem reserveAnswer_of_full {x : Nat} {n : Byte} (kind : Nat) (hkey : slotFor s x n = none)
    (h : s.outbox.answers.findIdx? (fun a => a.occupancy == .empty) = none) :
    reserveAnswer kind x n s = raise .answerDropped (some x) (some n) (some (BitVec.ofNat 16 kind)) s := by
  rw [reserveAnswer, hkey, h]

theorem slotFor_none {x : Nat} {n : Byte} (h : ∀ a ∈ s.outbox.answers, a.key ≠ some (x, n)) : slotFor s x n = none :=
  List.findIdx?_eq_none_iff.2 fun a ha => by simpa using h a ha

/-- Settles O30. -/
theorem headerIsJudgedAndReserves : Obligations.HeaderIsJudgedAndReserves := by
  refine ⟨fun s c hm hj => ?_, fun s kind x n hm hj hnot => congrArg Host.Outcome.next ?_,
    fun s kind x n hm hj hs hc hk hx k hfind => congrArg Host.Outcome.next ?_,
    fun s kind x n hm hj hs hc hk hx habsent k hfind => congrArg Host.Outcome.next ?_,
    fun s kind x n hm hj hs hc hk hx hfull => congrArg Host.Outcome.next ?_,
    fun s h => congrArg Host.Outcome.next (frameHeader_of_not h)⟩
  · refine ⟨_, congrArg Host.Outcome.next (frameHeader_of_bad hm hj), ?_⟩
    rw [raiseFrameBad_spec]
    exact ⟨rfl, rfl, rfl, rfl, rfl, rfl⟩
  · rw [frameHeader_of_complete hm hj, if_neg]
    · rfl
    · rintro ⟨hs, hc, hk, hx⟩
      rcases hnot with h | h | h | h
      · exact h hs
      · exact h hc
      · exact hk.elim h.1 h.2
      · exact hx h
  · rw [frameHeader_reserves hm hj hs hc hk hx, reserveAnswer_of_key (s := enterBody s) kind hfind]
    rfl
  · have unkeyed : slotFor (enterBody s) x n = none := slotFor_none (s := enterBody s) habsent
    rw [frameHeader_reserves hm hj hs hc hk hx, reserveAnswer_of_empty kind unkeyed hfind]
    rfl
  · have unkeyed : slotFor (enterBody s) x n = none := slotFor_none (s := enterBody s) fun a ha => (hfull a ha).1
    have full : (enterBody s).outbox.answers.findIdx? (fun a => a.occupancy == .empty) = none :=
      List.findIdx?_eq_none_iff.2 fun a ha => by simpa using (hfull a ha).2
    rw [frameHeader_reserves hm hj hs hc hk hx, reserveAnswer_of_full kind unkeyed full]
    rfl

/-! ## The verdict -/

theorem frameVerdict_of_in (hm : s.line.rx.mode = .body) (hin : s.line.rx.frameIn = true) :
    frameVerdict s = judgeFrame s.line.rx (toHunt s) := if_pos ⟨hm, hin⟩

theorem frameVerdict_of_not (h : s.line.rx.mode ≠ .body ∨ s.line.rx.frameIn = false) : frameVerdict s = s := by
  refine if_neg ?_
  rintro ⟨hm, hin⟩
  exact h.elim (· hm) fun hout => by simp [hout] at hin

theorem judgeFrame_bad {rx : Receiver} {c : BadClass} (h : verdictOf rx.bits = .bad c) (s : State) :
    judgeFrame rx s = raiseFrameBad rx.ownMark (some (byteOfBits ((rx.bits.drop 8).take 8)).toNat) c
      (releaseReservation rx.reservation s) := by
  rw [judgeFrame, h]

theorem judgeFrame_good {rx : Receiver} {f : Frame} (h : f ∈ (verdictOf rx.bits).frame?) (s : State) :
    judgeFrame rx s = goodFrame f rx.cls rx.reservation s := by
  unfold judgeFrame
  cases hv : verdictOf rx.bits with
  | bad c => simp [hv, Verdict.frame?] at h
  | good g => simp_all [Verdict.frame?]

theorem noCheckFails_congr (h : NoCheckFails s) (he : t.table.entries = s.table.entries) (hs : t.mc.station = s.mc.station)
    (hi : t.mc.identity = s.mc.identity) : NoCheckFails t := by
  intro i hlt hp
  rw [entryAt_congr he]
  exact h i hlt ((isPeer_congr (t := t) (s := s) hs hi i).symm.trans hp)

/-- What the release of a reservation (R68) leaves and what it empties. -/
theorem releaseReservation_spec (r : Option Nat) (s : State) :
    (releaseReservation r s).line.rx = s.line.rx ∧ (releaseReservation r s).line.idle = s.line.idle
      ∧ (releaseReservation r s).line.inbox = s.line.inbox
      ∧ (releaseReservation r s).outbox.hold = s.outbox.hold ∧ (releaseReservation r s).outbox.claim = s.outbox.claim
      ∧ { releaseReservation r s with line := s.line, outbox := s.outbox } = s := by
  unfold releaseReservation
  split
  · split
    · simp [emptyAnswer, cutAttempt, setOutbox]
    · exact ⟨rfl, rfl, rfl, rfl, rfl, rfl⟩
  · exact ⟨rfl, rfl, rfl, rfl, rfl, rfl⟩

theorem answerAt_releaseReservation {k : Nat} (hk : k < s.outbox.answers.length) (r : Option Nat) :
    answerAt (releaseReservation r s) k
      = if r = some k ∧ (answerAt s k).occupancy = .reserved then AnswerSlot.empty else answerAt s k := by
  cases r with
  | none => rfl
  | some j =>
    by_cases hj : j = k
    · subst hj
      by_cases hres : (answerAt s j).occupancy = .reserved
      · rw [releaseReservation, if_pos hres, if_pos ⟨rfl, hres⟩, answerAt_eq, (emptyAnswer_answers j s).1, slotAt_set,
            if_pos ⟨rfl, hk⟩]
      · rw [releaseReservation, if_neg hres, if_neg fun h => hres h.2]
    · rw [if_neg fun h => hj (Option.some.inj h.1), releaseReservation]
      split
      · rw [answerAt_eq, (emptyAnswer_answers j s).1, slotAt_set, if_neg fun h => hj h.1.symm]
        rfl
      · rfl

/-! ## A duplicate (R43) -/

/-- The station with a duplicate reported and marked. -/
def duplicated (kind : Nat) (s : State) : State :=
  markDuplicate (raise .duplicate (some s.mc.identity.number) none (some (BitVec.ofNat 16 kind)) s)

theorem takeDuplicate_of_marked (kind : Nat) (hs : s.mc.station = .fault) (hd : s.mc.duplicate = true) :
    takeDuplicate kind s = s :=
  if_pos ⟨hs, hd⟩

theorem takeDuplicate_of_fault (kind : Nat) (hs : s.mc.station = .fault) (hd : s.mc.duplicate ≠ true) :
    takeDuplicate kind s = duplicated kind s := by
  rw [takeDuplicate, if_neg fun h => hd h.2]
  exact if_pos (by simp [hs])

theorem takeDuplicate_of_station (kind : Nat) (hs : s.mc.station ≠ .fault) :
    takeDuplicate kind s = changeState .fault (duplicated kind s) := by
  rw [takeDuplicate, if_neg fun h => hs h.1]
  exact if_neg (by simp [hs])

theorem duplicated_spec (kind : Nat) (s : State) :
    (duplicated kind s).mc = { s.mc with duplicate := true } ∧ (duplicated kind s).line = s.line
      ∧ (duplicated kind s).table = s.table ∧ (duplicated kind s).alloc = s.alloc ∧ (duplicated kind s).time = s.time
      ∧ (duplicated kind s).events.log =
        (s.events.take .duplicate (some s.mc.identity.number) none (some (BitVec.ofNat 16 kind)) s.time.ms).log
      ∧ (duplicated kind s).events.active.duplicate = true := by
  refine ⟨rfl, rfl, rfl, rfl, rfl, ?_, rfl⟩
  rfl

/-- No frame on its way keeps a reservation in a station that leaves ACTIVE, or enters another state (R68). -/
theorem discardSlots_line {new : StationState} (ha : new ≠ .active) (s : State) :
    (discardSlots new s).line.rx = { s.line.rx with reservation := none }
      ∧ (discardSlots new s).line.inbox = s.line.inbox.map (fun d => { d with reservation := none }) := by
  have discarded : (discardAnswers s).line.rx = { s.line.rx with reservation := none }
      ∧ (discardAnswers s).line.inbox = s.line.inbox.map (fun d => { d with reservation := none }) := by
    simp [discardAnswers, dropReservations, foldl_keeps (fun s => s.line.rx), foldl_keeps (fun s => s.line.inbox)]
  cases new
  case active => exact absurd rfl ha
  all_goals simpa [discardSlots] using discarded

theorem changeState_line {new : StationState} (ha : new ≠ .active) (s : State) :
    (changeState new s).line.rx = { s.line.rx with reservation := none }
      ∧ (changeState new s).line.inbox = s.line.inbox.map (fun d => { d with reservation := none }) := by
  obtain ⟨rx, inbox⟩ := discardSlots_line ha (turned new s)
  rw [changeState_eq]
  simp only [settle_keeps, entered_line, rx, inbox]
  simp [turned]

/-- The DUPLICATE condition is active. -/
def DuplicateActive (s : State) : Prop := s.events.active.duplicate = true

/-- No elementary update ends the DUPLICATE condition (R168). -/
theorem stableCore_duplicate : StableCore DuplicateActive where
  raise _ _ _ _ h := by simpa [DuplicateActive] using h
  table _ _ _ h := h
  alloc _ _ _ _ h := h
  held _ _ h := h
  drive h := h
  outbox _ h := h
  line _ _ h := h
  pins _ h := h
  port _ _ h := h
  time _ _ _ h := h
  pilot _ _ _ _ _ _ h := h
  faultTaken h := h
  mc _ _ _ _ _ _ h := h
  events _ _ _ ha _ h := by rw [DuplicateActive, ha]; exact h
  acknowledge h := h
  finishPop h := by
    unfold EventUnit.finishPop
    (repeat' split) <;> exact h
  suspectPresent _ h := h
  overcommit _ h := h
  duplicate _ := rfl
  request _ h := h
  period levels between _ h := by
    unfold startPeriod handFaultIn
    split
    · exact h
    · simpa [DuplicateActive, AlertSet.put] using h

theorem changeState_duplicate (new : StationState) (h : DuplicateActive s) :
    DuplicateActive (changeState new s) := by
  have core := stableCore_duplicate
  have outside : DuplicateActive (abandonOutside new s) := abandonOutside_stable core new h
  have turned : DuplicateActive (turned new s) := by
    simpa [DuplicateActive, turned, setStation, setCondition, AlertSet.put] using outside
  refine settle_stable core _ (resolveReached_stable core ?_)
  have former := keepFormer_stable core s (heldForState_stable core new (dropEarmarksLeaving_stable core s.mc.station new
    (discardSlots_stable core new turned)))
  unfold clearRetry
  split <;> exact former

/-- The report of a station that enters FAULT with no claim open, no request taken and the sums in order (R30, R43). -/
theorem changeState_fault_log (full : FullTable s) (fine : NoCheckFails s) (hclear : s.table.overcommit = false)
    (hfits : sumHeld s ≤ capacity s) (hc : s.alloc.claim = none) (htaken : s.mc.request.taken = false) :
    (changeState .fault s).events.log =
      s.events.log.take .stateChanged none none (some (BitVec.ofNat 16 (256 * s.mc.station.code + 10))) s.time.ms := by
  have monitor : StationState.fault ≠ .monitor := by decide
  have active : StationState.fault = .active → sumHeld s + s.alloc.share.held ≤ capacity s := fun h => by cases h
  have code : StationState.fault.code = 10 := rfl
  obtain ⟨log, -, -⟩ := arrived_report monitor full fine hclear hfits active
  rw [changeState_report monitor full fine hclear hfits active, resolveReached_of_not_taken (by simpa using htaken), log,
    abandonOutside_of_no_claim _ hc, code]

/-! ## A GOOD frame -/

theorem goodFrame_own (f : Frame) (r : Option Nat) (s : State) : goodFrame f (some .own) r s = s := rfl

theorem goodFrame_other {f : Frame} {cls : Option FrameClass} (hcls : cls ≠ some .own) (hx : f.source ≠ s.mc.identity.number)
    (r : Option Nat) : goodFrame f cls r s = deliver f r s := by
  rw [goodFrame, if_neg hcls, if_neg hx]

theorem goodFrame_duplicate {f : Frame} {cls : Option FrameClass} (hcls : cls ≠ some .own)
    (hx : f.source = s.mc.identity.number)
    (r : Option Nat) :
    goodFrame f cls r s =
      if s.mc.station = .monitor then
        deliver f r (raise .duplicate (some f.source) none (some (BitVec.ofNat 16 f.body.kindCode)) s)
      else takeDuplicate f.body.kindCode s := by
  rw [goodFrame, if_neg hcls, if_pos hx]

/-- Settles O31. -/
theorem verdictDeliversReportsOrFaults : Obligations.VerdictDeliversReportsOrFaults := by
  refine ⟨fun s c hm hin hbad hlen => ?_, fun s f hf hm hin => ?_,
    fun s h => congrArg Host.Outcome.next (frameVerdict_of_not h)⟩
  · have effect : frameVerdict s = raiseFrameBad s.line.rx.ownMark
        (some (byteOfBits ((s.line.rx.bits.drop 8).take 8)).toNat) c
        (releaseReservation s.line.rx.reservation (toHunt s)) := by rw [frameVerdict_of_in hm hin, judgeFrame_bad hbad]
    obtain ⟨rx, idle, inbox, hold, claim, rest⟩ := releaseReservation_spec s.line.rx.reservation (toHunt s)
    have answers := fun k hk => answerAt_releaseReservation (s := toHunt s) (k := k) hk s.line.rx.reservation
    rw [raiseFrameBad_spec] at effect
    generalize releaseReservation s.line.rx.reservation (toHunt s) = u at effect rx idle inbox hold claim rest answers
    have events : u.events = s.events := congrArg (fun v => v.events) rest
    have time : u.time = s.time := congrArg (fun v => v.time) rest
    refine ⟨_, congrArg Host.Outcome.next effect, rx, idle, inbox, ?_, fun k hk => ?_, ?_, hold, claim⟩
    · rw [events, time]
    · exact answers k (by rw [show (toHunt s).outbox = s.outbox from rfl, hlen]; exact hk)
    · calc
        { u with line := s.line, events := s.events, outbox := s.outbox }
            = { { u with line := (toHunt s).line, outbox := (toHunt s).outbox } with line := s.line, events :=
                s.events } := rfl
        _ = s := by rw [rest]; rfl
  · have effect : frameVerdict s = goodFrame f s.line.rx.cls s.line.rx.reservation (toHunt s) := by
      rw [frameVerdict_of_in hm hin, judgeFrame_good hf]
    refine ⟨fun hcls => congrArg Host.Outcome.next ?_, fun hcls hx => congrArg Host.Outcome.next ?_,
      fun hcls hx hs => congrArg Host.Outcome.next ?_, fun hcls hx hs hnot => ?_,
      fun hcls hx hs hd => congrArg Host.Outcome.next ?_⟩
    · rw [effect, hcls, goodFrame_own]
      rfl
    · rw [effect, goodFrame_other (s := toHunt s) hcls hx]
      rfl
    · rw [effect, goodFrame_duplicate (s := toHunt s) hcls hx, if_pos (c := (toHunt s).mc.station = .monitor) hs]
      rfl
    · rw [goodFrame_duplicate (s := toHunt s) hcls hx, if_neg (c := (toHunt s).mc.station = .monitor) hs] at effect
      obtain ⟨mc, line, table, alloc, time, log, active⟩ := duplicated_spec f.body.kindCode (toHunt s)
      by_cases hfault : s.mc.station = .fault
      · rw [takeDuplicate_of_fault (s := toHunt s) f.body.kindCode hfault fun hd => hnot ⟨hfault, hd⟩] at effect
        refine ⟨_, congrArg Host.Outcome.next effect, ?_⟩
        rw [line, mc]
        refine ⟨hfault, rfl, active, ?_, rfl, rfl, fun _ _ _ _ _ => ?_⟩
        · simp only [if_pos hfault, List.map_id']
          rfl
        · rw [EventUnit.queue_of_log log, hfault]
          rfl
      · rw [takeDuplicate_of_station (s := toHunt s) f.body.kindCode hfault] at effect
        refine ⟨_, congrArg Host.Outcome.next effect, ?_⟩
        generalize duplicated f.body.kindCode (toHunt s) = u at mc line table alloc time log active
        obtain ⟨rx, inbox⟩ := changeState_line (new := .fault) (by decide) u
        refine ⟨(changeState_reaches .fault u).1, ?_, changeState_duplicate .fault active, ?_, ?_, ?_,
            fun hset hl hclear hc htaken => ?_⟩
        · rw [(changeState_keeps .fault u).2.2.2.2.1, mc]
        · rw [inbox, line]
          simp only [if_neg hfault]
          rfl
        · rw [rx, line]
          rfl
        · have idle : (changeState .fault u).line.idle = u.line.idle := by simp
          rw [idle, line]
          rfl
        · have fits : sumHeld s ≤ capacity s := hset.fits hclear
          obtain ⟨fine, -, -⟩ := hset
          have station : u.mc.station = s.mc.station := by rw [mc]; rfl
          have identity : u.mc.identity = s.mc.identity := by rw [mc]; rfl
          have entries : u.table.entries = s.table.entries := by rw [table]; rfl
          have held : u.alloc.share.held = s.alloc.share.held := by rw [alloc]; rfl
          have fine' : NoCheckFails u := noCheckFails_congr fine entries station identity
          have sum : sumHeld u ≤ capacity u := by
            rw [sumHeld_congr entries station identity held, capacity_congr identity]
            exact fits
          have full : FullTable u := by rw [FullTable, entries]; exact hl
          have clear : u.table.overcommit = false := by rw [table]; exact hclear
          have unclaimed : u.alloc.claim = none := by rw [alloc]; exact hc
          have untaken : u.mc.request.taken = false := by rw [mc]; exact htaken
          have report := changeState_fault_log full fine' clear sum unclaimed untaken
          rw [log, ← EventUnit.take_log] at report
          rw [EventUnit.queue_of_log report, station, time]
          have entered : (s.mc.station != .fault) = true := by simpa using hfault
          rw [entered, EventUnit.takeIf_true]
          rfl

    · rw [effect, goodFrame_duplicate (s := toHunt s) hcls hx,
        if_neg (c := (toHunt s).mc.station = .monitor) (by rw [show (toHunt s).mc.station = .fault from hs]; decide),
        takeDuplicate_of_marked (s := toHunt s) _ hs hd]
      rfl

end Sys2Proof.Machine
end

section
/-! PROOFS. Frames taken: HOLD (O37, O38). -/

namespace Sys2Proof.Machine

variable {s t u : State}

/-! ## The end of the update that takes a frame -/

/-- Of what a station holds, the taking of a frame has left to the end of its update what that end compares and reports
with. -/
structure Taking (s u : State) : Prop where
  mc : u.mc = s.mc
  pins : u.pins = s.pins
  time : u.time = s.time
  port : u.port = s.port
  overcommit : u.table.overcommit = s.table.overcommit
  held : u.alloc.share.held = s.alloc.share.held

theorem Taking.trans (h : Taking s t) (h' : Taking t u) : Taking s u :=
  ⟨h'.mc.trans h.mc, h'.pins.trans h.pins, h'.time.trans h.time, h'.port.trans h.port, h'.overcommit.trans h.overcommit,
    h'.held.trans h.held⟩

theorem Taking.capacity (h : Taking s u) : capacity u = capacity s := capacity_congr (by rw [h.mc])

/-- The sum of held shares at the end of the update, own held as it was. -/
theorem Taking.sumHeld (h : Taking s u) (source : Option Nat) :
    sumHeld { s with table := (endUpdate source u).table } = sumHeld u :=
  sumHeld_congr (t := { s with table := (endUpdate source u).table }) (by simp) (by simp [h.mc]) (by simp [h.mc])
      (by simp [h.held])

/-- Where OVERCOMMIT is not set by the update, the events end with OVERCOMMIT_CLEAR at most (R93). -/
theorem Taking.log_of_unset (h : Taking s u) (source : Option Nat)
    (hunset : s.table.overcommit = true ∨ Machine.sumHeld u ≤ Machine.capacity s) :
    (endUpdate source u).events.log =
      (u.events.takeIf (s.table.overcommit && decide (Machine.sumHeld
          (endUpdate source u) ≤ Machine.capacity s)) .overcommitClear none
        none (some (valueOf (Machine.sumHeld (endUpdate source u)))) s.time.ms).log := by
  rw [← h.overcommit, ← h.capacity] at hunset
  rw [endUpdate, tryStart_events, settle_log_of_unset source hunset, ← endUpdate, sumHeld_endUpdate,
    sumHeld_settle_of_unset source hunset, h.overcommit, h.capacity, h.time]

theorem Taking.log_of_set (h : Taking s u) (source : Option Nat) (hclear : s.table.overcommit = false)
    (hlt : Machine.capacity s < Machine.sumHeld u) :
    (endUpdate source u).events.log =
      ((u.overcommitEvents source (Machine.sumHeld u) u.events).takeIf
        (decide (Machine.sumHeld (endUpdate source u) ≤ Machine.capacity s)) .overcommitClear none none
        (some (valueOf (Machine.sumHeld (endUpdate source u)))) s.time.ms).log := by
  rw [← h.overcommit] at hclear
  rw [← h.capacity] at hlt
  rw [endUpdate, tryStart_events, settle_log_of_exceeds source hclear hlt, ← endUpdate, sumHeld_endUpdate, h.capacity,
      h.time]

theorem Taking.overcommit_iff (h : Taking s u) (source : Option Nat) :
    (endUpdate source u).table.overcommit = true ↔ Machine.capacity s < Machine.sumHeld (endUpdate source u) := by
  obtain ⟨-, overcommit, -⟩ := endUpdate_upToDate source u
  rw [← h.capacity, ← capacity_endUpdate source u]
  exact overcommit

/-- Where OVERCOMMIT is not set by the update, own held and the backoff stay. -/
theorem Taking.share_of_unset (h : Taking s u) (source : Option Nat)
    (hunset : s.table.overcommit = true ∨ Machine.sumHeld u ≤ Machine.capacity s) :
    (endUpdate source u).alloc.share.held = s.alloc.share.held
      ∧ (endUpdate source u).alloc.share.backoff = u.alloc.share.backoff := by
  rw [← h.overcommit, ← h.capacity] at hunset
  have quiet := settle_quiet_of_unset source hunset
  obtain ⟨n, hn⟩ := tryStart_share (settle source u)
  rw [endUpdate, hn, quiet.alloc]
  exact ⟨h.held, rfl⟩

theorem cutBack_claim_floor {c : ClaimRecord} (source : Option Nat) (hc : s.alloc.claim = some c) (hk : c.kind ≠ .increase) :
    (cutBack source s).alloc.claim = some c := by
  simp [cutBack, abandonIncrease, hc, hk]

/-- The end of an update leaves an open claim as it is, or abandons an INCREASE one over OVERCOMMIT (R92). -/
theorem endUpdate_claim_or_abandoned {c : ClaimRecord} (source : Option Nat) (hc : u.alloc.claim = some c) :
    (endUpdate source u).alloc.claim = some c ∨ (c.kind = .increase ∧ (endUpdate source u).alloc.claim = none) := by
  by_cases hset : u.table.overcommit = false ∧ capacity u < sumHeld u
  · obtain ⟨hclear, hlt⟩ := hset
    have alloc := settle_alloc_of_exceeds source hclear hlt
    have claim : (summed u).alloc.claim = some c := by rw [(summed_quiet u).alloc, hc]
    by_cases hk : c.kind = .increase
    · obtain ⟨gone, -, backoff⟩ := cutBack_counts (s := summed u) source claim hk
      rw [Option.isSome_iff_ne_none] at backoff
      have idle : mayStart (settle source u) = false := by simp [mayStart, alloc, backoff]
      rw [endUpdate, tryStart_of_not idle, alloc]
      exact .inr ⟨hk, gone⟩
    · have kept := cutBack_claim_floor (s := summed u) source claim hk
      have open' : (settle source u).alloc.claim = some c := by rw [alloc, kept]
      rw [endUpdate, tryStart_of_claim open']
      exact .inl open'
  · rw [not_and_or, Bool.not_eq_false, Nat.not_lt] at hset
    have open' : (settle source u).alloc.claim = some c := by rw [(settle_quiet_of_unset source hset).alloc, hc]
    rw [endUpdate, tryStart_of_claim open']
    exact .inl open'

/-! ## The events of a HOLD -/

theorem raiseIf_events (b : Bool) (kind : EventKind) (station : Option Nat) (claim : Option Byte)
    (value : Option Half) (s : State) :
    (raiseIf b kind station claim value s).events = s.events.takeIf b kind station claim value s.time.ms := by
  cases b <;> rfl

theorem allowance_eq (h : HoldFields) (m : Option Earmark) : allowance h m = allowanceFor h m := by
  cases m with
  | none => simp [allowance, commitsEarmark, allowanceFor]
  | some m => simp [allowance, commitsEarmark, allowanceFor]

theorem overdraws_eq (h : HoldFields) (e : Entry) :
    overdraws h e = (e.stored.status != .absent && decide (e.stored.held + allowanceFor h e.stored.earmark < h.held)) := by
  rw [overdraws, allowance_eq]

theorem holdEvents_events (x : Nat) (h : HoldFields) (hev : t.events = s.events) (htime : t.time = s.time) :
    (holdEvents x h (entryAt s x) t).events = s.peerEvents x h := by
  have value : BitVec.ofNat 16 h.localFault.toNat = if h.localFault then 1 else 0 := by cases h.localFault <;> rfl
  rw [holdEvents, raiseIf_events, raiseIf_events, raiseIf_events, overdraws_eq, value]
  simp only [raiseIf_keeps, hev, htime]
  rfl

@[simp] theorem peerEvents_conditions (x : Nat) (h : HoldFields) (s : State) :
    (s.peerEvents x h).active = s.events.active ∧ (s.peerEvents x h).acked = s.events.acked := by
  simp [State.peerEvents]

/-! ## The ASSENT of an earmark that goes -/

/-- The ASSENT withdrawn with an earmark leaves its slot and the answer list (R76). -/
theorem withdrawFor_gone {x k : Nat} {m : Earmark} (ho : t.outbox.answers = s.outbox.answers)
    (h : answerFor s x m.number = some k)
    (ha : (answerAt s k).content = some .assent) : AnswerGone k t (withdrawFor x (some m) t) := by
  have found := (answerFor_congr ho x m.number).trans h
  have assent := (congrArg AnswerSlot.content (answerAt_congr ho k)).trans ha
  show AnswerGone k t (withdrawAssent x m.number t)
  rw [withdrawAssent_of_assent found assent]
  exact emptyAnswer_gone k t

theorem AnswerGone.answerAt_listed {k : Nat} (h : AnswerGone k s t) (hk : k < s.outbox.answers.length) :
    answerAt t k = AnswerSlot.empty ∧ k ∉ t.outbox.answerList := by
  refine ⟨?_, h.not_listed⟩
  rw [answerAt_eq, h.1, slotAt_set, if_pos ⟨rfl, hk⟩]

/-! ## A HOLD of an entry that is not SUSPECT -/

/-- The station with a HOLD's values in its source's entry, before the update ends. -/
def heldBy (x : Nat) (h : HoldFields) (e : Entry) (s : State) : State :=
  endBackoffIf (h.held < e.stored.held) (withdrawFor x (goneEarmark h e) (holdEvents x h e (modEntry x (heldEntry h) s)))

theorem holdTrusted_eq (x : Nat) (h : HoldFields) (e : Entry) (s : State) :
    holdTrusted x h e s = endUpdate (some x) (heldBy x h e s) := rfl

theorem heldBy_taking (x : Nat) (h : HoldFields) (e : Entry) (s : State) : Taking s (heldBy x h e s) := by
  unfold heldBy
  constructor <;> simp

theorem heldBy_entries (x : Nat) (h : HoldFields) (e : Entry) (s : State) :
    (heldBy x h e s).table.entries = s.table.entries.modify x (heldEntry h) := by
  simp [heldBy, modEntry]

theorem heldBy_own (x : Nat) (h : HoldFields) (e : Entry) (s : State) :
    (heldBy x h e s).alloc.claim = s.alloc.claim ∧ (heldBy x h e s).alloc.share.floor = s.alloc.share.floor
      ∧ (heldBy x h e s).line.inbox = s.line.inbox ∧ (heldBy x h e s).line.rx = s.line.rx := by
  simp [heldBy]

theorem heldBy_events (x : Nat) (h : HoldFields) (s : State) :
    (heldBy x h (entryAt s x) s).events = s.peerEvents x h := by
  simp only [heldBy, endBackoffIf_keeps, withdrawFor_keeps]
  exact holdEvents_events x h (by simp) (by simp)

theorem heldBy_backoff (x : Nat) (h : HoldFields) (e : Entry) (s : State) :
    (heldBy x h e s).alloc.share.backoff = if h.held < e.stored.held then none else s.alloc.share.backoff := by
  unfold heldBy endBackoffIf
  by_cases hfell : h.held < e.stored.held <;> simp [hfell]

theorem heldBy_gone {x k : Nat} {m : Earmark} {h : HoldFields} {e : Entry} (hm : goneEarmark h e = some m)
    (hfor : answerFor s x m.number = some k) (ha : (answerAt s k).content = some .assent) :
        AnswerGone k s (heldBy x h e s) := by
  have gone := withdrawFor_gone (t := holdEvents x h e (modEntry x (heldEntry h) s)) (by simp) hfor ha
  rw [heldBy, hm]
  refine ⟨?_, ?_⟩
  · simp only [endBackoffIf_keeps, gone.1]
    simp
  · simp only [endBackoffIf_keeps, gone.2]
    simp

theorem keepsEarmark_some (h : HoldFields) (m : Earmark) :
    keepsEarmark h (some m) = (h.commit != some m.number && h.openClaim == some m.number) := by
  simp [keepsEarmark, commitsEarmark, bne]

theorem heldEntry_earmark (h : HoldFields) (e : Entry) :
    (heldEntry h e).stored.earmark = e.stored.earmark.filter
        (fun m => h.commit != some m.number && h.openClaim == some m.number) := by
  show (if keepsEarmark h e.stored.earmark then e.stored.earmark else none) = _
  cases e.stored.earmark with
  | none => simp
  | some m => rw [keepsEarmark_some, Option.filter]

theorem goneEarmark_of_gone {h : HoldFields} {e : Entry} {m : Earmark} (hm : e.stored.earmark = some m)
    (hnone : (heldEntry h e).stored.earmark = none) : goneEarmark h e = some m := by
  have dropped : (if keepsEarmark h e.stored.earmark then e.stored.earmark else none) = none := hnone
  rw [goneEarmark]
  split
  · rename_i hkeep
    rw [if_pos hkeep, hm] at dropped
    cases dropped
  · exact hm

theorem heldEntry_expiry {h : HoldFields} {e : Entry} (hs : (heldEntry h e).stored.earmark.isSome = true) :
    (heldEntry h e).expiry = e.expiry := by
  have kept : (if keepsEarmark h e.stored.earmark then e.stored.earmark else none).isSome = true := hs
  show (if keepsEarmark h e.stored.earmark then e.expiry else 0) = e.expiry
  split
  · rfl
  · rename_i hkeep
    rw [if_neg hkeep] at kept
    cases kept

theorem heldEntry_overdrawn (h : HoldFields) (e : Entry) :
    (heldEntry h e).stored.overdrawn = true ↔ e.stored.overdrawn = true
      ∨ (e.stored.status ≠ .absent ∧ e.stored.held + allowanceFor h e.stored.earmark < h.held) := by
  show (e.stored.overdrawn || overdraws h e) = true ↔ _
  rw [overdraws_eq]
  simp

/-! ## The taking -/

theorem popInbox_of_head {d : Delivered} {rest : List Delivered} (h : s.line.inbox = d :: rest) :
    popInbox s = { s with line := { s.line with inbox := rest } } := by rw [popInbox, h, List.tail_cons]

theorem holdReceived_of_head {x : Nat} {h : HoldFields} {r : Option Nat} {rest : List Delivered}
    (hin : s.line.inbox = { frame := { source := x, body := .hold h }, reservation := r } :: rest)
        (hf : h.farewell = false) :
    holdReceived s = takeHold x h (popInbox s) := by
  rw [holdReceived, hin]
  simp [hf]

theorem takeHold_of_trusted {x : Nat} {h : HoldFields} (hs : suspectOnCheck s x = false) :
    takeHold x h s = holdTrusted x h (entryAt s x) s := by
  simp only [suspectOnCheck, Bool.or_eq_false_iff, Bool.not_eq_false'] at hs
  rw [takeHold, checkParity_of_fine (.inl hs.2), holdChecked, if_neg (by simp [hs.1])]

/-- The update that takes a frame reports and keeps as its obligation says (R8, R92, R93), own claim and floor as
they were. -/
theorem Taking.report (taking : Taking s u) {evs : EventUnit} (source : Option Nat) (hev : u.events = evs)
    (hactive : evs.active = s.events.active) (hacked : evs.acked = s.events.acked) (hclaim : u.alloc.claim = s.alloc.claim)
    (hfloor : u.alloc.share.floor = s.alloc.share.floor) (ht : endUpdate source u = t) :
    ((s.table.overcommit = true ∨ Machine.sumHeld { s with table := t.table } ≤ Machine.capacity s) →
      { t.events with active := s.events.active, acked := s.events.acked } =
        evs.takeIf (s.table.overcommit && decide (Machine.sumHeld t ≤ Machine.capacity s)) .overcommitClear none
          none (some (valueOf (Machine.sumHeld t))) s.time.ms)
      ∧ (s.table.overcommit = false → Machine.capacity s < Machine.sumHeld { s with table := t.table } →
        { t.events with active := s.events.active, acked := s.events.acked } =
          (s.overcommitEvents source (Machine.sumHeld { s with table := t.table }) evs).takeIf
            (decide (Machine.sumHeld t ≤ Machine.capacity s)) .overcommitClear none none
                (some (valueOf (Machine.sumHeld t))) s.time.ms) := by
  have own : ∀ sum evs, u.overcommitEvents source sum evs = s.overcommitEvents source sum evs := fun sum evs => by
    simp only [State.overcommitEvents, hclaim, taking.time, taking.mc, taking.held, hfloor]
  rw [← ht, taking.sumHeld source]
  refine ⟨fun h => EventUnit.of_log ?_ ?_ ?_, fun hclear hlt => EventUnit.of_log ?_ ?_ ?_⟩
  · rw [taking.log_of_unset source h, hev]
  · simpa using hactive
  · simpa using hacked
  · rw [taking.log_of_set source hclear hlt, own, hev]
  · simpa [State.overcommitEvents] using hactive
  · simpa [State.overcommitEvents] using hacked

/-- Settles O37. -/
theorem holdRewritesItsSourcesEntry : Obligations.HoldRewritesItsSourcesEntry := by
  intro x h r rest s hin hf hx hp hlen hsus
  have taken : Taking s (popInbox s) := ⟨rfl, rfl, rfl, rfl, rfl, rfl⟩
  have effect : holdReceived s = endUpdate (some x) (heldBy x h (entryAt s x) (popInbox s)) := by
    rw [holdReceived_of_head hin hf, takeHold_of_trusted (s := popInbox s) hsus, holdTrusted_eq]
    rfl
  have inbox : (popInbox s).line.inbox = rest := by rw [popInbox_of_head hin]
  have taking := taken.trans (heldBy_taking x h (entryAt s x) (popInbox s))
  have entries := heldBy_entries x h (entryAt s x) (popInbox s)
  obtain ⟨claim, floor, inbox', rx⟩ := heldBy_own x h (entryAt s x) (popInbox s)
  have events : (heldBy x h (entryAt s x) (popInbox s)).events = s.peerEvents x h := heldBy_events x h (popInbox s)
  have backoff := heldBy_backoff x h (entryAt s x) (popInbox s)
  have gone := fun m k hm => heldBy_gone (s := popInbox s) (x := x) (k := k) (m := m) (h := h) (e := entryAt s x) hm
  generalize heldBy x h (entryAt s x) (popInbox s) = u at effect taking entries claim floor inbox' rx events backoff gone
  have report := taking.report (some x) events (peerEvents_conditions x h s).1
      (peerEvents_conditions x h s).2 claim floor rfl
  have share := taking.share_of_unset (some x)
  have sum := taking.sumHeld (some x)
  have overcommit := taking.overcommit_iff (some x)
  have open' := fun c => endUpdate_claim_or_abandoned (u := u) (c := c) (some x)
  have vEntries : (endUpdate (some x) u).table.entries = (modEntry x (heldEntry h) s).table.entries := by
    rw [show (endUpdate (some x) u).table.entries = u.table.entries by simp, entries]
    rfl
  have after : ∀ v : State, endUpdate (some x) u = v → v.line.inbox = rest ∧ v.line.rx = s.line.rx ∧ v.mc = s.mc
      ∧ v.pins = s.pins
      ∧ v.time = s.time ∧ v.port = s.port ∧ v.outbox.answers = u.outbox.answers
          ∧ v.outbox.answerList = u.outbox.answerList := by
    rintro v rfl
    simp [inbox', inbox, rx, taking.mc, taking.pins, taking.time, taking.port]
  refine ⟨_, congrArg Host.Outcome.next effect, ?_⟩
  generalize hv : endUpdate (some x) u = v at report share sum overcommit open' vEntries
  obtain ⟨vInbox, vRx, vMc, vPins, vTime, vPort, vAnswers, vListed⟩ := after v hv
  have own : entryAt v x = heldEntry h (entryAt s x) := by
    rw [entryAt_congr vEntries, entryAt_modEntry_self _ (by rw [hlen]; exact hx)]
  have other : ∀ i < 24, i ≠ x → entryAt v i = entryAt s i := fun i _ hi => by
    rw [entryAt_congr vEntries, entryAt_modEntry_ne _ hi]
  have length : v.table.entries.length = 24 := by rw [vEntries, modEntry_length, hlen]
  rw [sum] at report
  rw [own, sum]
  refine ⟨rfl, rfl, rfl, rfl, rfl, rfl, rfl, rfl, rfl, rfl, heldEntry_earmark h _, heldEntry_expiry,
      heldEntry_overdrawn h _, other,
    length, overcommit, fun hunset => ?_, report.2, fun m hm hnone k hfor ha => ?_,
        fun c hc => open' c (claim.trans hc), vInbox, vRx, vMc,
    vPins, vTime, vPort⟩
  · obtain ⟨held, stays⟩ := share hunset
    rw [stays, backoff]
    exact ⟨report.1 hunset, held, fun hfell => if_pos hfell.2, fun hle => if_neg (Nat.not_lt.2 hle)⟩
  · have emptied := gone m k (goneEarmark_of_gone hm hnone) hfor ha
    rw [vListed, answerAt_congr vAnswers]
    exact emptied.answerAt_listed (answerFor_lt hfor)

/-! ## A HOLD of a SUSPECT entry (R13) -/

/-- The station with a HOLD's values in its source's SUSPECT entry, before the update ends. -/
def rebuiltBy (x : Nat) (h : HoldFields) (s : State) : State :=
  withdrawFor x (entryAt (checkParity x s) x).stored.earmark (modEntry x (fun _ => rewrittenEntry h) (checkParity x s))

theorem takeHold_of_suspect {x : Nat} {h : HoldFields} (hp : isPeer s x = true) (hx : x < s.table.entries.length)
    (hs : suspectOnCheck s x = true) : takeHold x h s = endUpdate (some x) (rebuiltBy x h s) := by
  have suspect : (entryAt (checkParity x s) x).suspect = true := by
    rw [entryAt_checkParity_self hp hx]
    exact hs
  rw [takeHold, holdChecked, if_pos suspect]
  rfl

theorem rebuiltBy_taking (x : Nat) (h : HoldFields) (s : State) : Taking s (rebuiltBy x h s) := by
  unfold rebuiltBy
  constructor <;> simp

theorem rebuiltBy_own (x : Nat) (h : HoldFields) (s : State) :
    (rebuiltBy x h s).alloc = s.alloc ∧ (rebuiltBy x h s).line.inbox = s.line.inbox
      ∧ (rebuiltBy x h s).events = (checkParity x s).events := by
  simp [rebuiltBy]

theorem entryAt_rebuiltBy {x : Nat} (h : HoldFields) (hx : x < s.table.entries.length) :
    entryAt (rebuiltBy x h s) x = rewrittenEntry h ∧ ∀ i, i ≠ x → entryAt (rebuiltBy x h s) i = entryAt s i := by
  have entries : (rebuiltBy x h s).table.entries = (modEntry x (fun _ => rewrittenEntry h)
      (checkParity x s)).table.entries := by
    simp [rebuiltBy]
  refine ⟨?_, fun i hi => ?_⟩
  · rw [entryAt_congr entries, entryAt_modEntry_self _ (by rwa [checkParity_length])]
  · rw [entryAt_congr entries, entryAt_modEntry_ne _ hi, entryAt_checkParity_ne hi]

/-- Settles O38. -/
theorem holdRebuildsASuspectEntry : Obligations.HoldRebuildsASuspectEntry := by
  intro x h r rest s hin hf hx hp hlen hsus
  have taken : Taking s (popInbox s) := ⟨rfl, rfl, rfl, rfl, rfl, rfl⟩
  have inside : x < (popInbox s).table.entries.length := by simpa [hlen] using hx
  have effect : holdReceived s = endUpdate (some x) (rebuiltBy x h (popInbox s)) := by
    rw [holdReceived_of_head hin hf, takeHold_of_suspect (s := popInbox s) hp inside hsus]
  have inbox : (popInbox s).line.inbox = rest := by rw [popInbox_of_head hin]
  have taking := taken.trans (rebuiltBy_taking x h (popInbox s))
  obtain ⟨own, other⟩ := entryAt_rebuiltBy h inside
  obtain ⟨alloc, inbox', events⟩ := rebuiltBy_own x h (popInbox s)
  have parity : (rebuiltBy x h (popInbox s)).events = eventsOnCheck s x := by
    rw [events]
    exact checkParity_events (s := popInbox s) hp
  have conditions : (eventsOnCheck s x).active = s.events.active ∧ (eventsOnCheck s x).acked = s.events.acked := by
    rw [← checkParity_events hp]
    simp
  generalize rebuiltBy x h (popInbox s) = u at effect taking own other alloc inbox' parity
  have report := taking.report (some x) parity conditions.1 conditions.2 (by rw [alloc]; rfl) (by rw [alloc]; rfl) rfl
  have share := taking.share_of_unset (some x)
  have sum := taking.sumHeld (some x)
  have overcommit := taking.overcommit_iff (some x)
  have after : ∀ v : State, endUpdate (some x) u = v → v.line.inbox = rest ∧ v.mc = s.mc ∧ v.pins = s.pins
      ∧ v.time = s.time ∧ v.port = s.port ∧ v.table.entries = u.table.entries := by
    rintro v rfl
    simp [inbox', inbox, taking.mc, taking.pins, taking.time, taking.port]
  refine ⟨_, congrArg Host.Outcome.next effect, ?_⟩
  generalize hv : endUpdate (some x) u = v at report share sum overcommit
  obtain ⟨vInbox, vMc, vPins, vTime, vPort, vEntries⟩ := after v hv
  have vOwn : entryAt v x = rewrittenEntry h := by rw [entryAt_congr vEntries, own]
  have vOther : ∀ i < 24, i ≠ x → entryAt v i = entryAt s i := fun i _ hi => by
    rw [entryAt_congr vEntries, other i hi]
    rfl
  rw [sum] at report
  rw [vOwn, sum]
  refine ⟨rfl, rfl, vOther, overcommit, fun hunset => ?_, report.2, vInbox, vMc, vPins, vTime, vPort⟩
  obtain ⟨held, stays⟩ := share hunset
  rw [stays, alloc]
  exact ⟨report.1 hunset, held, rfl⟩

end Sys2Proof.Machine
end

section
/-! PROOFS. Frames taken: the farewell (O39). -/

namespace Sys2Proof.Machine

variable {s t u : State}

/-! ## The roll of the own claim (R56) -/

theorem strikeOff_of_none (x : Nat) (hc : s.alloc.claim = none) : strikeOff x s = s := by simp [strikeOff, hc]

theorem strikeOff_of_other {x : Nat} {c : ClaimRecord} (hc : s.alloc.claim = some c) (hx : x ∉ c.roll) :
    strikeOff x s = s := by
  simp [strikeOff, hc, hx]

theorem strikeOff_of_listed {x : Nat} {c : ClaimRecord} (hc : s.alloc.claim = some c) (hx : x ∈ c.roll) :
    strikeOff x s = commitIfCovered (setClaim (some (c.strike x)) s) := by
  simp [strikeOff, hc, hx]

theorem commitIfCovered_claim {c : ClaimRecord} (hc : s.alloc.claim = some c) :
    (commitIfCovered s).alloc.claim = some (if c.phase = .awaiting
        ∧ c.covered = true then { c with phase := .committing } else c) := by
  by_cases h : c.phase = .awaiting ∧ c.covered = true
  · rw [commitIfCovered, if_pos (by simpa [hc] using h), if_pos h, enterCommitting, hc]
    simp
  · rw [commitIfCovered, if_neg (by simpa [hc] using h), if_neg h, hc]

/-- The own claim as the loss of a roll member leaves it. -/
theorem strikeOff_claim {c : ClaimRecord} (x : Nat) (hc : s.alloc.claim = some c) :
    ∃ d, (strikeOff x s).alloc.claim = some d ∧ d.kind = c.kind ∧ d.number = c.number
      ∧ (∀ i, i ≠ x → (i ∈ d.roll ↔ i ∈ c.roll))
      ∧ (x ∈ c.roll → x ∉ d.roll ∧ x ∉ d.assents)
      ∧ (x ∉ c.roll → x ∉ d.roll)
      ∧ (x ∈ c.roll → c.phase = .awaiting → (∀ i ∈ c.roll, i = x ∨ i ∈ c.assents) → d.phase = .committing) := by
  by_cases hx : x ∈ c.roll
  · have claim := commitIfCovered_claim (s := setClaim (some (c.strike x)) s) (c := c.strike x) rfl
    rw [strikeOff_of_listed hc hx, claim]
    refine ⟨_, rfl, ?_⟩
    have roll : ∀ i, i ∈ (c.strike x).roll ↔ i ∈ c.roll ∧ i ≠ x := fun i => by simp [ClaimRecord.strike]
    have assents : ∀ i, i ∈ (c.strike x).assents ↔ i ∈ c.assents ∧ i ≠ x := fun i => by simp [ClaimRecord.strike]
    have out : x ∉ (c.strike x).roll ∧ x ∉ (c.strike x).assents :=
        ⟨fun h => ((roll x).1 h).2 rfl, fun h => ((assents x).1 h).2 rfl⟩
    have other : ∀ i, i ≠ x → (i ∈ (c.strike x).roll ↔ i ∈ c.roll) := fun i hi => (roll i).trans ⟨And.left, fun h => ⟨h, hi⟩⟩
    by_cases hcov : (c.strike x).phase = .awaiting ∧ (c.strike x).covered = true
    · rw [if_pos hcov]
      exact ⟨rfl, rfl, other, fun _ => out, fun h => absurd hx h, fun _ _ _ => rfl⟩
    · rw [if_neg hcov]
      refine ⟨rfl, rfl, other, fun _ => out, fun h => absurd hx h, fun _ hphase hall => absurd ⟨hphase, ?_⟩ hcov⟩
      refine List.all_eq_true.2 fun i hi => ?_
      obtain ⟨hroll, hne⟩ := (roll i).1 hi
      simpa using (assents i).2 ⟨(hall i hroll).resolve_left hne, hne⟩
  · rw [strikeOff_of_other hc hx]
    exact ⟨c, hc, rfl, rfl, fun _ _ => Iff.rfl, fun h => absurd h hx, fun h => h, fun h => absurd h hx⟩

/-! ## The sum of held shares -/

/-- The sum does not rise where no peer entry's counted share does and own held stays. -/
theorem sumHeld_le_of_entries (hs : u.mc.station = s.mc.station) (hi : u.mc.identity = s.mc.identity)
    (hheld : u.alloc.share.held = s.alloc.share.held) (he : ∀ i < 24, (entryAt u i).share ≤ (entryAt s i).share) :
    sumHeld u ≤ sumHeld s := by
  rw [sumHeld_eq, sumHeld_eq]
  refine List.sum_le_sum fun i hlt => ?_
  have own : (ownEntry u).share = (ownEntry s).share := by
    unfold Entry.share Entry.valid ownEntry
    rw [hs, hheld]
  unfold view
  rw [isPeer_congr (t := u) (s := s) hs hi i]
  split
  · exact he i (List.mem_range.1 hlt)
  · exact own.le

theorem Entry.returnAbsent_share (clear : Bool) (e : Entry) : (e.returnAbsent clear).share = 0 := by
  simp [Entry.share, Entry.valid, Entry.returnAbsent, Stored.empty]

/-! ## The farewell -/

/-- The station with the source of a farewell returned to ABSENT, its entry `e` checked, before the update ends. -/
def departed (x : Nat) (e : Entry) (s : State) : State :=
  endBackoffIf (0 < e.counted) (withdrawFor x e.stored.earmark (strikeOff x
    (raise .peerLeft (some x) none (some (valueOf e.counted)) (modEntry x (Entry.returnAbsent true) s))))

theorem takeFarewell_of_absent {x : Nat} (hs : suspectOnCheck s x = false) (ha : (entryAt s x).stored.status = .absent) :
    takeFarewell x s = endUpdate (some x) s := by
  simp only [suspectOnCheck, Bool.or_eq_false_iff, Bool.not_eq_false'] at hs
  rw [takeFarewell, checkParity_of_fine (.inl hs.2), farewellChecked, if_pos ⟨ha, hs.1⟩]

theorem takeFarewell_of_listed {x : Nat} (hp : isPeer s x = true) (hx : x < s.table.entries.length)
    (h : suspectOnCheck s x = true ∨ (entryAt s x).stored.status ≠ .absent) :
    takeFarewell x s = endUpdate (some x) (departed x (entryOnCheck s x) (checkParity x s)) := by
  rw [takeFarewell, entryAt_checkParity_self hp hx, farewellChecked, if_neg]
  · rfl
  · rintro ⟨ha, hs⟩
    rcases h with h | h
    · simp [entryOnCheck, h] at hs
    · exact h ha

theorem entryOnCheck_counted (s : State) (x : Nat) :
    (entryOnCheck s x).counted = if suspectOnCheck s x then 0 else (entryAt s x).stored.held := rfl

theorem departed_taking (x : Nat) (e : Entry) (s : State) : Taking s (departed x e s) := by
  unfold departed
  constructor <;> simp

theorem departed_spec (x : Nat) (e : Entry) (s : State) :
    (departed x e s).table.entries = (modEntry x (Entry.returnAbsent true) s).table.entries
      ∧ (departed x e s).events = s.events.take .peerLeft (some x) none (some (valueOf e.counted)) s.time.ms
      ∧ (departed x e s).line.inbox = s.line.inbox
      ∧ (departed x e s).alloc.claim = (strikeOff x
          (raise .peerLeft (some x) none (some (valueOf e.counted)) (modEntry x (Entry.returnAbsent true) s))).alloc.claim
      ∧ (departed x e s).alloc.share.backoff = if 0 < e.counted then none else s.alloc.share.backoff := by
  refine ⟨by simp [departed], by simp [departed, raise], by simp [departed], by simp [departed], ?_⟩
  unfold departed endBackoffIf
  by_cases hfell : 0 < e.counted <;> simp [hfell]

theorem departed_gone {x k : Nat} {e : Entry} {m : Earmark} (hm : e.stored.earmark = some m)
    (hfor : answerFor s x m.number = some k)
    (ha : (answerAt s k).content = some .assent) : AnswerGone k s (departed x e s) := by
  generalize hv : strikeOff x (raise .peerLeft (some x) none (some (valueOf e.counted))
      (modEntry x (Entry.returnAbsent true) s)) = v
  have answers : v.outbox.answers = s.outbox.answers := by simp [← hv]
  have listed : v.outbox.answerList = s.outbox.answerList := by simp [← hv]
  obtain ⟨emptied, unlisted⟩ := withdrawFor_gone answers hfor ha
  rw [departed, hv, hm]
  refine ⟨?_, ?_⟩
  · simp only [endBackoffIf_keeps, emptied, answers]
  · simp only [endBackoffIf_keeps, unlisted, listed]

theorem entryAt_departed {x : Nat} (hp : isPeer s x = true) (hx : x < s.table.entries.length) :
    entryAt (departed x (entryOnCheck s x) (checkParity x s)) x =
        { stored := { Stored.empty with holdSeq := (entryAt s x).stored.holdSeq }, parityGood := true, age := 0, expiry := 0,
          suspect := false }
      ∧ ∀ i, i ≠ x → entryAt (departed x (entryOnCheck s x) (checkParity x s)) i = entryAt s i := by
  obtain ⟨entries, -⟩ := departed_spec x (entryOnCheck s x) (checkParity x s)
  refine ⟨?_, fun i hi => ?_⟩
  · rw [entryAt_congr entries, entryAt_modEntry_self _ (by rwa [checkParity_length]), entryAt_checkParity_self hp hx,
      Entry.returnAbsent, Bool.not_true, Bool.and_false]
    rfl
  · rw [entryAt_congr entries, entryAt_modEntry_ne _ hi, entryAt_checkParity_ne hi]

/-- What the taking of a farewell of a listed station leaves before its update ends. -/
structure Departs (x : Nat) (s u : State) : Prop where
  taking : Taking s u
  own : entryAt u x =
    { stored := { Stored.empty with holdSeq := (entryAt s x).stored.holdSeq }, parityGood := true, age := 0, expiry := 0,
      suspect := false }
  other : ∀ i, i ≠ x → entryAt u i = entryAt s i
  events : u.events = (eventsOnCheck s x).take .peerLeft (some x) none
    (some (valueOf (if suspectOnCheck s x then 0 else (entryAt s x).stored.held))) s.time.ms
  inbox : u.line.inbox = s.line.inbox
  backoff : u.alloc.share.backoff =
    if 0 < (if suspectOnCheck s x then 0 else (entryAt s x).stored.held) then none else s.alloc.share.backoff
  claim : ∀ c, s.alloc.claim = some c → ∃ d, u.alloc.claim = some d
    ∧ (∀ i, i ≠ x → (i ∈ d.roll ↔ i ∈ c.roll)) ∧ (x ∈ c.roll → x ∉ d.roll ∧ x ∉ d.assents)
    ∧ (x ∈ c.roll → c.phase = .awaiting → (∀ i ∈ c.roll, i = x ∨ i ∈ c.assents) → d.phase = .committing)
  gone : ∀ m k, (entryAt s x).stored.earmark = some m → answerFor s x m.number = some k →
    (answerAt s k).content = some .assent → AnswerGone k s u

theorem departs {x : Nat} (hp : isPeer s x = true) (hx : x < s.table.entries.length) :
    Departs x s (departed x (entryOnCheck s x) (checkParity x s)) := by
  obtain ⟨-, events, inbox, claim, backoff⟩ := departed_spec x (entryOnCheck s x) (checkParity x s)
  obtain ⟨own, other⟩ := entryAt_departed hp hx
  have checked : Taking s (checkParity x s) := by constructor <;> simp
  refine ⟨checked.trans (departed_taking _ _ _), own, other, ?_, by simpa using inbox, ?_, fun c hc => ?_,
      fun m k hm hfor ha => ?_⟩
  · rw [events, checkParity_events hp, entryOnCheck_counted, checked.time]
  · rw [backoff, entryOnCheck_counted]
    simp
  · obtain ⟨d, hd, -, -, roll, out, -, commits⟩ := strikeOff_claim x
      (s := raise .peerLeft (some x) none (some (valueOf (entryOnCheck s x).counted))
          (modEntry x (Entry.returnAbsent true) (checkParity x s)))
      (c := c) (by simpa using hc)
    exact ⟨d, claim.trans hd, roll, out, commits⟩
  · have answers : (checkParity x s).outbox = s.outbox := by simp
    have gone := departed_gone (s := checkParity x s) (x := x) (k := k) (e := entryOnCheck s x) (m := m) hm
      ((answerFor_congr (by rw [answers]) x m.number).trans hfor)
      ((congrArg AnswerSlot.content (answerAt_congr (by rw [answers]) k)).trans ha)
    exact ⟨gone.1.trans (by rw [answers]), gone.2.trans (by rw [answers])⟩

theorem Departs.sumHeld_le {x : Nat} (h : Departs x s u) : sumHeld u ≤ sumHeld s := by
  refine sumHeld_le_of_entries (by rw [h.taking.mc]) (by rw [h.taking.mc]) h.taking.held fun i _ => ?_
  by_cases hi : i = x
  · rw [hi, h.own]
    simp [Entry.share, Entry.valid, Stored.empty]
  · rw [h.other i hi]

/-! ## The obligation -/

theorem farewellReceived_of_head {x : Nat} {h : HoldFields} {r : Option Nat} {rest : List Delivered}
    (hin : s.line.inbox = { frame := { source := x, body := .hold h }, reservation := r } :: rest) (hf : h.farewell = true) :
    farewellReceived s = takeFarewell x (popInbox s) := by
  rw [farewellReceived, hin]
  simp [hf]

theorem holdReceived_of_not (h : ∀ d ∈ s.line.inbox.head?, ∀ h, d.frame.body = .hold h → h.farewell = true) :
    holdReceived s = s := by
  unfold holdReceived
  split
  · rename_i hin
    rw [if_pos (h _ (by rw [hin]; rfl) _ rfl)]
  · rfl

theorem farewellReceived_of_not (h : ∀ d ∈ s.line.inbox.head?, ∀ h, d.frame.body = .hold h → h.farewell = false) :
    farewellReceived s = s := by
  unfold farewellReceived
  split
  · rename_i hin
    rw [if_neg (by simp [h _ (by rw [hin]; rfl) _ rfl])]
  · rfl

theorem announceReceived_of_not (h : ∀ d ∈ s.line.inbox.head?, ∀ n f p c l, d.frame.body ≠ .announce n f p c l) :
    announceReceived s = s := by
  unfold announceReceived
  split
  · rename_i hin
    exact absurd rfl (h _ (by rw [hin]; rfl) _ _ _ _ _)
  · rfl

theorem claimReceived_of_not (h : ∀ d ∈ s.line.inbox.head?, ∀ n a p, d.frame.body ≠ .claim n a p) : claimReceived s = s := by
  unfold claimReceived
  split
  · rename_i hin
    exact absurd rfl (h _ (by rw [hin]; rfl) _ _ _)
  · rfl

theorem assentReceived_of_not (h : ∀ d ∈ s.line.inbox.head?, ∀ x n, d.frame.body ≠ .assent x n) : assentReceived s = s := by
  unfold assentReceived
  split
  · rename_i hin
    exact absurd rfl (h _ (by rw [hin]; rfl) _ _)
  · rfl

theorem objectReceived_of_not (h : ∀ d ∈ s.line.inbox.head?, ∀ x n r, d.frame.body ≠ .object x n r) :
    objectReceived s = s := by
  unfold objectReceived
  split
  · rename_i hin
    exact absurd rfl (h _ (by rw [hin]; rfl) _ _ _)
  · rfl

/-- An update that finds the sum fitting with OVERCOMMIT clear keeps the queue, own held, the backoff and an open claim. -/
theorem Taking.quiet_of_fits (h : Taking s u) (source : Option Nat) (hclear : s.table.overcommit = false)
    (hfits : Machine.sumHeld u ≤ Machine.capacity s) :
    (endUpdate source u).events.log = u.events.log ∧ (endUpdate source u).table.overcommit = false
      ∧ (endUpdate source u).alloc.share.held = s.alloc.share.held
      ∧ (endUpdate source u).alloc.share.backoff = u.alloc.share.backoff
      ∧ (∀ c, u.alloc.claim = some c → (endUpdate source u).alloc.claim = some c) := by
  have hfits' : Machine.sumHeld u ≤ Machine.capacity u := by rwa [h.capacity]
  have quiet := settle_quiet_of_unset source (.inr hfits')
  obtain ⟨held, backoff⟩ := h.share_of_unset source (.inr hfits)
  have overcommit := h.overcommit_iff source
  rw [sumHeld_endUpdate, sumHeld_settle_of_unset source (.inr hfits')] at overcommit
  refine ⟨endUpdate_log_of_fits source (h.overcommit.trans hclear) hfits', ?_, held, backoff, fun c hc => ?_⟩
  · rw [← Bool.not_eq_true, overcommit]
    exact Nat.not_lt.2 hfits
  · have claim : (settle source u).alloc.claim = some c := by rw [quiet.alloc, hc]
    rw [endUpdate, tryStart_of_claim claim, claim]

theorem endUpdate_surroundings (h : Taking s u) (source : Option Nat) (ht : endUpdate source u = t) :
    t.line.inbox = u.line.inbox ∧ t.mc = s.mc ∧ t.pins = s.pins ∧ t.time = s.time ∧ t.port = s.port
      ∧ t.table.entries = u.table.entries ∧ t.outbox.answers = u.outbox.answers ∧ t.outbox.answerList = u.outbox.answerList
      ∧ t.table.nextSnapshot = u.table.nextSnapshot := by
  rw [← ht]
  simp [h.mc, h.pins, h.time, h.port]

theorem ShareTable.eq_but_sums {a b : ShareTable} (he : a.entries = b.entries) (ho : a.overcommit = b.overcommit)
    (hn : a.nextSnapshot = b.nextSnapshot) : { a with sums := b.sums } = b := by
  rw [he, ho, hn]

/-- Settles O39. -/
theorem farewellReleasesItsSource : Obligations.FarewellReleasesItsSource := by
  refine ⟨fun x h r rest s hin hf hx hp hlen hsame hclear => ?_, fun x h r rest s hin hf hx hp hlen hset hlisted => ?_,
    fun s => ⟨fun h => congrArg Host.Outcome.next (holdReceived_of_not h),
        fun h => congrArg Host.Outcome.next (farewellReceived_of_not h),
      fun h => congrArg Host.Outcome.next (announceReceived_of_not h),
          fun h => congrArg Host.Outcome.next (claimReceived_of_not h),
      fun h => congrArg Host.Outcome.next (assentReceived_of_not h),
          fun h => congrArg Host.Outcome.next (objectReceived_of_not h)⟩⟩
  · have fits : sumHeld s ≤ capacity s := Nat.le_of_not_lt fun hlt => by simp [hsame.2 hlt] at hclear
    have inside : x < (popInbox s).table.entries.length := by simpa [hlen] using hx
    have taken : Taking s (popInbox s) := ⟨rfl, rfl, rfl, rfl, rfl, rfl⟩
    have inbox : (popInbox s).line.inbox = rest := by rw [popInbox_of_head hin]
    by_cases hlisted : suspectOnCheck s x = true ∨ (entryAt s x).stored.status ≠ .absent
    · have effect := (farewellReceived_of_head hin hf).trans (takeFarewell_of_listed (s := popInbox s) hp inside hlisted)
      have leaves := departs (s := popInbox s) hp inside
      have le : sumHeld (departed x (entryOnCheck (popInbox s) x) (checkParity x (popInbox s))) ≤ capacity s :=
        leaves.sumHeld_le.trans fits
      generalize departed x (entryOnCheck (popInbox s) x) (checkParity x (popInbox s)) = u at effect leaves le
      obtain ⟨taking, own, other, events, inbox', backoff, claim, gone⟩ := leaves
      have taking := taken.trans taking
      have surroundings := endUpdate_surroundings taking (some x) rfl
      obtain ⟨log, -, held, stays, open'⟩ := taking.quiet_of_fits (some x) hclear le
      refine ⟨_, congrArg Host.Outcome.next effect, ?_⟩
      generalize endUpdate (some x) u = v at surroundings log held stays open'
      obtain ⟨vInbox, vMc, vPins, vTime, vPort, vEntries, vAnswers, -, -⟩ := surroundings
      refine ⟨fun i _ hi => (entryAt_congr vEntries i).trans (other i hi), fun _ => ⟨?_, ?_, fun hfell => ?_, fun hnot => ?_,
          fun c hc hxc d hd => ?_, fun c hc => ?_, fun c hc hxc hphase hall => ?_, fun m hm k hfor ha => ?_⟩,
        fun hnot => ?_, vInbox.trans (inbox'.trans inbox), vMc, vPins, vTime, vPort⟩
      · rw [entryAt_congr vEntries, own]
        rfl
      · rw [EventUnit.queue_of_log log, events]
        rfl
      · have counted : suspectOnCheck (popInbox s) x = false := hfell.1
        rw [stays, backoff, counted]
        exact if_pos hfell.2
      · rw [stays, backoff, if_neg]
        · rfl
        · rcases hnot with hsus | hzero
          · have counted : suspectOnCheck (popInbox s) x = true := hsus
            simp [counted]
          · have zero : (entryAt (popInbox s) x).stored.held = 0 := hzero
            rw [zero]
            split <;> exact Nat.lt_irrefl 0
      · obtain ⟨d', hd', -, out, -⟩ := claim c hc
        obtain rfl : d' = d := Option.some.inj ((open' d' hd').symm.trans hd)
        exact out hxc
      · obtain ⟨d, hd, roll, -⟩ := claim c hc
        exact ⟨d, open' d hd, fun i _ hi => roll i hi⟩
      · obtain ⟨d, hd, -, -, commits⟩ := claim c hc
        exact ⟨d, open' d hd, commits hxc hphase hall⟩
      · rw [answerAt_congr vAnswers]
        exact ((gone m k hm hfor ha).answerAt_listed (answerFor_lt hfor)).1
      · rcases hlisted with h | h
        · simp [hnot.1] at h
        · exact absurd hnot.2 h
    · rw [not_or, Bool.not_eq_true, ne_eq, not_not] at hlisted
      have effect := (farewellReceived_of_head hin hf).trans (takeFarewell_of_absent (s := popInbox s) hlisted.1 hlisted.2)
      have same : sumHeld (popInbox s) = sumHeld s := sumHeld_congr rfl rfl rfl rfl
      have surroundings := endUpdate_surroundings taken (some x) rfl
      obtain ⟨log, overcommit, held, stays, -⟩ := taken.quiet_of_fits (some x) hclear (same.le.trans fits)
      refine ⟨_, congrArg Host.Outcome.next effect, ?_⟩
      generalize endUpdate (some x) (popInbox s) = v at surroundings log overcommit held stays
      obtain ⟨vInbox, vMc, vPins, vTime, vPort, vEntries, vAnswers, -, vSnapshot⟩ := surroundings
      refine ⟨fun i _ _ => entryAt_congr vEntries i, fun hnot => ?_, fun _ => ⟨?_, EventUnit.queue_of_log log, held, stays⟩,
        vInbox.trans inbox, vMc, vPins, vTime, vPort⟩
      · rcases hnot with h | h
        · simp [hlisted.1] at h
        · exact absurd hlisted.2 h
      · exact ShareTable.eq_but_sums vEntries (overcommit.trans hclear.symm) vSnapshot
  · have inside : x < (popInbox s).table.entries.length := by simpa [hlen] using hx
    have taken : Taking s (popInbox s) := ⟨rfl, rfl, rfl, rfl, rfl, rfl⟩
    have effect := (farewellReceived_of_head hin hf).trans (takeFarewell_of_listed (s := popInbox s) hp inside hlisted)
    have leaves := departs (s := popInbox s) hp inside
    generalize departed x (entryOnCheck (popInbox s) x) (checkParity x (popInbox s)) = u at effect leaves
    obtain ⟨taking, own, -, events, -, -, -, -⟩ := leaves
    have taking := taken.trans taking
    have surroundings := endUpdate_surroundings taking (some x) rfl
    have log := taking.log_of_unset (some x) (.inl hset)
    have overcommit := taking.overcommit_iff (some x)
    refine ⟨_, congrArg Host.Outcome.next effect, ?_⟩
    generalize endUpdate (some x) u = v at surroundings log overcommit
    obtain ⟨-, vMc, -, -, -, vEntries, -, -, -⟩ := surroundings
    refine ⟨?_, ?_, ?_⟩
    · rw [entryAt_congr vEntries, own]
      rfl
    · exact overcommit
    · rw [EventUnit.queue_of_log log, hset, Bool.true_and, events]
      rfl

end Sys2Proof.Machine
end

section
/-! PROOFS. Frames taken: ASSENT (O42). -/

namespace Sys2Proof.Machine

variable {s t u : State} {c : ClaimRecord}

theorem requestHold_eq (s : State) :
    requestHold s =
      { s with
        outbox :=
          { s.outbox with
            hold := if holdAllowed s = true ∧ s.outbox.hold.occupancy ≠ .filled then freshHold else s.outbox.hold } } := by
  by_cases h : holdAllowed s = true ∧ s.outbox.hold.occupancy ≠ .filled
  · rw [requestHold, if_pos (by simpa using h), if_pos h]
    rfl
  · rw [requestHold, if_neg (by simpa using h), if_neg h]

theorem holdAllowed_of_committing (hc : s.alloc.claim = some c) (hp : c.phase = .committing) :
    holdAllowed s = true ↔ s.mc.station = .active ∨ s.mc.station = .joining := by
  simp [holdAllowed, hc, hp]

theorem assentReceived_of_head {x target : Nat} {n : Byte} {r : Option Nat} {rest : List Delivered}
    (hin : s.line.inbox = { frame := { source := x, body := .assent target n }, reservation := r } :: rest) :
    assentReceived s = endUpdate none (takeAssent x target n (popInbox s)) := by
  rw [assentReceived, hin]

theorem takeAssent_of_not {x target : Nat} {n : Byte}
    (h : ∀ c ∈ s.alloc.claim, c.phase ≠ .awaiting ∨ target ≠ s.mc.identity.number ∨ n ≠ c.number ∨ x ∉ c.roll ∨ x ∈ c.assents) :
    takeAssent x target n s = s := by
  unfold takeAssent
  split
  · rename_i c hc
    refine if_neg ?_
    rintro ⟨hp, ht, hn, hr, ha⟩
    rcases h c hc with h | h | h | h | h
    · exact h hp
    · exact h ht
    · exact h hn
    · exact h (by simpa using hr)
    · simp [h] at ha
  · rfl

/-- An ASSENT that the open claim waits for joins the assents, and the claim commits if they cover the roll (R57). -/
theorem takeAssent_of_awaited {x target : Nat} {n : Byte} (hc : s.alloc.claim = some c) (hp : c.phase = .awaiting)
    (ht : target = s.mc.identity.number) (hn : n = c.number) (hr : x ∈ c.roll) (ha : x ∉ c.assents) :
    takeAssent x target n s = commitIfCovered (setClaim (some { c with assents := c.assents ++ [x] }) s) := by
  simp only [takeAssent, hc]
  exact if_pos ⟨hp, ht, hn, by simpa using hr, by simpa using ha⟩

theorem commitIfCovered_of_covered (hc : s.alloc.claim = some c) (hp : c.phase = .awaiting) (hcov : c.covered = true) :
    commitIfCovered s = requestHold (setClaim (some { c with phase := .committing }) s) := by
  rw [commitIfCovered, if_pos (by simp [hc, hp, hcov]), enterCommitting, hc]
  rfl

theorem commitIfCovered_of_uncovered (hc : s.alloc.claim = some c) (hcov : c.covered = false) : commitIfCovered s = s := by
  rw [commitIfCovered, if_neg (by simp [hc, hcov])]

theorem covered_iff_joined (x : Nat) : ({ c with assents := c.assents ++ [x] } : ClaimRecord).covered = true
    ↔ ∀ i ∈ c.roll, i = x ∨ i ∈ c.assents := by
  simp [ClaimRecord.covered, or_comm]

/-- Settles O42. -/
theorem assentsCoverTheRoll : Obligations.AssentsCoverTheRoll := by
  intro x target n r rest s hin
  have effect := assentReceived_of_head hin
  rw [popInbox_of_head hin] at effect
  refine ⟨fun c hc hp ht hn hr ha => ?_, fun h => congrArg Host.Outcome.next (effect.trans (congrArg (endUpdate none) ?_))⟩
  · rw [takeAssent_of_awaited (s := { s with line := { s.line with inbox := rest } }) hc hp ht hn hr ha] at effect
    refine ⟨fun hopen => congrArg Host.Outcome.next (effect.trans (congrArg (endUpdate none) ?_)),
      fun hcovered => congrArg Host.Outcome.next (effect.trans (congrArg (endUpdate none) ?_))⟩
    · obtain ⟨i, hi, hne, hno⟩ := hopen
      have uncovered : ({ c with assents := c.assents ++ [x] } : ClaimRecord).covered = false := by
        rw [← Bool.not_eq_true, covered_iff_joined]
        exact fun h => (h i hi).elim hne hno
      rw [commitIfCovered_of_uncovered rfl uncovered]
      rfl
    · have covered := (covered_iff_joined (c := c) x).2 hcovered
      have allowed := holdAllowed_of_committing (c := { c with assents := c.assents ++ [x], phase := .committing })
        (s := setClaim (some { c with assents := c.assents ++ [x], phase := .committing })
          { s with line := { s.line with inbox := rest } }) rfl rfl
      rw [commitIfCovered_of_covered (c := { c with assents := c.assents ++ [x] }) rfl hp covered]
      refine (requestHold_eq (setClaim (some { c with assents := c.assents ++ [x], phase := .committing })
          { s with line := { s.line with inbox := rest } })).trans ?_
      simp only [allowed]
      rfl
  · exact takeAssent_of_not (s := { s with line := { s.line with inbox := rest } }) h

end Sys2Proof.Machine
end

section
/-! PROOFS. Frames taken: OBJECT (O43). -/

namespace Sys2Proof.Machine

variable {s t u : State} {c : ClaimRecord}

/-! ## The claim that an OBJECT ends -/

theorem failNamed_of_other {x target : Nat} {n : Byte} (reason : ObjectReason)
    (h : target ≠ s.mc.identity.number ∨ ∀ c ∈ s.alloc.claim, c.number ≠ n) : failNamed x target n reason s = s := by
  refine if_neg ?_
  rintro ⟨ht, hn⟩
  rcases h with h | h
  · exact h ht
  · cases hc : s.alloc.claim with
    | none => simp [hc] at hn
    | some c => exact h c hc (by simpa [hc] using hn)

theorem failNamed_of_own {x target : Nat} {n : Byte} (reason : ObjectReason) (hc : s.alloc.claim = some c)
    (ht : target = s.mc.identity.number) (hn : n = c.number) :
        failNamed x target n reason s = failClaim reason.asEnd (some x) s :=
  if_pos ⟨ht, by simp [hc, hn]⟩

/-- The failure of a claim ends nothing, ends an INCREASE claim, or changes the station state. -/
theorem failNamed_cases (x target : Nat) (n : Byte) (reason : ObjectReason) (s : State) :
    failNamed x target n reason s = s ∨ (∃ events, failNamed x target n reason s = claimEnded events s)
      ∨ ∃ new objector claim value, new ≠ .active ∧ failNamed x target n reason s
        = changeState new (removeClaim (raise .claimFailed objector claim value s)) := by
  unfold failNamed
  split
  · rename_i h
    obtain ⟨-, hn⟩ := h
    cases hc : s.alloc.claim with
    | none => simp [hc] at hn
    | some c =>
      cases hk : c.kind with
      | increase => exact .inr (.inl ⟨_, failClaim_increase _ _ hc hk⟩)
      | floor =>
        refine .inr (.inr ⟨_, _, _, _, ?_, failClaim_floor _ hc hk⟩)
        split <;> decide
  · exact .inl rfl

theorem changeState_cleared {p : Stored} {new : StationState} {j : Nat} (ha : new ≠ .active) (hl : FullTable s) (hj : j < 24)
    (h : (entryAt s j).Cleared p) : (entryAt (changeState new s) j).Cleared p := by
  have start : entryAt (turned new s) j = entryAt s j := entryAt_congr (by simp) j
  obtain ⟨full, cleared⟩ := discardSlots_cleared (s := turned new s) (p := p) ha (by simpa [FullTable] using hl) hj
      (start ▸ h)
  rw [entryAt_congr (changeState_entries new s)]
  unfold dropEarmarksLeaving
  split
  · exact foldl_removeEarmark_cleared hj _ full cleared
  · exact cleared

theorem failNamed_cleared {p : Stored} {j : Nat} (x target : Nat) (n : Byte) (reason : ObjectReason)
    (hl : FullTable s) (hj : j < 24)
    (h : (entryAt s j).Cleared p) : (entryAt (failNamed x target n reason s) j).Cleared p := by
  rcases failNamed_cases x target n reason s with same | ⟨events, ended⟩ | ⟨new, objector, claim, value, ha, changed⟩
  · rw [same]
    exact h
  · rw [ended]
    exact h
  · have entries : (removeClaim (raise .claimFailed objector claim value s)).table.entries = s.table.entries := by simp
    rw [changed]
    refine changeState_cleared ha ?_ hj ?_
    · rw [FullTable, entries]
      exact hl
    · rw [entryAt_congr entries]
      exact h

/-- An entry that has lost its earmark does not get it back from the failure of a claim. -/
theorem failNamed_unmarked {j : Nat} (x target : Nat) (n : Byte) (reason : ObjectReason) (hl : FullTable s) (hj : j < 24)
    (h : (entryAt s j).stored.earmark = none) : (entryAt (failNamed x target n reason s) j).stored.earmark = none := by
  rcases failNamed_cleared x target n reason hl hj (.inl rfl : (entryAt s j).Cleared
      (entryAt s j).stored) with same | ⟨unmarked, -⟩
  · rw [same, h]
  · exact unmarked

theorem changeState_answers_empty {new : StationState} {k : Nat} (ha : new ≠ .active) (hk : k < 4) (s : State) :
    answerAt (changeState new s) k = AnswerSlot.empty := by
  have answers : (changeState new s).outbox.answers
      = ((List.range 4).foldl (fun s k => emptyAnswer k (dropSlotEarmark k s)) (turned new s)).outbox.answers := by
    have discarded := (discardSlots_answers ha (turned new s)).1
    have entered' : (changeState new s).outbox.answers = (entered new s).outbox.answers := by simp [changeState_eq]
    rw [entered', entered_slots, discarded]
    simp [discardAnswers]
  rw [answerAt_congr (t := changeState new s) answers]
  exact emptyAnswers_slotAt 4 (turned new s) k (.inl hk)

theorem failNamed_answer {k : Nat} (x target : Nat) (n : Byte) (reason : ObjectReason) (hk : k < 4)
    (h : answerAt s k = AnswerSlot.empty) : answerAt (failNamed x target n reason s) k = AnswerSlot.empty := by
  rcases failNamed_cases x target n reason s with same | ⟨events, ended⟩ | ⟨new, objector, claim, value, ha, changed⟩
  · rw [same, h]
  · rw [ended]
    exact h
  · rw [changed]
    exact changeState_answers_empty ha hk _

theorem failNamed_tx {P : Transmitter → Prop} (hP : CutClosed P) (x target : Nat) (n : Byte) (reason : ObjectReason)
    (h : P s.line.tx) :
    P (failNamed x target n reason s).line.tx := by
  rcases failNamed_cases x target n reason s with same | ⟨events, ended⟩ | ⟨new, objector, claim, value, ha, changed⟩
  · rw [same]
    exact h
  · rw [ended]
    exact hP _ _ h
  · rw [changed]
    refine changeState_tx hP new ?_
    rw [removeClaim_tx]
    exact hP _ _ (by simpa using h)

theorem failNamed_surroundings (x target : Nat) (n : Byte) (reason : ObjectReason) (s : State) :
    (failNamed x target n reason s).line.inbox.length = s.line.inbox.length ∧ (failNamed x target n reason s).pins = s.pins
      ∧ (failNamed x target n reason s).time = s.time ∧ (failNamed x target n reason s).port = s.port := by
  rcases failNamed_cases x target n reason s with same | ⟨events, ended⟩ | ⟨new, objector, claim, value, ha, changed⟩
  · rw [same]
    exact ⟨rfl, rfl, rfl, rfl⟩
  · rw [ended]
    exact ⟨rfl, rfl, rfl, rfl⟩
  · have inbox := (changeState_line ha (removeClaim (raise .claimFailed objector claim value s))).2
    rw [changed, inbox]
    simp

/-! ## The earmark and the answer that an OBJECT ends -/

theorem dropEarmarkOf_of_not {target : Nat} {n : Byte} (h : holdsEarmark s target n = false) :
    dropEarmarkOf target n s = s :=
  if_neg (by simp [h])

theorem dropEarmarkOf_of_holds {target : Nat} {n : Byte} (h : holdsEarmark s target n = true) :
    dropEarmarkOf target n s = withdrawAssent target n (removeEarmark target s) := by
  obtain ⟨hp, m, hm, hn⟩ := (holdsEarmark_iff s target n).1 h
  rw [dropEarmarkOf, if_pos h, dropEarmark_of_marked hp hm, hn]

theorem withdrawAnswer_of_some {target k : Nat} {n : Byte} (h : answerFor s target n = some k) :
    withdrawAnswer target n s = emptyAnswer k s := by rw [withdrawAnswer, h]

theorem withdrawAnswer_of_none {target : Nat} {n : Byte} (h : answerFor s target n = none) :
    withdrawAnswer target n s = s := by
  rw [withdrawAnswer, h]

/-- The station once an OBJECT has taken the earmark and the answer it names. -/
def objected (target : Nat) (n : Byte) (s : State) : State := withdrawAnswer target n (dropEarmarkOf target n s)

theorem takeObject_eq (x target : Nat) (n : Byte) (reason : ObjectReason) (s : State) :
    takeObject x target n reason s = endUpdate none (failNamed x target n reason (objected target n s)) := rfl

theorem objected_of_unmarked {target : Nat} {n : Byte} (h : holdsEarmark s target n = false) :
    objected target n s = withdrawAnswer target n s := by rw [objected, dropEarmarkOf_of_not h]

theorem objected_of_nothing {target : Nat} {n : Byte} (h : holdsEarmark s target n = false)
    (hfor : answerFor s target n = none) :
    objected target n s = s := by rw [objected_of_unmarked h, withdrawAnswer_of_none hfor]

theorem objected_taking (target : Nat) (n : Byte) (s : State) : Taking s (objected target n s) := by
  unfold objected
  constructor <;> simp

theorem objected_keeps (target : Nat) (n : Byte) (s : State) :
    (objected target n s).alloc = s.alloc ∧ (objected target n s).pilot = s.pilot
        ∧ (objected target n s).outbox.hold = s.outbox.hold
      ∧ (objected target n s).line.inbox = s.line.inbox := by
  simp [objected]

theorem objected_marked {target : Nat} {n : Byte} (h : holdsEarmark s target n = true) :
    (objected target n s).table.entries = (removeEarmark target s).table.entries
      ∧ (objected target n s).events = (removeEarmark target s).events := by
  rw [objected, dropEarmarkOf_of_holds h]
  simp

/-- A slot of the key, and no other, holds an answer: it is emptied, and an attempt of it cut (R78, R123). -/
theorem objected_gone {target k : Nat} {n : Byte} (hl : s.outbox.answers.length = 4) (h : holdsEarmark s target n = true)
    (hfor : answerFor s target n = some k) (hunique : ∀ j < 4, j ≠ k → (answerAt s j).key ≠ some (target, n)) :
    AnswerGone k s (objected target n s) ∧ (objected target n s).line.tx = s.line.tx.cutFrom (.answer k) := by
  generalize hv : removeEarmark target s = v
  have outbox : v.outbox = s.outbox := by simp [← hv]
  have line : v.line = s.line := by simp [← hv]
  have found : answerFor v target n = some k := (answerFor_congr (by rw [outbox]) target n).trans hfor
  rw [objected, dropEarmarkOf_of_holds h, hv]
  by_cases ha : (answerAt v k).content = some .assent
  · have gone : AnswerGone k v (emptyAnswer k v) := emptyAnswer_gone k v
    have nobody : answerFor (emptyAnswer k v) target n = none := by
      refine List.findIdx?_eq_none_iff.2 fun a ha => ?_
      obtain ⟨j, hj, rfl⟩ := List.getElem_of_mem ha
      have at' : (emptyAnswer k v).outbox.answers[j] = answerAt (emptyAnswer k v) j := by
        rw [answerAt, List.getElem?_eq_getElem hj]
        rfl
      have inside : j < 4 := by
        rw [gone.1, List.length_set, outbox, hl] at hj
        exact hj
      rw [at']
      by_cases hjk : j = k
      · rw [hjk, gone.answerAt_self (by rw [outbox, hl]) (hjk ▸ inside)]
        rfl
      · rw [gone.answerAt_ne hjk, answerAt_congr (congrArg Outbox.answers outbox)]
        simp [hunique j inside hjk]
    rw [withdrawAssent_of_assent found ha, withdrawAnswer_of_none nobody]
    exact ⟨⟨gone.1.trans (by rw [outbox]), gone.2.trans (by rw [outbox])⟩, (emptyAnswer_tx k v).trans (by rw [line])⟩
  · have kept : withdrawAssent target n v = v := by simp [withdrawAssent, found, ha]
    rw [kept, withdrawAnswer_of_some found]
    exact ⟨⟨(emptyAnswer_gone k v).1.trans (by rw [outbox]), (emptyAnswer_gone k v).2.trans (by rw [outbox])⟩,
      (emptyAnswer_tx k v).trans (by rw [line])⟩

theorem objected_answers {target : Nat} {n : Byte} (h : holdsEarmark s target n = true)
    (hfor : answerFor s target n = none) :
    (objected target n s).outbox.answers = s.outbox.answers := by
  generalize hv : removeEarmark target s = v
  have outbox : v.outbox = s.outbox := by simp [← hv]
  have nobody : answerFor v target n = none := (answerFor_congr (by rw [outbox]) target n).trans hfor
  rw [objected, dropEarmarkOf_of_holds h, hv, withdrawAssent_of_none nobody, withdrawAnswer_of_none nobody, outbox]

theorem entryOnCheck_share_le (s : State) (i : Nat) : (entryOnCheck s i).share ≤ (entryAt s i).share := by
  unfold Entry.share Entry.valid entryOnCheck suspectOnCheck
  cases (entryAt s i).suspect <;> cases (entryAt s i).parityGood <;> simp

theorem removeEarmark_sumHeld_le {i : Nat} (hp : isPeer s i = true) (hi : i < s.table.entries.length)
    (hm : (entryAt s i).stored.earmark.isSome = true) (he : u.table.entries = (removeEarmark i s).table.entries)
        (ht : Taking s u) :
    sumHeld u ≤ sumHeld s := by
  refine sumHeld_le_of_entries (by rw [ht.mc]) (by rw [ht.mc]) ht.held fun j _ => ?_
  rw [entryAt_congr he]
  by_cases hj : j = i
  · rw [hj, entryAt_removeEarmark_self hp hi hm]
    exact (Entry.unmarked_share_le _).trans (entryOnCheck_share_le s i)
  · rw [entryAt_removeEarmark_ne hj]

/-- What the end of an update that sets no OVERCOMMIT keeps of the own records, the pilot and the HOLD slot. -/
theorem Taking.kept_of_unset (h : Taking s u) (source : Option Nat) (halloc : u.alloc = s.alloc) (hpilot : u.pilot = s.pilot)
    (hhold : u.outbox.hold = s.outbox.hold) (hunset : s.table.overcommit = true ∨ Machine.sumHeld u ≤ Machine.capacity s) :
    { (endUpdate source u).alloc.share with claimCounter := s.alloc.share.claimCounter } = s.alloc.share
      ∧ (∀ c, s.alloc.claim = some c → (endUpdate source u).alloc = s.alloc)
      ∧ (endUpdate source u).pilot = s.pilot ∧ (endUpdate source u).outbox.hold = s.outbox.hold := by
  rw [← h.overcommit, ← h.capacity] at hunset
  have quiet := settle_quiet_of_unset source hunset
  obtain ⟨n, hn⟩ := tryStart_share (settle source u)
  refine ⟨?_, fun c hc => ?_, ?_, ?_⟩
  · rw [endUpdate, hn, quiet.alloc, halloc]
  · have claim : (settle source u).alloc.claim = some c := by rw [quiet.alloc, halloc, hc]
    rw [endUpdate, tryStart_of_claim claim, quiet.alloc, halloc]
  · simp only [endUpdate, tryStart_keeps, quiet.pilot, hpilot]
  · simp only [endUpdate, tryStart_keeps, quiet.outbox, hhold]

theorem objectReceived_of_head {x target : Nat} {n : Byte} {reason : ObjectReason} {r : Option Nat} {rest : List Delivered}
    (hin : s.line.inbox = { frame := { source := x, body := .object target n reason }, reservation := r } :: rest) :
    objectReceived s = takeObject x target n reason (popInbox s) := by
  rw [objectReceived, hin]

theorem ObjectReason.asEnd_code (r : ObjectReason) : r.asEnd.code = r.code := by cases r <;> rfl

theorem ObjectReason.asEnd_mismatch (r : ObjectReason) : r.asEnd = .mismatch ↔ r = .mismatch := by cases r <;> decide

/-- The entry that an OBJECT takes the earmark from, as the taking leaves it (R16, R21). -/
theorem entryOnCheck_unmarked (s : State) (i : Nat) :
    (entryOnCheck s i).unmarked =
      if (entryAt s i).stored.status = .pendingJoin then
        { stored := { Stored.empty with holdSeq := (entryAt s i).stored.holdSeq }, parityGood := true, age := 0, expiry := 0,
          suspect := suspectOnCheck s i }
      else
        { entryOnCheck s i with
          stored := { (entryAt s i).stored with earmark := none }
          parityGood := true
          expiry := 0 } := by
  unfold Entry.unmarked
  by_cases h : (entryAt s i).stored.status = .pendingJoin
  · rw [if_pos h]
    refine (if_pos h).trans ?_
    simp [Entry.returnAbsent, entryOnCheck]
  · rw [if_neg h]
    exact if_neg h

/-- Settles O43. -/
theorem objectEndsTheClaimItNames : Obligations.ObjectEndsTheClaimItNames := by
  intro x target n reason r rest s hin hlen hans
  have effect : objectReceived s = endUpdate none (failNamed x target n reason (objected target n (popInbox s))) := by
    rw [objectReceived_of_head hin, takeObject_eq]
  have inbox : (popInbox s).line.inbox = rest := by rw [popInbox_of_head hin]
  have taken : Taking s (popInbox s) := ⟨rfl, rfl, rfl, rfl, rfl, rfl⟩
  have unnamed : ∀ v : State, v.mc = s.mc → v.alloc = s.alloc
      → (target ≠ s.mc.identity.number ∨ ∀ c ∈ s.alloc.claim, c.number ≠ n) →
      failNamed x target n reason v = v := fun v hm ha h => failNamed_of_other reason (by rw [hm, ha]; exact h)
  refine ⟨fun hholds htarget => ?_, fun k hholds hfor hother => congrArg Host.Outcome.next ?_,
    fun hnothing c hc ht hn => ⟨fun hk => congrArg Host.Outcome.next ?_, fun hk => ?_⟩,
    fun hnothing => congrArg Host.Outcome.next ?_⟩
  · obtain ⟨hp, m, hm, hn⟩ := (holdsEarmark_iff s target n).1 hholds
    have marked : (entryAt s target).stored.earmark.isSome = true := by rw [hm]; rfl
    have inside : target < (popInbox s).table.entries.length := by simpa [hlen] using htarget
    have taking := taken.trans (objected_taking target n (popInbox s))
    obtain ⟨alloc, pilot, hold, inbox'⟩ := objected_keeps target n (popInbox s)
    obtain ⟨entries, events⟩ := objected_marked (s := popInbox s) hholds
    have gone := fun k hfor hunique => objected_gone (s := popInbox s) (k := k) hans hholds hfor hunique
    have unanswered := fun hfor => objected_answers (s := popInbox s) hholds hfor
    have sum := removeEarmark_sumHeld_le (s := popInbox s) hp inside marked entries (objected_taking target n (popInbox s))
    generalize objected target n (popInbox s) = u at effect taking alloc pilot hold inbox' entries events gone unanswered sum
    have own : entryAt u target = (entryOnCheck s target).unmarked := by
      rw [entryAt_congr entries, entryAt_removeEarmark_self (s := popInbox s) hp inside marked]
      rfl
    have other : ∀ i, i ≠ target → entryAt u i = entryAt s i := fun i hi => by
      rw [entryAt_congr entries, entryAt_removeEarmark_ne hi]
      rfl
    have full : FullTable u := by
      rw [FullTable, entries, removeEarmark_length]
      exact hlen
    have parity : u.events = eventsOnCheck s target := by
      rw [events]
      exact removeEarmark_events (s := popInbox s) hp marked
    have conditions : (eventsOnCheck s target).active = s.events.active
        ∧ (eventsOnCheck s target).acked = s.events.acked := by
      rw [← checkParity_events hp]
      simp
    have cleared : (entryAt u target).Cleared (entryAt s target).stored := by
      rw [own]
      exact .inr ⟨Entry.unmarked_earmark _, fun hs _ => Entry.unmarked_status hs⟩
    have unmarked : (entryAt u target).stored.earmark = none := by
      rw [own]
      exact Entry.unmarked_earmark _
    have after : ∀ v w : State, failNamed x target n reason u = v → endUpdate none v = w →
        (entryAt w target).stored.earmark = none ∧ (entryAt w target).Cleared (entryAt s target).stored
          ∧ (∀ k < 4, answerAt u k = AnswerSlot.empty → answerAt w k = AnswerSlot.empty)
          ∧ (∀ a : Attempt, u.line.tx = .marking a a.markStart → w.line.tx = .marking a a.markStart)
          ∧ w.line.inbox.length = rest.length ∧ w.pins = s.pins ∧ w.time = s.time ∧ w.port = s.port := by
      rintro v w rfl rfl
      obtain ⟨length, -, -, -⟩ := failNamed_surroundings x target n reason u
      have same : (endUpdate none (failNamed x target n reason u)).table.entries =
          (failNamed x target n reason u).table.entries := by simp
      refine ⟨?_, ?_, fun k hk h => ?_, fun a h => endUpdate_tx (cutClosed_marking a) none
          (failNamed_tx (cutClosed_marking a) x target n reason h),
        ?_, ?_, ?_, ?_⟩
      · rw [entryAt_congr same]
        exact failNamed_unmarked x target n reason full htarget unmarked
      · rw [entryAt_congr same]
        exact failNamed_cleared x target n reason full htarget cleared
      · rw [answerAt_congr (s := failNamed x target n reason u) (by simp)]
        exact failNamed_answer x target n reason hk h
      · simp [length, inbox', inbox]
      · simp [taking.pins]
      · simp [taking.time]
      · simp [taking.port]
    obtain ⟨wUnmarked, wCleared, wAnswers, wTx, wInbox, wPins, wTime, wPort⟩ := after _ _ rfl rfl
    have calm : (target ≠ s.mc.identity.number ∨ ∀ c ∈ s.alloc.claim, c.number ≠ n) →
        endUpdate none (failNamed x target n reason u) = endUpdate none u := fun h => by rw [unnamed u taking.mc alloc h]
    have surroundings := endUpdate_surroundings taking none rfl
    have log := taking.log_of_unset none
    have kept := taking.kept_of_unset none alloc pilot hold
    refine ⟨_, congrArg Host.Outcome.next effect, ?_⟩
    generalize endUpdate none (failNamed x target n reason u)
        = w at calm wUnmarked wCleared wAnswers wTx wInbox wPins wTime wPort
    generalize endUpdate none u = v at calm surroundings log kept
    obtain ⟨vInbox, vMc, -, -, -, vEntries, vAnswers, -, -⟩ := surroundings
    refine ⟨wUnmarked, fun hpending => ?_, fun k hfor hunique => ⟨?_, fun a htx hlive hslot => ?_, fun h j _ hj => ?_⟩,
      fun h => ?_, wInbox, wPins, wTime, wPort⟩
    · rcases wCleared with same | ⟨-, absent⟩
      · rw [same, hm] at wUnmarked
        cases wUnmarked
      · exact absent hpending marked
    · have inside : k < 4 := hans ▸ answerFor_lt hfor
      exact wAnswers k inside ((gone k hfor hunique).1.answerAt_self hans inside)
    · refine wTx a ?_
      rw [(gone k hfor hunique).2]
      have tx : (popInbox s).line.tx = .sending a := htx
      rw [tx, cutFrom_of_live hlive hslot]
    · rw [calm h, answerAt_congr vAnswers, (gone k hfor hunique).1.answerAt_ne hj]
      rfl
    · rw [calm h]
      refine ⟨?_, fun i _ hi => (entryAt_congr vEntries i).trans (other i hi), vMc, vInbox.trans (inbox'.trans inbox),
        fun hfor => vAnswers.trans (unanswered hfor), fun hunset => ?_⟩
      · rw [entryAt_congr vEntries, own, entryOnCheck_unmarked]
      · have fits : s.table.overcommit = true ∨ sumHeld u ≤ capacity s := hunset.imp id fun h => sum.trans h
        obtain ⟨share, alloc', pilot', hold'⟩ := kept fits
        refine ⟨share, alloc', pilot', hold', EventUnit.of_log ?_ ?_ ?_⟩
        · rw [log fits, parity]
        · simpa using conditions.1
        · simpa using conditions.2
  · have gone : objected target n (popInbox s) = emptyAnswer k (popInbox s) := by
      rw [objected_of_unmarked (s := popInbox s) hholds, withdrawAnswer_of_some (s := popInbox s) hfor]
    rw [effect, gone, unnamed (emptyAnswer k (popInbox s)) (by simp) (by simp) hother, popInbox_of_head hin]
    rfl
  · have nothing := objected_of_nothing (s := popInbox s) hnothing.1 hnothing.2
    rw [effect, nothing, failNamed_of_own (s := popInbox s) reason hc ht hn, failClaim_increase _ _ (s := popInbox s) hc hk,
      ObjectReason.asEnd_code, popInbox_of_head hin]
    rfl
  · have nothing := objected_of_nothing (s := popInbox s) hnothing.1 hnothing.2
    rw [nothing, failNamed_of_own (s := popInbox s) reason hc ht hn, failClaim_floor _ (s := popInbox s) hc hk] at effect
    have state : (if reason.asEnd = .mismatch then StationState.fault else .waiting) = if reason
        = .mismatch then .fault else .waiting :=
      if_congr (ObjectReason.asEnd_mismatch reason) rfl rfl
    rw [state] at effect
    generalize hv : removeClaim (raise .claimFailed (some x) (some c.number) (some (joined 0 reason.asEnd.code))
        (popInbox s)) = v at effect
    have failures : v.alloc.share = s.alloc.share := by rw [← hv]; simp
    refine ⟨_, congrArg Host.Outcome.next effect, ?_⟩
    generalize hnew : (if reason = .mismatch then StationState.fault else .waiting) = new
    have four : new ≠ .active ∧ new ≠ .joining ∧ new ≠ .leaving ∧ new ≠ .fenced := by
      rw [← hnew]
      split <;> decide
    obtain ⟨ha, hj, hl, hf⟩ := four
    obtain ⟨station, -, claim, -, -, failures', backoff⟩ := emptied_update ha hj hl hf none v
    exact ⟨claim, station, by rw [failures', failures], by rw [backoff, failures]⟩
  · obtain ⟨hholds, hfor, hother⟩ := hnothing
    rw [effect, objected_of_nothing (s := popInbox s) hholds hfor, unnamed (popInbox s) rfl rfl hother, popInbox_of_head hin]

end Sys2Proof.Machine
end

section
/-! PROOFS. Frames taken: CLAIM (O41, refuted). -/

namespace Sys2Proof.Machine

/-- The entry of a station that asks to join while it holds 1500 on record, under a FLOOR earmark of number 5. -/
def holdingJoiner : Entry :=
  { Entry.empty with
    stored := { Stored.empty with
      status := .pendingJoin, held := 1500, earmark := some { kind := .floor, number := 5, amount := 50 } } }

/-- Station 3 in ACTIVE, class 3 of capacity 1600, holding 300 beside the joiner's 1500, OVERCOMMIT set as the sums
say, with a
CLAIM 5 of the joiner, station 2, at the head of the frames delivered. -/
def claimedInOvercommit : State :=
  refreshSums
    { State.reset with
      mc := { Membership.initial with
        station := .active, identity := { number := 3, valid := true, capacityClass := 3, leaseSelect := 0 } }
      table := { ShareTable.initial with entries := ShareTable.initial.entries.set 2 holdingJoiner, overcommit := true }
      alloc := { Allocation.initial with share := { Allocation.initial.share with held := 300, floor := 50, demand := 300 } }
      line :=
        { LineInterface.initial with
          inbox := [{ frame := { source := 2, body := .claim 5 10 0 }, reservation := some 0 }] } }

theorem claimedInOvercommit_settled : Settled claimedInOvercommit := by
  unfold Settled NoCheckFails
  decide +kernel

/-- The OBJECT with NOT_MEMBER takes the earmark, and with it the PENDING_JOIN entry: the sum then fits, and
OVERCOMMIT_CLEAR is
raised. -/
theorem claimedInOvercommit_clears :
    (claimReceived claimedInOvercommit).events.queue.map (·.kind) = [.overcommitClear]
      ∧ claimedInOvercommit.events.queue = [] := by decide +kernel

/-- Refutes O41: an OBJECT of the first rows can end OVERCOMMIT, and raises OVERCOMMIT_CLEAR. -/
theorem not_claimIsTakenAndAnswered : ¬ Obligations.ClaimIsTakenAndAnswered := by
  rintro ⟨-, -, barred, -⟩
  have decided : DecidedAt claimedInOvercommit 2 5 (some 0) 0 := by
    unfold DecidedAt
    decide +kernel
  obtain ⟨t, ht, -, -, -, -, -, -, events, -⟩ := barred 2 5 10 0 (some 0) [] claimedInOvercommit rfl (by decide) (by decide)
    (by decide +kernel) (by decide +kernel) claimedInOvercommit_settled rfl 0 decided (by decide) .notMember
        (by decide +kernel)
  have effect : claimReceived claimedInOvercommit = t := Host.Outcome.next.inj ht
  have queue : t.events.queue = claimedInOvercommit.events.queue := congrArg (fun e => e.queue) events
  obtain ⟨clears, empty⟩ := claimedInOvercommit_clears
  rw [effect, queue, empty] at clears
  cases clears

end Sys2Proof.Machine
end

section
/-! PROOFS. The decode of the port's requests (O46) and the queued requests at their arrival (O48). -/

namespace Sys2Proof.Machine

variable {s t : State}

/-! ## What the port hears -/

theorem hears_iff (bytes : List Byte) (s : State) : hears bytes s = true ↔ Hears s bytes := by
  simp [hears, Hears, Port.taken, and_assoc]

/-- The state in which a request acts: its bytes in the request buffer. -/
def heardBytes (bytes : List Byte) (s : State) : State := setPort { s.port with request := bytes, bits := [] } s

theorem decoded_of_hears {c : Instr} {bytes : List Byte} (act : State → State) (hb : requestBytes c = bytes)
    (hr : requestOf bytes = some c) (h : Hears s bytes) : decoded c act s = act (heardBytes bytes s) := by
  subst hb
  exact if_pos ⟨(hears_iff _ s).2 h, hr⟩

theorem decoded_of_not_hears {c : Instr} {bytes : List Byte} (act : State → State) (hb : requestBytes c = bytes)
    (h : ¬Hears s bytes) : decoded c act s = s := by
  subst hb
  exact if_neg fun both => h ((hears_iff _ s).1 both.1)

/-! ## The bytes of each request -/

theorem demandBytes (target : Half) :
    requestBytes (.demand target) = [0x12, target.extractLsb' 8 8, target.extractLsb' 0 8] := by
  have two := halfBytes_toNat_append (target.extractLsb' 8 8) (target.extractLsb' 0 8)
  rw [halfBytes_append] at two
  rw [requestBytes, two]

theorem requestOf_demand (target : Half) :
    requestOf [0x12, target.extractLsb' 8 8, target.extractLsb' 0 8] = some (.demand target) := by
  obtain ⟨-, -, demand, -⟩ := requestBytesSpellTheirRequest
  exact demand target

theorem requestOf_known : ∀ code ∈ requestCodes, requestOf [code] ≠ some (.unknownCommand code) := by decide

theorem dataLength_unknown : ∀ code : Byte, code ∉ requestCodes → dataLength code = 0 := by decide

theorem decoded_known {code : Byte} (act : State → State) (h : code ∈ requestCodes) :
    decoded (.unknownCommand code) act s = s := if_neg fun both => requestOf_known code h both.2

/-! ## Responses -/

/-- A response whose data fill what the command code fixes. -/
theorem respond_eq (command : Byte) (r : ResponseCode) (data : List Byte) (atEnd : EndEffect) (s : State) :
    respond command r data atEnd s =
      { s with
        port :=
          { s.port with
            transaction := .response
            response := r.code :: padTo (dataLength command) data
            atEnd := atEnd } } := rfl

theorem padTo_nil (n : Nat) : padTo n [] = List.replicate n 0 := by simp [padTo]

theorem padTo_of_length {n : Nat} {data : List Byte} (h : data.length = n) : padTo n data = data := by
  simp [padTo, ← h]

theorem unknownCommand_eq {code : Byte} (h : code ∉ requestCodes) (s : State) :
    unknownCommand code s = { s with port := { s.port with transaction := .response, response := [7], atEnd :=
        .none } } := by
  rw [unknownCommand, respond_eq, dataLength_unknown code h]
  rfl

theorem entryRead_of_outside {n : Byte} (h : 24 ≤ n.toNat) (s : State) : entryRead n s = respond 0x07 .bad [] .none s :=
    if_pos h

theorem meterRead_of_other {flag : Byte} (h0 : flag ≠ 0) (h1 : flag ≠ 1) (s : State) :
    meterRead flag s = respond 0x08 .bad [] .none s := (if_neg h0).trans (if_neg h1)

theorem stateRequestArrives_of_other {target : Byte} (h1 : target ≠ 1) (h2 : target ≠ 2) (s : State) :
    stateRequestArrives target s = respond 0x11 .bad [] .none s := by
  have unnamed : targetOf target = none := (if_neg h1).trans (if_neg h2)
  simp only [stateRequestArrives, unnamed]

/-- Settles O46. -/
theorem malformedAndUnheardRequestsChangeNothing : Obligations.MalformedAndUnheardRequestsChangeNothing := by
  intro s
  refine ⟨fun code hc hh => congrArg Host.Outcome.next ?_, fun n hn hh => congrArg Host.Outcome.next ?_,
    fun flag h0 h1 hh => congrArg Host.Outcome.next ?_, fun target h1 h2 hh => congrArg Host.Outcome.next ?_,
    fun h => congrArg Host.Outcome.next (decoded_of_not_hears _ rfl h),
        fun h => congrArg Host.Outcome.next (decoded_of_not_hears _ rfl h),
    fun h => congrArg Host.Outcome.next (decoded_of_not_hears _ rfl h),
        fun h => congrArg Host.Outcome.next (decoded_of_not_hears _ rfl h),
    fun h => congrArg Host.Outcome.next (decoded_of_not_hears _ rfl h),
        fun h => congrArg Host.Outcome.next (decoded_of_not_hears _ rfl h),
    fun h => congrArg Host.Outcome.next (decoded_of_not_hears _ rfl h),
        fun n h => congrArg Host.Outcome.next (decoded_of_not_hears _ rfl h),
    fun flag h => congrArg Host.Outcome.next (decoded_of_not_hears _ rfl h),
    fun record h => congrArg Host.Outcome.next (decoded_of_not_hears _ rfl h),
    fun target h => congrArg Host.Outcome.next (decoded_of_not_hears _ rfl h),
    fun target h => congrArg Host.Outcome.next (decoded_of_not_hears _ (demandBytes target) h),
    fun code h => congrArg Host.Outcome.next ?_⟩
  · rw [decoded_of_hears (c := .unknownCommand code) (unknownCommand code) rfl (requestOf_unknown code hc) hh,
        unknownCommand_eq hc]
    rfl
  · rw [decoded_of_hears (entryRead n) rfl rfl hh, entryRead_of_outside hn]
    rfl
  · rw [decoded_of_hears (meterRead flag) rfl rfl hh, meterRead_of_other h0 h1]
    rfl
  · rw [decoded_of_hears (stateRequestArrives target) rfl rfl hh, stateRequestArrives_of_other h1 h2]
    rfl
  · rcases h with h | h
    · exact decoded_of_not_hears _ rfl h
    · exact decoded_known _ h

/-! ## The FIFO -/

theorem configureArrives_of_room {record : ConfigRecord} (h : s.port.fifo.length < 8) :
    configureArrives record s = respond 0x10 .queued [] .none (place (.configure record) s) :=
        if_pos ((fifoHasRoom_iff s).2 h)

theorem configureArrives_of_full {record : ConfigRecord} (h : 8 ≤ s.port.fifo.length) :
    configureArrives record s = respond 0x10 .full [] .none s :=
  if_neg fun room => Nat.not_lt.2 h ((fifoHasRoom_iff s).1 room)

theorem demandArrives_of_waiting {target : Half} (h : ∃ q ∈ s.port.fifo, q.isDemand = true) :
    demandArrives target s = respond 0x12 .queued [] .none
        (setPort { s.port with fifo := s.port.fifo.map (coalesce target) } s) :=
  if_pos (List.any_eq_true.2 h)

theorem not_any_demand (h : ∀ q ∈ s.port.fifo, q.isDemand = false) : ¬s.port.fifo.any QueuedRequest.isDemand = true := by
  rw [Bool.not_eq_true]
  exact List.any_eq_false.2 fun q hq => by simp [h q hq]

theorem demandArrives_of_room {target : Half} (h : ∀ q ∈ s.port.fifo, q.isDemand = false) (hroom : s.port.fifo.length < 8) :
    demandArrives target s = respond 0x12 .queued [] .none (place (.demand target) s) :=
  (if_neg (not_any_demand h)).trans (if_pos ((fifoHasRoom_iff s).2 hroom))

theorem demandArrives_of_full {target : Half} (h : ∀ q ∈ s.port.fifo, q.isDemand = false) (hfull : 8 ≤ s.port.fifo.length) :
    demandArrives target s = respond 0x12 .full [] .none s :=
  (if_neg (not_any_demand h)).trans (if_neg fun room => Nat.not_lt.2 hfull ((fifoHasRoom_iff s).1 room))

theorem targetOf_eq {target : Byte} {want : Target} (h : (target = 1 ∧ want = .active) ∨ (target = 2 ∧ want = .detached)) :
    targetOf target = some want := by
  rcases h with ⟨rfl, rfl⟩ | ⟨rfl, rfl⟩ <;> rfl

theorem placeStateRequest_of_room {want : Target} {r : PendingRequest} (h : s.port.fifo.length < 8) :
    placeStateRequest want r s = respond 0x11 .queued [] .none (setRequest r (place (.stateRequest want) s)) :=
  if_pos ((fifoHasRoom_iff s).2 h)

theorem placeStateRequest_of_full {want : Target} {r : PendingRequest} (h : 8 ≤ s.port.fifo.length) :
    placeStateRequest want r s = respond 0x11 .full [] .none s :=
  if_neg fun room => Nat.not_lt.2 h ((fifoHasRoom_iff s).1 room)

theorem stateRequestArrives_of_idle {target : Byte} {want : Target} (ht : targetOf target = some want)
    (hf : s.mc.request.first = none) :
    stateRequestArrives target s = placeStateRequest want { first := some want, taken := false, behind := false } s := by
  simp only [stateRequestArrives, ht, hf]

theorem stateRequestArrives_of_busy {target : Byte} {want : Target} (ht : targetOf target = some want)
    (h : s.mc.request.first = some .detached
      ∨ (s.mc.request.first = some .active ∧ (want = .active ∨ s.mc.request.behind = true))) :
    stateRequestArrives target s = respond 0x11 .busy [] .none s := by
  rcases h with hf | ⟨hf, rfl | hb⟩
  · cases want <;> simp only [stateRequestArrives, ht, hf]
  · simp only [stateRequestArrives, ht, hf]
  · cases want
    · simp only [stateRequestArrives, ht, hf]
    · simp only [stateRequestArrives, ht, hf, hb, if_true]

theorem stateRequestArrives_of_behind {target : Byte} (ht : targetOf target = some .detached)
    (hf : s.mc.request.first = some .active)
    (hb : s.mc.request.behind = false) :
    stateRequestArrives target s =
      if s.mc.request.taken then placeStateRequest .detached
          { s.mc.request with behind := true } s else replaceWaiting s := by
  simp only [stateRequestArrives, ht, hf, hb, Bool.false_eq_true, if_false]

/-- Settles O48. -/
theorem queuedRequestsAreAcceptedByTheFifo : Obligations.QueuedRequestsAreAcceptedByTheFifo := by
  intro s
  refine ⟨fun record hh => ?_, fun target hh => ?_, fun target want hh htarget => ?_⟩
  · have heard := decoded_of_hears (c := .configure record) (configureArrives record) rfl (requestOf_recordBytes record) hh
    exact ⟨fun hroom => congrArg Host.Outcome.next (heard.trans (configureArrives_of_room hroom)),
      fun hfull => congrArg Host.Outcome.next (heard.trans (configureArrives_of_full hfull))⟩
  · have heard := decoded_of_hears (demandArrives target) (demandBytes target) (requestOf_demand target) hh
    exact ⟨fun hwait => congrArg Host.Outcome.next (heard.trans (demandArrives_of_waiting hwait)),
      fun hnone hroom => congrArg Host.Outcome.next (heard.trans (demandArrives_of_room hnone hroom)),
      fun hnone hfull => congrArg Host.Outcome.next (heard.trans (demandArrives_of_full hnone hfull))⟩
  · have heard := decoded_of_hears (c := .stateRequest target) (stateRequestArrives target) rfl rfl hh
    have ht := targetOf_eq htarget
    refine ⟨fun hf hroom => congrArg Host.Outcome.next ?_, fun hf hfull => congrArg Host.Outcome.next ?_,
      fun hbusy => congrArg Host.Outcome.next (heard.trans (stateRequestArrives_of_busy ht hbusy)), fun hf hb hwant => ?_⟩
    · exact (heard.trans (stateRequestArrives_of_idle ht hf)).trans (placeStateRequest_of_room hroom)
    · exact (heard.trans (stateRequestArrives_of_idle ht hf)).trans (placeStateRequest_of_full hfull)
    · rw [hwant] at ht
      have behind := heard.trans (stateRequestArrives_of_behind ht hf hb)
      refine ⟨fun htaken hroom => congrArg Host.Outcome.next ?_, fun htaken hfull => congrArg Host.Outcome.next ?_,
        fun htaken => congrArg Host.Outcome.next ?_⟩
      · exact (behind.trans (if_pos htaken)).trans (placeStateRequest_of_room hroom)
      · exact (behind.trans (if_pos htaken)).trans (placeStateRequest_of_full hfull)
      · exact behind.trans (if_neg (Bool.eq_false_iff.1 htaken))

end Sys2Proof.Machine
end

section
/-! PROOFS. Queued requests taken: CONFIGURE (O50). -/

namespace Sys2Proof.Machine

variable {s t : State}

theorem popFifo_of_head {q : QueuedRequest} {rest : List QueuedRequest} (h : s.port.fifo = q :: rest) :
    popFifo s = { s with port := { s.port with fifo := rest } } := by rw [popFifo, h, List.tail_cons]; rfl

/-- What a resolution does (R48, R80). -/
theorem report_eq (r : Resolution) (s : State) :
    report r s =
      { s with
        mc := { s.mc with lastResolution := some r }
        events := s.events.take r.eventKind none none (some r.code) s.time.ms } := rfl

/-! ## CONFIGURE -/

theorem configureTaken_of_head {r : ConfigRecord} {rest : List QueuedRequest} (h : s.port.fifo = .configure r :: rest)
    (hs : s.mc.station ≠ .reset) : configureTaken s = takeConfigure r { s with port := { s.port with fifo := rest } } := by
  simp only [configureTaken, h, if_neg hs, popFifo_of_head h]

theorem takeConfigure_of_locked {r : ConfigRecord} (h : configurable s.mc.station = false) :
    takeConfigure r s = report (.command .configure none .locked) s := if_neg (by simp [h])

theorem takeConfigure_of_badValue {r : ConfigRecord} (h : configurable s.mc.station = true) (hr : recordInRange r = none) :
    takeConfigure r s = report (.command .configure none .badValue) s := by
  simp only [takeConfigure, h, if_true, hr]

theorem takeConfigure_of_inRange {r : ConfigRecord} {polarity : Polarity} {steering : PerClass Steer}
    (h : configurable s.mc.station = true) (hr : recordInRange r = some (polarity, steering)) :
    takeConfigure r s =
      if r.watchdog = 0 ∧ s.time.watchdog.lock = true then report (.command .configure none .watchdogLocked) s
      else endUpdate none (report (.command .configure none .done) (applyRecord r polarity steering s)) := by
  simp only [takeConfigure, h, if_true, hr]

/-! ## The ranges of a record (R185, R192) -/

theorem polarityOf_eq (b : Byte) :
    polarityOf b = if b.toNat ≤ 1 then some (if b = 0 then .normal else .inverted) else none := by
  revert b
  decide

theorem steerOf_eq {n : Nat} (h : n < 4) :
    steerOf n = if n = 3 then none else some (if n = 0 then .none else if n = 1 then .attn else .alert) := by
  interval_cases n <;> rfl

theorem steerBits_lt (steering : Half) (c : Nat) : steerBits steering c < 4 := Nat.mod_lt _ (by decide)

/-- The setting that two steering bits in range give a class. -/
def steerAt (steering : Half) (c : Nat) : Steer :=
  if steering.toNat / 4 ^ c % 4 = 0 then .none else if steering.toNat / 4 ^ c % 4 = 1 then .attn else .alert

theorem steerOf_steerBits {steering : Half} {c : Nat} (h : steering.toNat / 4 ^ c % 4 ≠ 3) :
    steerOf (steerBits steering c) = some (steerAt steering c) := by
  rw [steerOf_eq (steerBits_lt steering c)]
  exact if_neg h

theorem steerOf_of_three {steering : Half} {c : Nat} (h : steering.toNat / 4 ^ c % 4 = 3) :
    steerOf (steerBits steering c) = none := by
  rw [steerOf_eq (steerBits_lt steering c)]
  exact if_pos h

theorem steeringOf_of_inRange {steering : Half} (h : ∀ i < 7, steering.toNat / 4 ^ i % 4 ≠ 3) :
    ∃ classes, steeringOf steering = some classes ∧ ∀ c : EventClass, classes.get c = steerAt steering c.number := by
  have at' : ∀ i < 7, steerOf (steerBits steering i) = some (steerAt steering i) := fun i hi => steerOf_steerBits (h i hi)
  unfold steeringOf
  rw [at' 0 (by decide), at' 1 (by decide), at' 2 (by decide), at' 3 (by decide), at' 4 (by decide),
      at' 5 (by decide), at' 6 (by decide)]
  exact ⟨_, rfl, fun c => by cases c <;> rfl⟩

theorem steeringOf_of_three {steering : Half} (h : ∃ i < 7, steering.toNat / 4 ^ i % 4 = 3) :
    steeringOf steering = none := by
  obtain ⟨i, hi, h3⟩ := h
  have nothing := steerOf_of_three h3
  unfold steeringOf
  interval_cases i <;> simp [nothing]

theorem recordInRange_of_out {r : ConfigRecord}
    (h : 250 < r.floor.toNat ∨ 3 < r.priority.toNat ∨ r.fullScale.toNat < 100 ∨ 6400 < r.fullScale.toNat
      ∨ 1 < r.polarity.toNat ∨ ∃ i < 7, r.steering.toNat / 4 ^ i % 4 = 3) : recordInRange r = none := by
  unfold recordInRange
  split
  · rename_i hnum
    have rest : 1 < r.polarity.toNat ∨ ∃ i < 7, r.steering.toNat / 4 ^ i % 4 = 3 := by
      rcases h with h | h | h | h | h
      · omega
      · omega
      · omega
      · omega
      · exact h
    rcases rest with hp | hs
    · rw [polarityOf_eq, if_neg (Nat.not_le.2 hp)]
    · rw [steeringOf_of_three hs]
      split
      · rename_i hsome
        cases hsome
      · rfl
  · rfl

theorem recordInRange_of_in {r : ConfigRecord} (hf : r.floor.toNat ≤ 250) (hp : r.priority.toNat ≤ 3)
    (hlo : 100 ≤ r.fullScale.toNat)
    (hhi : r.fullScale.toNat ≤ 6400) (hpol : r.polarity.toNat ≤ 1) (hs : ∀ i < 7, r.steering.toNat / 4 ^ i % 4 ≠ 3) :
    ∃ classes, recordInRange r = some (if r.polarity = 0 then .normal else .inverted, classes)
      ∧ ∀ c : EventClass, classes.get c = steerAt r.steering c.number := by
  obtain ⟨classes, hclasses, hget⟩ := steeringOf_of_inRange hs
  refine ⟨classes, ?_, hget⟩
  rw [recordInRange, if_pos ⟨hf, hp, hlo, hhi⟩, polarityOf_eq, if_pos hpol, hclasses]

theorem filterOf_get (b : Byte) (c : EventClass) : (filterOf b).get c = b.getLsbD c.number := by cases c <;> rfl

/-- Settles O50. -/
theorem configureIsCheckedAndApplied : Obligations.ConfigureIsCheckedAndApplied := by
  intro r rest s hfifo hs
  have head := configureTaken_of_head hfifo hs
  refine ⟨fun hout => congrArg Host.Outcome.next ?_, fun hin => ?_⟩
  · have locked : configurable s.mc.station = false := by
      rw [← Bool.not_eq_true, configurable_iff]
      rintro (h | h | h)
      · exact hout.1 h
      · exact hout.2.1 h
      · exact hout.2.2 h
    exact head.trans (takeConfigure_of_locked locked)
  · have open' : configurable s.mc.station = true := (configurable_iff _).2 hin
    refine ⟨fun hbad => congrArg Host.Outcome.next (head.trans
        (takeConfigure_of_badValue open' (recordInRange_of_out hbad))), ?_⟩
    rintro ⟨hf, hp, hlo, hhi, hpol, hsteer⟩
    obtain ⟨classes, hrange, hget⟩ := recordInRange_of_in hf hp hlo hhi hpol hsteer
    have taken := head.trans (takeConfigure_of_inRange (s := { s with port := { s.port with fifo := rest } }) open' hrange)
    refine ⟨fun hlock => congrArg Host.Outcome.next (taken.trans (if_pos hlock)), fun hfree => ?_⟩
    have unlocked : ¬(r.watchdog = 0 ∧ s.time.watchdog.lock = true) := fun ⟨hz, hl⟩ =>
      hfree.elim (fun h => h hz) fun h => Bool.noConfusion (hl.symm.trans h)
    have applied := taken.trans (if_neg unlocked)
    have filter : ∀ v : State, (report (.command .configure none .done) v).events.filter = v.events.filter :=
        fun v => by simp
    have steering : ∀ v : State, (report (.command .configure none .done) v).events.steering = v.events.steering :=
        fun v => by simp
    refine ⟨_, congrArg Host.Outcome.next applied, rfl, rfl, rfl, rfl, rfl, ?_, ?_, ?_, rfl, rfl⟩
    · rw [filter]
      exact fun c => filterOf_get r.filter c
    · rw [steering]
      exact hget
    · rw [filter, steering]
      rfl

end Sys2Proof.Machine
end

section
/-! PROOFS. Queued requests taken: DEMAND (O52). -/

namespace Sys2Proof.Machine

variable {s t u : State} {c : ClaimRecord}

/-! ## The claim that a DEMAND drops (R63) -/

/-- The INCREASE claim that a demand target at or below own held abandons, its commit attempt NONE. -/
def droppedClaim (s : State) : Option ClaimRecord :=
  s.alloc.claim.filter (fun c => c.kind == .increase && !c.inFlight && decide (s.alloc.share.demand ≤ s.alloc.share.held))

theorem droppedClaim_eq_some :
    droppedClaim s = some c
      ↔ s.alloc.claim = some c ∧ c.kind = .increase ∧ c.inFlight = false ∧ s.alloc.share.demand ≤ s.alloc.share.held := by
  simp [droppedClaim, Option.filter_eq_some_iff, and_assoc]

theorem dropByDemand_of_dropped (h : droppedClaim s = some c) :
    dropByDemand s =
      claimEnded (s.events.take .claimAbandoned none (some c.number)
          (some (BitVec.ofNat 16 (256 * 1 + 10))) s.time.ms) s := by
  obtain ⟨hc, hk, hin, hle⟩ := droppedClaim_eq_some.1 h
  rw [dropByDemand, if_pos ⟨by simp [hc, hk, hin], hle⟩]
  exact abandonClaim_increase hc hk (by decide)

theorem dropByDemand_of_kept (h : droppedClaim s = none) : dropByDemand s = s := by
  refine if_neg ?_
  rintro ⟨hany, hle⟩
  cases hc : s.alloc.claim with
  | none => simp [hc] at hany
  | some c =>
    obtain ⟨hk, hin⟩ : c.kind = .increase ∧ c.inFlight = false := by simpa [hc] using hany
    have found : droppedClaim s = some c := droppedClaim_eq_some.2 ⟨hc, hk, hin, hle⟩
    simp [found] at h

theorem dropByDemand_log (s : State) :
    (dropByDemand s).events.log = (s.events.takeAbandoned (droppedClaim s) 10 s.time.ms).log := by
  cases h : droppedClaim s with
  | none =>
    rw [dropByDemand_of_kept h]
    rfl
  | some c =>
    rw [dropByDemand_of_dropped h]
    rfl

/-! ## The drive level and the HOLD slot -/

theorem decrease_hold (hs : s.mc.station = .active) (h : (decrease s).alloc.share.held ≠ s.alloc.share.held) :
    (decrease s).outbox.hold.occupancy = .filled := by
  rw [decrease_held hs] at h
  have lowered : s.alloc.share.demand < s.alloc.share.held ∧ s.alloc.share.floor < s.alloc.share.held := by
    by_contra hno
    exact h (if_neg hno)
  rw [decrease, if_pos ⟨hs, lowered⟩, lowerHeld]
  exact requestHold_filled (by simpa using hs)

/-- The sum does not rise where the entries stay and own held does not rise. -/
theorem sumHeld_le_of_held (he : u.table.entries = s.table.entries) (hs : u.mc.station = s.mc.station)
    (hi : u.mc.identity = s.mc.identity) (hheld : u.alloc.share.held ≤ s.alloc.share.held) : sumHeld u ≤ sumHeld s := by
  rw [sumHeld_eq, sumHeld_eq]
  refine List.sum_le_sum fun i _ => ?_
  have own : (ownEntry u).share ≤ (ownEntry s).share := by
    unfold Entry.share Entry.valid ownEntry
    rw [hs]
    split
    · exact hheld
    · exact Nat.le_refl 0
  unfold view
  rw [isPeer_congr (t := u) (s := s) hs hi i, entryAt_congr he]
  split
  · exact Nat.le_refl _
  · exact own

/-! ## The taking -/

theorem demandTaken_of_head {target : Half} {rest : List QueuedRequest} (h : s.port.fifo = .demand target :: rest)
    (hs : s.mc.station ≠ .reset) : demandTaken s = takeDemand target { s with port := { s.port with fifo := rest } } := by
  simp only [demandTaken, h, if_neg hs, popFifo_of_head h]

/-- The station with a demand target taken and reported, before what it leads to. -/
def demanded (target : Half) (rest : List QueuedRequest) (s : State) : State :=
  { s with
    port := { s.port with fifo := rest }
    mc := { s.mc with lastResolution := some (.demandTaken target.toNat) }
    alloc := { s.alloc with share := { s.alloc.share with demand := target.toNat } }
    events := s.events.take .commandDone none none (some target) s.time.ms }

theorem demandTaken_of_inRange {target : Half} {rest : List QueuedRequest} (h : s.port.fifo = .demand target :: rest)
    (hs : s.mc.station ≠ .reset) (hle : target.toNat ≤ 6400) :
    demandTaken s = endUpdate none (followDemand (demanded target rest s)) := by
  have value : BitVec.ofNat 16 target.toNat = target := by simp
  have code : (Resolution.demandTaken target.toNat).code = target := value
  rw [demandTaken_of_head h hs, takeDemand, if_neg (c := Config.maxShare < target.toNat) (Nat.not_lt.2 hle),
      actOnDemand, report_eq, code]
  rfl

theorem followDemand_of_active (hs : s.mc.station = .active) :
    followDemand s = recomputeDrive (decrease (dropByDemand s)) := if_pos hs

theorem followDemand_of_inactive (hs : s.mc.station ≠ .active) : followDemand s = s := if_neg hs

theorem configureTaken_of_not (h : s.mc.station = .reset ∨ ∀ record, s.port.fifo.head? ≠ some (.configure record)) :
    configureTaken s = s := by
  unfold configureTaken
  split
  · rename_i hfifo
    exact if_pos (h.resolve_right fun hno => hno _ (by rw [hfifo]; rfl))
  · rfl

theorem stateRequestActiveTaken_of_not (h : s.mc.station = .reset ∨ s.port.fifo.head? ≠ some (.stateRequest .active)) :
    stateRequestActiveTaken s = s := by
  unfold stateRequestActiveTaken
  split
  · rename_i hfifo
    exact if_pos (h.resolve_right fun hno => hno (by rw [hfifo]; rfl))
  · rfl

theorem stateRequestDetachedTaken_of_not (h : s.mc.station = .reset ∨ s.port.fifo.head? ≠ some (.stateRequest .detached)) :
    stateRequestDetachedTaken s = s := by
  unfold stateRequestDetachedTaken
  split
  · rename_i hfifo
    exact if_pos (h.resolve_right fun hno => hno (by rw [hfifo]; rfl))
  · rfl

theorem demandTaken_of_not (h : s.mc.station = .reset ∨ ∀ target, s.port.fifo.head? ≠ some (.demand target)) :
    demandTaken s = s := by
  unfold demandTaken
  split
  · rename_i hfifo
    exact if_pos (h.resolve_right fun hno => hno _ (by rw [hfifo]; rfl))
  · rfl

/-! ## A demand target followed in ACTIVE (R80, R88, R90) -/

/-- The station with a new demand target followed in ACTIVE, before the update ends. -/
def pursued (target : Half) (rest : List QueuedRequest) (s : State) : State :=
  recomputeDrive (decrease (dropByDemand (demanded target rest s)))

/-- The values that the end of an update leaves where it cuts no share back. -/
theorem endUpdate_own_of_unset (source : Option Nat) (h : u.table.overcommit = true ∨ sumHeld u ≤ capacity u) :
    (endUpdate source u).alloc.share.held = u.alloc.share.held
        ∧ (endUpdate source u).alloc.share.failures = u.alloc.share.failures
      ∧ (endUpdate source u).outbox.hold = u.outbox.hold ∧ (endUpdate source u).pilot = u.pilot
      ∧ (endUpdate source u).port = u.port := by
  have quiet := settle_quiet_of_unset source h
  simp [endUpdate, quiet.alloc, quiet.outbox, quiet.pilot]

/-- An open claim, or a running backoff, lets the end of an update start no claim where it cuts no share back. -/
theorem endUpdate_claim_of_unset (source : Option Nat) (h : u.table.overcommit = true ∨ sumHeld u ≤ capacity u)
    (hbusy : u.alloc.claim ≠ none ∨ u.alloc.share.backoff ≠ none) :
    (endUpdate source u).alloc.claim = u.alloc.claim ∧ (endUpdate source u).outbox.claim = u.outbox.claim := by
  have quiet := settle_quiet_of_unset source h
  have still : mayStart (settle source u) = false := by
    rw [Bool.eq_false_iff]
    intro hmay
    obtain ⟨-, -, hnone, -, -, -, hbackoff, -⟩ := (mayStart_iff _).1 hmay
    rw [quiet.alloc] at hnone hbackoff
    exact hbusy.elim (fun hc => hc hnone) (fun hb => hb hbackoff)
  rw [endUpdate, tryStart_of_not still, quiet.alloc, quiet.outbox]
  exact ⟨rfl, rfl⟩

/-- A claim that the end of an update starts where it cuts no share back. -/
theorem endUpdate_started (source : Option Nat) {d : ClaimRecord} (h : u.table.overcommit = true ∨ sumHeld u ≤ capacity u)
    (hnone : u.alloc.claim = none) (hd : (endUpdate source u).alloc.claim = some d) :
    d.kind = .increase ∧ d.phase = .sending ∧ u.alloc.share.held < u.alloc.share.demand
      ∧ d.amount ≤ u.alloc.share.demand - u.alloc.share.held := by
  have quiet := settle_quiet_of_unset source h
  rw [endUpdate] at hd
  obtain same | ⟨hmay, fresh⟩ := tryStart_claim (settle source u)
  · rw [same, quiet.alloc, hnone] at hd
    cases hd
  · obtain ⟨-, hlt, -⟩ := (mayStart_iff _).1 hmay
    rw [fresh, quiet.alloc] at hd
    rw [quiet.alloc] at hlt
    cases hd
    exact ⟨rfl, rfl, hlt, Nat.min_le_left _ _⟩

variable {target : Half} {rest : List QueuedRequest}

/-- What is as it was, save for the demand target, once a new target is followed. -/
theorem pursued_kept (target : Half) (rest : List QueuedRequest) (s : State) :
    (pursued target rest s).port = { s.port with fifo := rest }
      ∧ (pursued target rest s).mc = { s.mc with lastResolution := some (.demandTaken target.toNat) }
      ∧ (pursued target rest s).table = s.table ∧ (pursued target rest s).pins = s.pins
          ∧ (pursued target rest s).time = s.time
      ∧ (pursued target rest s).alloc.share.demand = target.toNat
      ∧ (pursued target rest s).events.active = s.events.active ∧ (pursued target rest s).events.acked = s.events.acked := by
  simp [pursued, demanded]

theorem pursued_held (hs : s.mc.station = .active) :
    (pursued target rest s).alloc.share.held =
      if target.toNat < s.alloc.share.held ∧ s.alloc.share.floor < s.alloc.share.held then
        max target.toNat s.alloc.share.floor else s.alloc.share.held := by
  have held := decrease_held (s := dropByDemand (demanded target rest s)) (by simpa [demanded] using hs)
  simpa [pursued, demanded] using held

theorem pursued_hold (hs : s.mc.station = .active) (h : (pursued target rest s).alloc.share.held ≠ s.alloc.share.held) :
    (pursued target rest s).outbox.hold.occupancy = .filled := by
  have hold := decrease_hold (s := dropByDemand (demanded target rest s)) (by simpa [demanded] using hs)
  simp only [pursued, recomputeDrive_keeps] at h ⊢
  exact hold (by simpa [demanded] using h)

theorem pursued_drive (hs : s.mc.station = .active) :
    (pursued target rest s).pilot.requested =
      if s.pilot.faultIn then 0 else min (pursued target rest s).alloc.share.held
          (min s.alloc.share.lastTx target.toNat) := by
  have active : (decrease (dropByDemand (demanded target rest s))).mc.station = .active := by simpa [demanded] using hs
  have requested : (pursued target rest s).pilot.requested = driveLevel
      (decrease (dropByDemand (demanded target rest s))) := rfl
  rw [requested, driveLevel]
  cases hf : s.pilot.faultIn <;> simp [pursued, demanded, hs, hf]

theorem pursued_claim (target : Half) (rest : List QueuedRequest) (s : State) :
    (pursued target rest s).alloc.claim = (dropByDemand (demanded target rest s)).alloc.claim
      ∧ (pursued target rest s).outbox.claim = (dropByDemand (demanded target rest s)).outbox.claim
      ∧ (pursued target rest s).alloc.share.failures = (dropByDemand (demanded target rest s)).alloc.share.failures
      ∧ (pursued target rest s).alloc.share.backoff = (dropByDemand (demanded target rest s)).alloc.share.backoff := by
  simp [pursued]

theorem pursued_log (hs : s.mc.station = .active) :
    (pursued target rest s).events.log =
      (((s.events.take .commandDone none none (some target) s.time.ms).takeAbandoned
          (s.alloc.claim.filter (fun c => c.kind == .increase && !c.inFlight && decide (target.toNat ≤ s.alloc.share.held)))
          10 s.time.ms).takeIf
        (decide (target.toNat < s.alloc.share.held ∧ s.alloc.share.floor < s.alloc.share.held))
        .shareChanged none none (some (valueOf (max target.toNat s.alloc.share.floor))) s.time.ms).log := by
  have dropped := dropByDemand_log (demanded target rest s)
  have lowered := decrease_log (s := dropByDemand (demanded target rest s)) (by simpa [demanded] using hs)
  have same : (pursued target rest s).events.log = (decrease (dropByDemand (demanded target rest s))).events.log := rfl
  rw [same, lowered, dropped]
  simp [demanded, droppedClaim]
  rfl

/-- Following a target raises no sum, so the end of the update cuts no share back. -/
theorem pursued_unset (target : Half) (rest : List QueuedRequest) (hs : s.mc.station = .active)
    (hsame : s.table.overcommit = true ↔ capacity s < sumHeld s) :
    (pursued target rest s).table.overcommit = true ∨ sumHeld (pursued target rest s) ≤ capacity
        (pursued target rest s) := by
  obtain ⟨-, mc, table, -⟩ := pursued_kept target rest s
  have held : (pursued target rest s).alloc.share.held ≤ s.alloc.share.held := by
    rw [pursued_held hs]
    split <;> omega
  have sum := sumHeld_le_of_held (u := pursued target rest s) (s := s) (by rw [table]) (by rw [mc]) (by rw [mc]) held
  have room : capacity (pursued target rest s) = capacity s := capacity_congr (by rw [mc])
  rw [table, room, hsame]
  omega

theorem pursued_claim_end (hs : s.mc.station = .active) (hsame : s.table.overcommit = true ↔ capacity s < sumHeld s)
    (hc : s.alloc.claim = some c) :
    ((c.kind = .increase ∧ c.inFlight = false ∧ target.toNat ≤ s.alloc.share.held) →
        (endUpdate none (pursued target rest s)).alloc.claim = none
          ∧ (endUpdate none (pursued target rest s)).outbox.claim = ClaimSlot.empty
          ∧ (endUpdate none (pursued target rest s)).alloc.share.failures = min (s.alloc.share.failures + 1) 15)
      ∧ ((c.kind = .floor ∨ c.inFlight = true ∨ s.alloc.share.held < target.toNat) →
          (endUpdate none (pursued target rest s)).alloc.claim = some c
            ∧ (endUpdate none (pursued target rest s)).alloc.share.failures = s.alloc.share.failures) := by
  have unset := pursued_unset target rest hs hsame
  obtain ⟨-, failures, -⟩ := endUpdate_own_of_unset none unset
  obtain ⟨claim, slot, count, backoff⟩ := pursued_claim target rest s
  have own : (demanded target rest s).alloc.claim = some c := hc
  refine ⟨fun ⟨hk, hin, hle⟩ => ?_, fun hkeep => ?_⟩
  · have dropped := dropByDemand_of_dropped (s := demanded target rest s) (droppedClaim_eq_some.2 ⟨own, hk, hin, hle⟩)
    rw [dropped] at claim slot count backoff
    have waits : (pursued target rest s).alloc.share.backoff ≠ none := by
      rw [backoff]
      exact Option.some_ne_none _
    obtain ⟨claimEnd, slotEnd⟩ := endUpdate_claim_of_unset none unset (.inr waits)
    exact ⟨claimEnd.trans claim, slotEnd.trans slot, failures.trans count⟩
  · have kept : droppedClaim (demanded target rest s) = none := by
      cases h : droppedClaim (demanded target rest s) with
      | none => rfl
      | some d =>
        obtain ⟨hd, hk, hin, hle⟩ := droppedClaim_eq_some.1 h
        obtain rfl : c = d := Option.some_inj.1 (own.symm.trans hd)
        obtain hfloor | hflight | hlt := hkeep
        · simp [hfloor] at hk
        · simp [hflight] at hin
        · exact absurd hle (Nat.not_le.2 hlt)
    rw [dropByDemand_of_kept kept] at claim count
    have opened : (pursued target rest s).alloc.claim ≠ none := by simp [claim, own]
    exact ⟨(endUpdate_claim_of_unset none unset (.inl opened)).1.trans (claim.trans own), failures.trans count⟩

theorem pursued_starts {d : ClaimRecord} (hs : s.mc.station = .active)
    (hsame : s.table.overcommit = true ↔ capacity s < sumHeld s)
    (hnone : s.alloc.claim = none) (hd : (endUpdate none (pursued target rest s)).alloc.claim = some d) :
    d.kind = .increase ∧ d.phase = .sending ∧ s.alloc.share.held < target.toNat
        ∧ d.amount ≤ target.toNat - s.alloc.share.held := by
  have kept : droppedClaim (demanded target rest s) = none := by
    have own : (demanded target rest s).alloc.claim = none := hnone
    simp [droppedClaim, own]
  obtain ⟨claim, -⟩ := pursued_claim target rest s
  rw [dropByDemand_of_kept kept] at claim
  obtain ⟨hk, hphase, hlt, hamount⟩ := endUpdate_started none (pursued_unset target rest hs hsame) (claim.trans hnone) hd
  obtain ⟨-, -, -, -, -, demand, -⟩ := pursued_kept target rest s
  have held := pursued_held (target := target) (rest := rest) hs
  rw [demand] at hlt hamount
  refine ⟨hk, hphase, ?_⟩
  split at held <;> omega

/-- Settles O52. -/
theorem demandActsOnClaimHeldAndDrive : Obligations.DemandActsOnClaimHeldAndDrive := by
  refine ⟨fun target rest s hfifo hs => ⟨fun hlarge => congrArg Host.Outcome.next ?_,
      fun hle hinactive => congrArg Host.Outcome.next ?_,
    fun hle hactive hsame => ?_⟩, fun s => ⟨fun h => congrArg Host.Outcome.next (configureTaken_of_not h),
      fun h => congrArg Host.Outcome.next (stateRequestActiveTaken_of_not h),
      fun h => congrArg Host.Outcome.next (stateRequestDetachedTaken_of_not h),
          fun h => congrArg Host.Outcome.next (demandTaken_of_not h)⟩⟩
  · exact (demandTaken_of_head hfifo hs).trans (if_pos hlarge)
  · exact (demandTaken_of_inRange hfifo hs hle).trans (congrArg (endUpdate none) (followDemand_of_inactive hinactive))
  · have effect := (demandTaken_of_inRange hfifo hs hle).trans
      (congrArg (endUpdate none) (followDemand_of_active (s := demanded target rest s) hactive))
    have unset := pursued_unset target rest hactive hsame
    obtain ⟨port, mc, table, pins, time, demand, active, acked⟩ := pursued_kept target rest s
    have held := pursued_held (target := target) (rest := rest) hactive
    have hold := pursued_hold (target := target) (rest := rest) hactive
    have drive := pursued_drive (target := target) (rest := rest) hactive
    have log := pursued_log (target := target) (rest := rest) hactive
    have ends := fun c => pursued_claim_end (target := target) (rest := rest) (c := c) hactive hsame
    have starts := fun hnone d => pursued_starts (target := target) (rest := rest) (d := d) hactive hsame hnone
    change _ = endUpdate none (pursued target rest s) at effect
    generalize pursued target rest s = w at *
    obtain ⟨heldEnd, -, holdEnd, pilotEnd, portEnd⟩ := endUpdate_own_of_unset none unset
    have sum := (sumHeld_endUpdate none w).trans (sumHeld_settle_of_unset none unset)
    have room : capacity w = capacity s := capacity_congr (by rw [mc])
    refine ⟨_, congrArg Host.Outcome.next effect, portEnd.trans port, by simpa using demand, by simpa using mc,
        heldEnd.trans held,
      fun hmoved => ?_, ?_, ends, starts, EventUnit.of_log ?_ (by simp) (by simp), by simp [table], by simp [pins],
          by simp [time]⟩
    · rw [holdEnd]
      exact hold fun hsame => hmoved (heldEnd.trans hsame)
    · rw [pilotEnd, heldEnd]
      exact drive
    · rw [sum, endUpdate, tryStart_events, settle_log_of_unset none unset, EventUnit.takeIf_log, log, table, room, time]
      simp only [EventUnit.takeIf_log]

end Sys2Proof.Machine
end

section
/-! PROOFS. Queued requests taken: STATE_REQUEST (O51). -/

namespace Sys2Proof.Machine

variable {s : State} {rest : List QueuedRequest}

theorem resolveFirst_eq (result : CommandResult) (s : State) :
    resolveFirst result s =
      { s with
        mc := { s.mc with
                request := s.mc.request.next
                lastResolution := some (.command .stateRequest s.mc.request.first result) }
        events := s.events.take (Resolution.command .stateRequest s.mc.request.first result).eventKind none none
          (some (Resolution.command .stateRequest s.mc.request.first result).code) s.time.ms } := rfl

/-! ## ACTIVE (R46) -/

/-- The station with an ACTIVE taken from the head of the FIFO, before what it leads to. -/
def askedActive (rest : List QueuedRequest) (s : State) : State :=
  { s with
    port := { s.port with fifo := rest }
    mc := { s.mc with request := { s.mc.request with first := some .active, taken := true } } }

theorem stateRequestActiveTaken_of_head (h : s.port.fifo = .stateRequest .active :: rest) (hs : s.mc.station ≠ .reset) :
    stateRequestActiveTaken s = actOnActive (askedActive rest s) := by
  simp only [stateRequestActiveTaken, h, if_neg hs, popFifo_of_head h]
  rfl

/-- The results that an ACTIVE meets at once. -/
theorem actOnActive_of_resolved {result : CommandResult} {kind : EventKind} {code : Half}
    (h : (s.mc.station = .active ∧ result = .done ∧ kind = .commandDone ∧ code = 0x9110)
      ∨ ((s.mc.station = .monitor ∨ s.mc.station = .fault ∨ s.mc.station = .census ∨ s.mc.station = .joining
          ∨ s.mc.station = .waiting ∨ s.mc.station = .leaving) ∧ result = .locked ∧ kind = .commandRefused ∧ code = 0x9113)
      ∨ ((s.mc.station = .offline ∨ s.mc.station = .detached ∨ s.mc.station = .fenced) ∧ s.mc.configured = false
          ∧ result = .notConfigured ∧ kind = .commandRefused ∧ code = 0x9114)) :
    actOnActive s = resolveFirst result s ∧ (Resolution.command .stateRequest (some .active) result).eventKind = kind
      ∧ (Resolution.command .stateRequest (some .active) result).code = code := by
  obtain ⟨hs, rfl, rfl, rfl⟩ | ⟨hs, rfl, rfl, rfl⟩ | ⟨hs, hconf, rfl, rfl, rfl⟩ := h
  · exact ⟨by simp only [actOnActive, hs], rfl, rfl⟩
  · refine ⟨?_, rfl, rfl⟩
    obtain hs | hs | hs | hs | hs | hs := hs <;> simp only [actOnActive, hs]
  · refine ⟨?_, rfl, rfl⟩
    obtain hs | hs | hs := hs <;> simp [actOnActive, hs, hconf]

theorem actOnActive_of_begins (hs : s.mc.station = .offline ∨ s.mc.station = .detached ∨ s.mc.station = .fenced)
    (hconf : s.mc.configured = true) : actOnActive s = beginJoin s := by
  obtain hs | hs | hs := hs <;> simp [actOnActive, hs, hconf]

/-- A change to a state that resolves no ACTIVE leaves the request and the last resolution. -/
theorem changeState_request_of_active {new : StationState} (hf : s.mc.request.first = some .active) (ha : new ≠ .active)
    (hfe : new ≠ .fenced) (hfa : new ≠ .fault) :
    (changeState new s).mc.request = s.mc.request ∧ (changeState new s).mc.lastResolution = s.mc.lastResolution := by
  rw [changeState_mc, resolveReached, arrived_mc]
  simp only [hf]
  split
  · split <;> simp_all
  · simp

theorem enterJoining_membership (s : State) : (enterJoining s).mc = (changeState .joining s).mc := by simp [enterJoining]

theorem beginJoin_asked (rest : List QueuedRequest) (s : State) :
    (beginJoin (askedActive rest s)).mc.station = (if s.mc.census = 2 then .joining else .census)
      ∧ (beginJoin (askedActive rest s)).mc.request = { s.mc.request with first := some .active, taken := true }
      ∧ (beginJoin (askedActive rest s)).mc.lastResolution = s.mc.lastResolution
      ∧ (beginJoin (askedActive rest s)).alloc.share.held = 0
      ∧ (s.mc.census = 2 →
          (beginJoin (askedActive rest s)).alloc.share.silence = 0
            ∧ (beginJoin (askedActive rest s)).alloc.share.claimCounter = s.alloc.share.claimCounter + 1
            ∧ (beginJoin (askedActive rest s)).alloc.claim = some
                { kind := .floor, number := s.alloc.share.claimCounter + 1, amount := s.alloc.share.floor,
                  phase := .sending, roll := [], assents := [], window := 24, deadline := 48, inFlight := false,
                  deadlinePassed := false }
            ∧ (beginJoin (askedActive rest s)).outbox.claim =
                { occupancy := .filled, key := some (s.alloc.share.claimCounter + 1), content := some .floor,
                  attempts := 0, inFlight := false })
      ∧ (s.mc.census ≠ 2 → (beginJoin (askedActive rest s)).alloc.claim = none
          ∧ (beginJoin (askedActive rest s)).alloc.share.claimCounter = s.alloc.share.claimCounter)
      ∧ (beginJoin (askedActive rest s)).port = { s.port with fifo := rest }
      ∧ (beginJoin (askedActive rest s)).pins = s.pins ∧ (beginJoin (askedActive rest s)).time = s.time := by
  by_cases hcensus : s.mc.census = 2
  · have joins : beginJoin (askedActive rest s) = enterJoining (askedActive rest s) := if_pos hcensus
    obtain ⟨station, -⟩ := enterJoining_mc (askedActive rest s)
    obtain ⟨silence, held, counter⟩ := enterJoining_share (askedActive rest s)
    obtain ⟨request, last⟩ :=
      changeState_request_of_active (s := askedActive rest s) (new := .joining) rfl (by decide) (by decide) (by decide)
    have claim := enterJoining_claim (askedActive rest s)
    have mc := enterJoining_membership (askedActive rest s)
    rw [joins, if_pos hcensus]
    refine ⟨station, (congrArg Membership.request mc).trans request,
        (congrArg Membership.lastResolution mc).trans last, held,
      fun _ => ⟨silence, counter, claim⟩, fun hno => absurd hcensus hno, ?_, ?_, ?_⟩ <;>
      simp only [enterJoining_keeps] <;> rfl
  · have counts : beginJoin (askedActive rest s) = changeState .census (askedActive rest s) := if_neg hcensus
    obtain ⟨request, last⟩ :=
      changeState_request_of_active (s := askedActive rest s) (new := .census) rfl (by decide) (by decide) (by decide)
    have claim := changeState_claim .census (askedActive rest s) (by decide) (by decide)
    have held := (changeState_idle (new := .census) (by decide) (askedActive rest s)).1
    rw [counts, if_neg hcensus]
    refine ⟨by simp, request, last, held, fun hyes => absurd hyes hcensus, fun _ => ⟨claim, ?_⟩, ?_, ?_, ?_⟩ <;>
      simp only [changeState_keeps] <;> rfl

/-! ## DETACHED (R47) -/

/-- The station with a DETACHED taken from the head of the FIFO and a taken ACTIVE cancelled, before what it leads to. -/
def askedDetached (rest : List QueuedRequest) (s : State) : State :=
  setRequest { first := some .detached, taken := true, behind := false }
      (cancelTaken { s with port := { s.port with fifo := rest } })

theorem stateRequestDetachedTaken_of_head (h : s.port.fifo = .stateRequest .detached :: rest) (hs : s.mc.station ≠ .reset) :
    stateRequestDetachedTaken s = actOnDetached (askedDetached rest s) := by
  simp only [stateRequestDetachedTaken, h, if_neg hs, popFifo_of_head h]
  rfl

theorem askedDetached_kept (rest : List QueuedRequest) (s : State) :
    (askedDetached rest s).mc.station = s.mc.station ∧ (askedDetached rest s).mc.identity = s.mc.identity
      ∧ (askedDetached rest s).mc.request = { first := some .detached, taken := true, behind := false }
      ∧ (askedDetached rest s).table = s.table ∧ (askedDetached rest s).alloc = s.alloc
          ∧ (askedDetached rest s).outbox = s.outbox
      ∧ (askedDetached rest s).time = s.time ∧ (askedDetached rest s).port = { s.port with fifo := rest } := by
  unfold askedDetached cancelTaken
  split <;> exact ⟨rfl, rfl, rfl, rfl, rfl, rfl, rfl, rfl⟩

/-- No ACTIVE is pending to cancel. -/
theorem askedDetached_of_none (h : s.mc.request.taken = false ∨ s.mc.request.first ≠ some .active) :
    askedDetached rest s =
      { s with
        port := { s.port with fifo := rest }
        mc := { s.mc with request := { first := some .detached, taken := true, behind := false } } } := by
  have no : ¬(s.mc.request.taken = true ∧ s.mc.request.first = some .active) := by
    rintro ⟨ht, hf⟩
    exact h.elim (fun h => by simp [ht] at h) (fun h => h hf)
  rw [askedDetached, cancelTaken, if_neg no]
  rfl

theorem askedDetached_of_cancelled (ht : s.mc.request.taken = true) (hf : s.mc.request.first = some .active) :
    (askedDetached rest s).events = s.events.take .commandRefused none none (some 0x9112) s.time.ms := by
  have code : (Resolution.command .stateRequest (some .active) .cancelled).code = 0x9112 := rfl
  rw [askedDetached, cancelTaken, if_pos ⟨ht, hf⟩, resolveFirst_eq, hf, code]
  rfl

theorem actOnDetached_of_active (hs : s.mc.station = .active) : actOnDetached s = changeState .leaving s := by
  simp only [actOnDetached, hs]

theorem actOnDetached_of_leaves (hs : s.mc.station = .offline ∨ s.mc.station = .census ∨ s.mc.station = .joining
    ∨ s.mc.station = .waiting ∨ s.mc.station = .fenced) : actOnDetached s = changeState .detached s := by
  obtain hs | hs | hs | hs | hs := hs <;> simp only [actOnDetached, hs]

theorem actOnDetached_of_detached (hs : s.mc.station = .detached) : actOnDetached s = resolveFirst .done s := by
  simp only [actOnDetached, hs]

theorem actOnDetached_of_locked (hs : s.mc.station = .monitor ∨ s.mc.station = .fault ∨ s.mc.station = .leaving) :
    actOnDetached s = resolveFirst .locked s := by
  obtain hs | hs | hs := hs <;> simp only [actOnDetached, hs]

/-- A DETACHED stays pending on the way through LEAVING. -/
theorem changeState_leaving_request (s : State) : (changeState .leaving s).mc.request = s.mc.request := by
  rw [changeState_mc, resolveReached, arrived_mc]
  split
  · split <;> simp_all
  · simp

/-- A taken DETACHED is DONE where DETACHED is reached. -/
theorem changeState_detached_request (h : s.mc.request = { first := some .detached, taken := true, behind := false }) :
    (changeState .detached s).mc.request = { first := none, taken := false, behind := false }
      ∧ (changeState .detached s).mc.lastResolution = some (.command .stateRequest (some .detached) .done) := by
  rw [changeState_mc, resolveReached, arrived_mc]
  simp [h, resolveFirst, report, setRequest, PendingRequest.next]

/-- What is empty where a state without claims and HOLDs is entered. -/
theorem changeState_detached_empty (s : State) :
    (changeState .detached s).alloc.share.held = 0 ∧ (changeState .detached s).alloc.claim = none
      ∧ (changeState .detached s).outbox.hold = HoldSlot.empty
          ∧ (changeState .detached s).outbox.claim = ClaimSlot.empty := by
  obtain ⟨held, -, -⟩ := changeState_idle (new := .detached) (by decide) s
  obtain ⟨-, -, claimSlot, -, holdSlot⟩ := discardSlots_answers (new := .detached) (by decide) (turned .detached s)
  have claim := changeState_claim .detached s (by decide) (by decide)
  have quiet := changeState_quiet (s := s) (new := .detached) (by decide) (abandonOutside_claim (by decide) (by simp))
  rw [quiet.outbox, entered_slots]
  exact ⟨held, claim, holdSlot, claimSlot⟩

theorem changeState_leaving_farewell (s : State) :
    (changeState .leaving s).alloc.share.held = 0 ∧ (changeState .leaving s).pilot.requested = 0
      ∧ (changeState .leaving s).alloc.claim = none
      ∧ (changeState .leaving s).outbox.hold = { occupancy := .filled, attempts := 0, inFlight := false, resting :=
          false } := by
  obtain ⟨held, pilot, hold⟩ := changeState_idle (new := .leaving) (by decide) s
  obtain ⟨-, -, -, -, holdSlot⟩ := discardSlots_answers (new := .leaving) (by decide) (turned .leaving s)
  refine ⟨held, ?_, changeState_claim .leaving s (by decide) (by decide), ?_⟩
  · rw [pilot, entered_pilot (by decide)]
  · rw [hold, entered_slots, holdSlot]
    rfl

/-- The events of a DETACHED that cancels a taken ACTIVE. -/
theorem askedDetached_log (ht : s.mc.request.taken = true) (hf : s.mc.request.first = some .active)
    (hnone : s.alloc.claim = none)
    (full : FullTable s) (hsettled : Settled s) (hclear : s.table.overcommit = false) :
    (changeState .detached (askedDetached rest s)).events.log =
      (((s.events.take .commandRefused none none (some 0x9112) s.time.ms).take .stateChanged none none
          (some (BitVec.ofNat 16 (256 * s.mc.station.code + 8))) s.time.ms).take
        .commandDone none none (some 0x9120) s.time.ms).log := by
  obtain ⟨station, identity, request, table, alloc, -, time, -⟩ := askedDetached_kept rest s
  have events := askedDetached_of_cancelled (rest := rest) ht hf
  generalize askedDetached rest s = v at *
  have fine : NoCheckFails v :=
    noCheckFails_congr hsettled.1 (congrArg ShareTable.entries table) station identity
  have fits : sumHeld v ≤ capacity v := by
    rw [sumHeld_congr (s := s) (by rw [table]) station identity (by rw [alloc]), capacity_congr (s := s) identity]
    exact hsettled.fits hclear
  have full' : FullTable v := by rw [FullTable, table]; exact full
  obtain ⟨log, -, -⟩ := arrived_report (s := v) (new := .detached) (by decide) full' fine
      (by rw [table]; exact hclear) fits (by simp)
  have time' : (arrived .detached v).time = v.time := by simp [arrived, turned]
  rw [changeState_report (by decide) full' fine (by rw [table]; exact hclear) fits (by simp),
      resolveReached_detached_log (by simp), log,
    abandonOutside_of_no_claim .detached (by rw [alloc]; exact hnone), time', arrived_mc, events, time, station, request]
  simp [EventUnit.takeIf]
  rfl

/-- Settles O51. -/
theorem stateRequestsAreTaken : Obligations.StateRequestsAreTaken := by
  refine ⟨fun rest s hfifo hs => ⟨fun result kind code h => congrArg Host.Outcome.next ?_, fun ⟨hfrom, hconf⟩ => ?_⟩,
    fun rest s hfifo hs => ⟨fun hactive => ?_, fun hfrom => ?_, fun hlocked hnone => congrArg Host.Outcome.next ?_,
      fun hfrom ht hf hnone full hsettled hclear => ?_⟩⟩
  · obtain ⟨effect, kind', code'⟩ := actOnActive_of_resolved (s := askedActive rest s) h
    subst kind' code'
    exact (stateRequestActiveTaken_of_head hfifo hs).trans (effect.trans (resolveFirst_eq result _))
  · exact ⟨_, congrArg Host.Outcome.next
      ((stateRequestActiveTaken_of_head hfifo hs).trans (actOnActive_of_begins (s := askedActive rest s) hfrom hconf)),
      beginJoin_asked rest s⟩
  · obtain ⟨station, -, request, -, -, -, -, port⟩ := askedDetached_kept rest s
    obtain ⟨held, drive, claim, hold⟩ := changeState_leaving_farewell (askedDetached rest s)
    exact ⟨_, congrArg Host.Outcome.next
      ((stateRequestDetachedTaken_of_head hfifo hs).trans (actOnDetached_of_active (station.trans hactive))), by simp,
      (changeState_leaving_request _).trans request, held, drive, claim, hold, by simpa using port⟩
  · obtain ⟨station, -, request, -, -, -, -, port⟩ := askedDetached_kept rest s
    by_cases hdetached : s.mc.station = .detached
    · refine ⟨_, congrArg Host.Outcome.next
        ((stateRequestDetachedTaken_of_head hfifo hs).trans (actOnDetached_of_detached (station.trans hdetached))),
            station.trans hdetached,
        ?_, ?_, fun hno => absurd hdetached hno, port⟩
      · simp [resolveFirst_eq, request, PendingRequest.next]
      · simp [resolveFirst_eq, request]
    · have leaves : s.mc.station = .offline ∨ s.mc.station = .census ∨ s.mc.station = .joining ∨ s.mc.station = .waiting
          ∨ s.mc.station = .fenced := by simpa [hdetached] using hfrom
      obtain ⟨resolved, last⟩ := changeState_detached_request request
      exact ⟨_, congrArg Host.Outcome.next
        ((stateRequestDetachedTaken_of_head hfifo hs).trans (actOnDetached_of_leaves (station ▸ leaves))), by simp,
            resolved, last,
        fun _ => changeState_detached_empty _, by simpa using port⟩
  · have effect := stateRequestDetachedTaken_of_head hfifo hs
    rw [askedDetached_of_none hnone, actOnDetached_of_locked (by exact hlocked), resolveFirst_eq] at effect
    exact effect
  · obtain ⟨station, -⟩ := askedDetached_kept rest s
    have leaves : s.mc.station = .offline ∨ s.mc.station = .census ∨ s.mc.station = .joining ∨ s.mc.station = .waiting
        ∨ s.mc.station = .fenced := by tauto
    exact ⟨_, congrArg Host.Outcome.next
      ((stateRequestDetachedTaken_of_head hfifo hs).trans (actOnDetached_of_leaves (station ▸ leaves))),
      EventUnit.queue_of_log (askedDetached_log ht hf hnone full hsettled hclear)⟩

end Sys2Proof.Machine
end

section
/-! PROOFS. The parity check of every peer entry (R21, R23, R68). -/

namespace Sys2Proof.Machine

variable {s t u : State} {i j : Nat}

/-! ## What the check reads -/

theorem suspectOnCheck_congr (h : entryAt t i = entryAt s i) : suspectOnCheck t i = suspectOnCheck s i := by
  rw [suspectOnCheck, suspectOnCheck, h]

theorem entryOnCheck_congr (h : entryAt t i = entryAt s i) : entryOnCheck t i = entryOnCheck s i := by
  rw [entryOnCheck, entryOnCheck, suspectOnCheck_congr h, h]

theorem parityEvent_congr (h : entryAt t i = entryAt s i) (htime : t.time.ms = s.time.ms) (v : EventUnit) :
    t.parityEvent i v = s.parityEvent i v := by
  rw [State.parityEvent, State.parityEvent, h, htime]

/-- The check of an entry that is SUSPECT, or whose parity is right, raises nothing. -/
theorem parityEvent_of_fine (h : (entryAt s i).parityGood = true ∨ (entryAt s i).suspect = true) (v : EventUnit) :
    s.parityEvent i v = v := by
  refine if_neg ?_
  rintro ⟨hs, hg⟩
  simp [hs, hg] at h

/-! ## One check -/

theorem entryAt_checkParity (hi : i < s.table.entries.length) (j : Nat) :
    entryAt (checkParity i s) j = if j = i ∧ isPeer s i = true then entryOnCheck s i else entryAt s j := by
  by_cases hj : j = i
  · subst hj
    cases hp : isPeer s j
    · simp [checkParity_of_not_peer hp]
    · simp [entryAt_checkParity_self hp hi]
  · rw [entryAt_checkParity_ne hj, if_neg fun both => hj both.1]

theorem checkParity_events_eq (i : Nat) (s : State) :
    (checkParity i s).events = if isPeer s i = true then s.parityEvent i s.events else s.events := by
  cases hp : isPeer s i
  · rw [checkParity_of_not_peer hp]
    rfl
  · rw [checkParity_events hp]
    rfl

/-! ## The checks one after the other -/

theorem entryAt_foldl_checkParity (l : List Nat) (hl : l.Nodup) (s : State)
    (hin : ∀ i ∈ l, i < s.table.entries.length) (j : Nat) :
    entryAt (l.foldl (fun s i => checkParity i s) s) j =
      if j ∈ l ∧ isPeer s j = true then entryOnCheck s j else entryAt s j := by
  induction l generalizing s with
  | nil => simp
  | cons i l ih =>
    obtain ⟨hnot, hnodup⟩ := List.nodup_cons.1 hl
    have hi := hin i (List.mem_cons_self ..)
    have hin' : ∀ k ∈ l, k < (checkParity i s).table.entries.length := fun k hk => by
      rw [checkParity_length]
      exact hin k (List.mem_cons_of_mem _ hk)
    rw [List.foldl_cons, ih hnodup _ hin', isPeer_checkParity]
    by_cases hj : j = i
    · subst hj
      rw [if_neg fun both => hnot both.1, entryAt_checkParity hi]
      simp
    · have same := entryAt_checkParity_ne (s := s) hj
      rw [entryOnCheck_congr same, same]
      simp [hj]

theorem foldl_checkParity_events (l : List Nat) (hl : l.Nodup) (s : State) :
    (l.foldl (fun s i => checkParity i s) s).events =
      l.foldl (fun u i => if isPeer s i = true then s.parityEvent i u else u) s.events := by
  induction l generalizing s with
  | nil => rfl
  | cons i l ih =>
    obtain ⟨hnot, hnodup⟩ := List.nodup_cons.1 hl
    rw [List.foldl_cons, List.foldl_cons, ih hnodup, checkParity_events_eq]
    refine List.foldl_ext _ _ _ fun u j hj => ?_
    have hne : j ≠ i := fun h => hnot (h ▸ hj)
    rw [isPeer_checkParity, parityEvent_congr (entryAt_checkParity_ne hne) (by simp)]

/-! ## Every peer entry -/

theorem entryAt_checkAllParity (full : FullTable s) (hi : i < 24) :
    entryAt (checkAllParity s) i = if isPeer s i = true then entryOnCheck s i else entryAt s i := by
  have all : ∀ k ∈ List.range 24, k < s.table.entries.length := fun k hk => by
    rw [full]
    exact List.mem_range.1 hk
  refine (entryAt_foldl_checkParity (List.range 24) List.nodup_range s all i).trans ?_
  simp [hi]

theorem checkAllParity_events (s : State) :
    (checkAllParity s).events = (List.range 24).foldl (fun u i =>
        if isPeer s i = true then s.parityEvent i u else u) s.events := by
  have stations : Config.stations = 24 := rfl
  rw [checkAllParity, stations]
  exact foldl_checkParity_events _ List.nodup_range s

theorem checkAllParity_length (s : State) : (checkAllParity s).table.entries.length = s.table.entries.length := by
  rw [checkAllParity]
  exact foldl_keeps (fun s => s.table.entries.length) _ (by intro s a; simp) _ _

/-- No check fails once every peer entry is checked. -/
theorem checkAllParity_noCheckFails (full : FullTable s) : NoCheckFails (checkAllParity s) := by
  intro i hi hp
  have hp' : isPeer s i = true := (isPeer_congr (by simp) (by simp) i).symm.trans hp
  rw [entryAt_checkAllParity full hi, if_pos hp']
  cases hg : (entryAt s i).parityGood <;> simp [entryOnCheck, suspectOnCheck, hg]

/-- The checks raise no sum: a SUSPECT entry does not count. -/
theorem checkAllParity_sumHeld_le (full : FullTable s) : sumHeld (checkAllParity s) ≤ sumHeld s := by
  refine sumHeld_le_of_entries (by simp) (by simp) (by simp) fun i hi => ?_
  rw [entryAt_checkAllParity full hi]
  split
  · exact entryOnCheck_share_le s i
  · exact Nat.le_refl _

end Sys2Proof.Machine
end

section
/-! PROOFS. The snapshot: its request, its taking and its bytes (O47). -/

namespace Sys2Proof.Machine

variable {s t u : State} {i : Nat}

/-! ## A set of stations in three bytes (R193) -/

theorem testBit_setBits (set : List Nat) (n i : Nat) :
    (set.foldl (fun n k => n ||| 2 ^ k) n).testBit i = (n.testBit i || set.contains i) := by
  induction set generalizing n with
  | nil => simp
  | cons k set ih =>
    rw [List.foldl_cons, ih, Nat.testBit_or, Nat.testBit_two_pow, List.contains_cons, Bool.or_assoc]
    congr 2
    rw [Bool.eq_iff_iff, decide_eq_true_iff, beq_iff_eq]
    exact eq_comm

theorem byteOf_shift_getLsbD (n k : Nat) (hi : i < 8) : (byteOf (n / 2 ^ k)).getLsbD i = n.testBit (k + i) := by
  rw [byteOf, BitVec.getLsbD_ofNat, ← Nat.shiftRight_eq_div_pow, Nat.testBit_shiftRight]
  simp [hi]

theorem stationSetBytes_spec (set : List Nat) :
    ∃ high middle low : Byte, stationSetBytes set = [high, middle, low]
      ∧ ∀ i < 8, low.getLsbD i = set.contains i ∧ middle.getLsbD i = set.contains (8 + i)
        ∧ high.getLsbD i = set.contains (16 + i) := by
  have bit := fun i => (testBit_setBits set 0 i).trans (by rw [Nat.zero_testBit, Bool.false_or])
  refine ⟨_, _, _, rfl, fun i hi => ⟨?_, ?_, ?_⟩⟩
  · have low := byteOf_shift_getLsbD (set.foldl (fun n k => n ||| 2 ^ k) 0) 0 hi
    rw [Nat.pow_zero, Nat.div_one, Nat.zero_add] at low
    exact low.trans (bit i)
  · exact (byteOf_shift_getLsbD _ 8 hi).trans (bit (8 + i))
  · exact (byteOf_shift_getLsbD _ 16 hi).trans (bit (16 + i))

theorem claimBytes_length (c : Option ClaimRecord) : (claimBytes c).length = 18 := by cases c <;> rfl

theorem snapshotBytes_length (copy : Snapshot) : copy.bytes.length = 50 := by
  have claim := claimBytes_length copy.claim
  rw [Snapshot.bytes, List.length_append, claim]
  rfl

/-! ## The request (R187) -/

theorem snapshotHeard (h : Hears s [6]) :
    decoded .snapshot snapshotRequest s = snapshotRequest (heardBytes [6] s) :=
  decoded_of_hears (c := .snapshot) snapshotRequest rfl rfl h

theorem snapshotRequest_of_none (h : s.port.snapRequest = .none) :
    snapshotRequest s =
      respond 0x06 .retry [] .none (if s.port.fifo = [] then setPort { s.port with snapRequest := .started } s else s) := by
  simp only [snapshotRequest, h]

theorem snapshotRequest_of_started (h : s.port.snapRequest = .started) :
    snapshotRequest s = respond 0x06 .retry [] .none s := by
  simp only [snapshotRequest, h]

theorem snapshotRequest_of_ready {copy : Snapshot} (h : s.port.snapRequest = .ready) (hc : s.port.snapshot = some copy) :
    snapshotRequest s = respond 0x06 .done copy.bytes .snapshotDelivered s := by
  simp only [snapshotRequest, h, hc, Option.map_some, Option.getD_some]

/-! ## The taking (R21, R23, R24) -/

/-- The table that a snapshot copies: every peer entry checked, the sums settled. -/
def checked (s : State) : State := settle none (checkAllParity s)

theorem snapshotTaken_of_started (hs : s.mc.station ≠ .reset) (hr : s.port.snapRequest = .started) :
    snapshotTaken s = tryStart (keepCopy (checked s)) := if_pos ⟨hs, hr⟩

theorem checked_kept (s : State) :
    (checked s).mc = s.mc ∧ (checked s).pins = s.pins ∧ (checked s).time = s.time ∧ (checked s).port = s.port
      ∧ (checked s).table.nextSnapshot = s.table.nextSnapshot ∧ (checked s).pilot.faultIn = s.pilot.faultIn
      ∧ (checked s).table.entries = (checkAllParity s).table.entries := by
  simp [checked]

theorem entryAt_checked (full : FullTable s) (hi : i < 24) :
    entryAt (checked s) i = if isPeer s i then entryOnCheck s i else entryAt s i := by
  obtain ⟨-, -, -, -, -, -, entries⟩ := checked_kept s
  rw [entryAt_congr entries, entryAt_checkAllParity full hi]

/-- Where no OVERCOMMIT is to be set, the copy finds the own records as they are. -/
theorem checked_alloc (full : FullTable s) (h : s.table.overcommit = true ∨ sumHeld s ≤ capacity s) :
    (checked s).alloc = s.alloc := by
  have same : capacity (checkAllParity s) = capacity s := capacity_congr (by simp)
  have unset : (checkAllParity s).table.overcommit = true ∨ sumHeld (checkAllParity s) ≤ capacity (checkAllParity s) := by
    rw [same]
    exact h.imp (fun h => by simpa using h) (checkAllParity_sumHeld_le full).trans
  exact (settle_quiet_of_unset none unset).alloc.trans (by simp)

theorem views_getElem? (s : State) (hi : i < 24) : (views s)[i]? = some (view s i) := by
  have range : (List.range 24)[i]? = some i := by simp [hi]
  show ((List.range 24).map (view s))[i]? = _
  rw [List.getElem?_map, range]
  rfl

/-- The own entry in the copy, made from the records that the copy holds (R4). -/
theorem ownEntry_eq (s : State) :
    ownEntry s =
      { stored :=
          { status := if s.mc.station = .active ∨ s.mc.station = .leaving then .member else .absent
            held := s.alloc.share.held, floor := s.alloc.share.floor, priority := s.alloc.share.priority
            holdSeq := s.alloc.share.holdSeq
            openClaim := s.alloc.claim.bind (fun c => if c.kind = .increase then some c.number else none)
            earmark := s.alloc.claim.bind (fun c =>
              if c.kind = .increase then some { kind := .increase, number := c.number, amount := c.amount } else none)
            localFault := s.pilot.faultIn, overdrawn := false }
        parityGood := true, age := 0, suspect := false
        expiry := (s.alloc.claim.map (fun c => if c.kind = .floor then 0
          else if c.phase = .sending then 48 else c.deadline)).getD 0 } := by
  unfold ownEntry
  cases hc : s.alloc.claim with
  | none => simp
  | some c => cases hk : c.kind <;> simp [hk, Option.filter, Config.commitDeadline]

/-- What a taken snapshot holds. -/
theorem copyTable_spec (h : UpToDate u) :
    (copyTable u).overcommit = decide (capacity u < (copyTable u).sumHeld)
      ∧ (copyTable u).entries.length = 24
      ∧ (∀ i < 24, isPeer u i = true → (copyTable u).entries[i]? = some (entryAt u i))
      ∧ (∀ i < 24, isPeer u i = false → (copyTable u).entries[i]? = some (ownEntry u)) := by
  refine ⟨?_, by simp [copyTable, views, Config.stations], fun i hi hp => ?_, fun i hi hp => ?_⟩
  · rw [Bool.eq_iff_iff, decide_eq_true_iff]
    exact h.overcommit
  · refine (views_getElem? u hi).trans ?_
    rw [view, if_pos hp]
  · refine (views_getElem? u hi).trans ?_
    rw [view, if_neg (by simp [hp])]

/-- The taking on a table that is checked and settled, whose own entry is that of the own records. -/
theorem keepCopy_spec (u : State) :
    (tryStart (keepCopy u)).port = { u.port with snapRequest := .ready, snapshot := some (copyTable u) }
      ∧ (tryStart (keepCopy u)).table.nextSnapshot = u.table.nextSnapshot + 1
      ∧ (tryStart (keepCopy u)).table.entries = u.table.entries
      ∧ (∃ n, u.alloc.share = { (tryStart (keepCopy u)).alloc.share with claimCounter := n })
      ∧ (tryStart (keepCopy u)).mc = u.mc ∧ (tryStart (keepCopy u)).pins = u.pins
          ∧ (tryStart (keepCopy u)).time = u.time := by
  obtain ⟨n, hn⟩ := tryStart_share (keepCopy u)
  refine ⟨by simp only [tryStart_keeps]; rfl, by simp only [tryStart_keeps]; rfl, by simp only [tryStart_keeps]; rfl,
    ⟨u.alloc.share.claimCounter, ?_⟩, by simp only [tryStart_keeps]; rfl, by simp only [tryStart_keeps]; rfl,
    by simp only [tryStart_keeps]; rfl⟩
  rw [hn]
  rfl

/-- Settles O47. -/
theorem snapshotIsTakenWholeAndDelivered : Obligations.SnapshotIsTakenWholeAndDelivered := by
  refine ⟨fun s h hr => congrArg Host.Outcome.next ?_, fun s h hr => congrArg Host.Outcome.next ?_,
      fun s h hr copy hcopy => ⟨congrArg Host.Outcome.next ?_, snapshotBytes_length copy⟩,
    fun copy => ?_, fun copy => rfl, fun r => rfl, rfl, fun c => rfl, stationSetBytes_spec, fun s hs hr full => ?_,
    fun s h => congrArg Host.Outcome.next ?_⟩
  · refine (snapshotHeard h).trans ((snapshotRequest_of_none (s := heardBytes [6] s) hr).trans ?_)
    by_cases hfifo : s.port.fifo = []
    · rw [if_pos hfifo, if_pos (by exact hfifo)]
      rfl
    · rw [if_neg hfifo, if_neg (by exact hfifo), respond_eq]
      simp only [heardBytes, setPort, hr]
      rfl
  · exact (snapshotHeard h).trans (snapshotRequest_of_started (s := heardBytes [6] s) hr)
  · refine (snapshotHeard h).trans ((snapshotRequest_of_ready (s := heardBytes [6] s) hr hcopy).trans ?_)
    rw [respond_eq, padTo_of_length (n := dataLength 0x06) (snapshotBytes_length copy)]
    rfl
  · simp only [Snapshot.bytes, List.cons_append, List.nil_append, List.append_assoc]
    rfl
  · have effect := snapshotTaken_of_started hs hr
    obtain ⟨mc, pins, time, port, number, faultIn, -⟩ := checked_kept s
    have entry := fun i hi => entryAt_checked (i := i) full hi
    have alloc := checked_alloc full
    have upToDate : UpToDate (checked s) := settle_upToDate none _
    generalize checked s = u at *
    have peer : ∀ i, isPeer u i = isPeer s i := isPeer_congr (by rw [mc]) (by rw [mc])
    have room : capacity u = capacity s := capacity_congr (by rw [mc])
    obtain ⟨port', number', entries', ⟨n, share'⟩, mc', pins', time'⟩ := keepCopy_spec u
    obtain ⟨overcommit, length, peers, own⟩ := copyTable_spec upToDate
    have entryEnd : ∀ i, entryAt (tryStart (keepCopy u)) i = entryAt u i := entryAt_congr entries'
    refine ⟨_, congrArg Host.Outcome.next effect, by rw [port'], number'.trans (by rw [number]),
        fun i hi => (entryEnd i).trans (entry i hi),
      fun copy hcopy => ?_, by rw [port']; rfl, mc'.trans mc, pins'.trans pins, time'.trans time, by rw [port', port]⟩
    obtain rfl : copyTable u = copy := Option.some_inj.1 ((congrArg Port.snapshot port').symm.trans hcopy)
    refine ⟨number, room, congrArg Membership.station mc, length, fun i hi hp => ?_, rfl, rfl, rfl, ?_, ?_, rfl, rfl, ?_,
      fun hunset => ?_, fun i hi hp => ?_⟩
    · rw [entryEnd]
      exact peers i hi ((peer i).trans hp)
    · rw [← room]
      rfl
    · rw [← room]
      exact overcommit
    · have share : (copyTable u).share = u.alloc.share := rfl
      rw [share, share']
    · rw [← alloc hunset]
      exact ⟨rfl, rfl⟩
    · rw [own i hi ((peer i).trans hp), ownEntry_eq, mc, faultIn]
      rfl
  · refine if_neg ?_
    rintro ⟨hs, hr⟩
    exact h.elim hs fun hno => hno hr

end Sys2Proof.Machine
end

section
/-! PROOFS. The immediate requests and the records they carry (O45). -/

namespace Sys2Proof.Machine

variable {s : State}

/-! ## Numbers in bytes -/

theorem quadBytes_toNat (v : Quad) :
    quadBytes v.toNat = [v.extractLsb' 24 8, v.extractLsb' 16 8, v.extractLsb' 8 8, v.extractLsb' 0 8] := by
  have part : ∀ k, byteOf (v.toNat / 2 ^ k) = v.extractLsb' k 8 := fun k => by
    refine BitVec.eq_of_toNat_eq ?_
    rw [byteOf, BitVec.toNat_ofNat, BitVec.extractLsb'_toNat, Nat.shiftRight_eq_div_pow]
  have low := part 0
  rw [Nat.pow_zero, Nat.div_one] at low
  show [byteOf (v.toNat / 2 ^ 24), byteOf (v.toNat / 2 ^ 16), byteOf (v.toNat / 2 ^ 8), byteOf v.toNat] = _
  rw [part, part, part, low]

theorem optHalfBytes_toNat {α : Type} (f : α → Half) (o : Option α) :
    optHalfBytes (o.map (fun a => (f a).toNat)) =
      [((o.map f).getD 0xFFFF).extractLsb' 8 8, ((o.map f).getD 0xFFFF).extractLsb' 0 8] := by
  cases o with
  | none => exact halfBytes_toNat 0xFFFF
  | some a => exact halfBytes_toNat (f a)

/-! ## The status record (R193) -/

theorem statusClaimBytes_eq (c : Option ClaimRecord) :
    statusClaimBytes c =
      [if c.isSome then 1 else 0,
       BitVec.ofNat 8 ((c.map (fun c => claimKindCode c.kind)).getD 0),
       (c.map (fun c => c.number)).getD 0,
       BitVec.ofNat 8 ((c.map (fun c => c.amount / 256)).getD 0),
       BitVec.ofNat 8 ((c.map (fun c => c.amount)).getD 0),
       BitVec.ofNat 8 ((c.map (fun c => c.phase.code)).getD 0),
       BitVec.ofNat 8 ((c.map (fun c => c.roll.length)).getD 0),
       BitVec.ofNat 8 ((c.map (fun c => c.assents.length)).getD 0),
       BitVec.ofNat 8 ((c.map (fun c => c.inFlight.toNat)).getD 0)] := by
  cases c with
  | none => rfl
  | some c => cases h : c.inFlight <;> simp [statusClaimBytes, halfBytes, byteOf, flagByte, h]

theorem statusClaimBytes_length (c : Option ClaimRecord) : (statusClaimBytes c).length = 9 := by
  rw [statusClaimBytes_eq]
  rfl

theorem statusBytes_length (h : s.outbox.answers.length = 4) : (statusBytes s).length = 96 := by
  simp only [statusBytes, List.length_append, statusClaimBytes_length, slotBytes, List.length_map, h]
  rfl

/-- The pieces of the status record that are no plain list of their bytes, written out. -/
theorem statusBytes_parts {a1 a2 a3 a4 : AnswerSlot} (h : s.outbox.answers = [a1, a2, a3, a4]) :
    slotBytes s.outbox =
        [BitVec.ofNat 8 (64 * s.outbox.hold.occupancy.code + 32 * s.outbox.hold.resting.toNat + s.outbox.hold.attempts),
         BitVec.ofNat 8 (64 * s.outbox.claim.occupancy.code + s.outbox.claim.attempts),
         BitVec.ofNat 8 (64 * a1.occupancy.code + a1.attempts), BitVec.ofNat 8 (64 * a2.occupancy.code + a2.attempts),
         BitVec.ofNat 8 (64 * a3.occupancy.code + a3.attempts), BitVec.ofNat 8 (64 * a4.occupancy.code + a4.attempts)] := by
  rw [slotBytes, h]
  rfl

theorem isDemand_eq : QueuedRequest.isDemand = fun q => match q with | .demand _ => true | _ => false := by
  funext q
  cases q <;> rfl

theorem isStateRequest_eq : QueuedRequest.isStateRequest = fun q => match q with | .stateRequest _ => true | _ => false := by
  funext q
  cases q <;> rfl

/-! ## Events and entries (R193) -/

theorem headBytes_length (u : EventUnit) : (headBytes u).length = 10 := by
  unfold headBytes
  split <;> rfl

theorem eventBytes_eq (e : Event) :
    e.bytes =
      [e.seq, BitVec.ofNat 8 e.kind.code,
       BitVec.ofNat 8 (e.kind.cls.number + 16 * e.value.isSome.toNat + 32 * e.claim.isSome.toNat
         + 64 * e.station.isSome.toNat + 128 * e.lossBefore.toNat),
       BitVec.ofNat 8 (e.station.getD 0), e.claim.getD 0, (e.value.getD 0).extractLsb' 8 8,
       (e.value.getD 0).extractLsb' 0 8, e.time.extractLsb' 8 8, e.time.extractLsb' 0 8] := by
  rw [Event.bytes, halfBytes_toNat, halfBytes_toNat]
  rfl

theorem entryBytes_eq (e : Entry) :
    e.bytes =
      [BitVec.ofNat 8 (statusCode e.stored.status), BitVec.ofNat 8 (e.stored.held / 256), BitVec.ofNat 8 e.stored.held,
       BitVec.ofNat 8 e.stored.floor, BitVec.ofNat 8 e.stored.priority, e.stored.holdSeq,
       BitVec.ofNat 8 (e.stored.localFault.toNat + 2 * e.stored.overdrawn.toNat + 4 * e.suspect.toNat
         + 8 * e.stored.openClaim.isSome.toNat),
       e.stored.openClaim.getD 0, BitVec.ofNat 8 e.age,
       (e.stored.earmark.map (fun m => if m.kind = .floor then 1 else 2)).getD 0,
       (e.stored.earmark.map (fun m => m.number)).getD 0,
       BitVec.ofNat 8 ((e.stored.earmark.map (fun m => m.amount)).getD 0 / 256),
       BitVec.ofNat 8 ((e.stored.earmark.map (fun m => m.amount)).getD 0),
       if e.stored.earmark.isSome then BitVec.ofNat 8 e.expiry else 0] := by
  unfold Entry.bytes
  cases hm : e.stored.earmark with
  | none => rfl
  | some m => cases hk : m.kind <;> simp [halfBytes, byteOf, Entry.flags, optByte, earmarkKindCode, claimKindCode, hk]

theorem entryBytes_length (e : Entry) : e.bytes.length = 14 := rfl

/-! ## The answers of the requests -/

/-- A request of fixed length that gives its data whole. -/
theorem respond_whole {command : Byte} {n : Nat} {data : List Byte} (r : ResponseCode) (atEnd : EndEffect)
    (hn : dataLength command = n)
    (h : data.length = n) (s : State) :
    respond command r data atEnd s =
      { s with port := { s.port with transaction := .response, response := r.code :: data, atEnd := atEnd } } := by
  rw [respond_eq, padTo_of_length (h.trans hn.symm)]

theorem acked_has (u : EventUnit) (c : AlertCondition) :
    u.acknowledge.acked.has c = (u.acked.has c || u.active.has c) := by
  cases c <;> rfl

theorem entryRead_of_inside {n : Byte} (h : n.toNat < 24) :
    entryRead n s =
      match s.port.snapshot with
      | none => respond 0x07 .refused [1] .none s
      | some copy => respond 0x07 .done (copy.number :: (copy.entries[n.toNat]?.getD Entry.empty).bytes) .none s :=
  if_neg (Nat.not_le.2 h)

theorem meterRead_of_flag {flag : Byte} (h : flag = 0 ∨ flag = 1) :
    meterRead flag s =
      respond 0x08 .done (quadBytes s.pilot.meter.toNat) (if flag = 1 then .meterClear s.pilot.meter else .none) s := by
  obtain rfl | rfl := h <;> rfl

theorem resolutionCode_eq (c : QueuedCommand) (target : Option Target) (r : CommandResult) :
    (Resolution.command c target r).code =
      BitVec.ofNat 16 (0x8000 + 256 * c.code + 16 * (target.map Target.code).getD 0 + r.code) := by
  cases target with
  | none => rw [Nat.mul_comm 256]; rfl
  | some t => rw [Nat.mul_comm 256, Option.map_some, Option.getD_some, Nat.mul_comm 16]; rfl

theorem feed_of_off (h : s.time.watchdog.interval = 0) : feed s = respond 0x02 .done [0, 0, 0] .none s := by
  rw [feed, feedBytes, if_pos h, if_pos h, h]
  rfl

theorem feed_of_running (h : s.time.watchdog.interval ≠ 0) :
    feed s =
      respond 0x02 .done (halfBytes s.time.watchdog.remaining ++ [byteOf s.time.watchdog.interval]) .none
          (restartWatchdog s) := by
  rw [feed, feedBytes, if_neg h, if_neg h]

/-- Settles O45. -/
theorem immediateRequestsActAtTheDecode : Obligations.ImmediateRequestsActAtTheDecode := by
  refine ⟨fun s => ⟨fun hl h => congrArg Host.Outcome.next ?_, statusBytes_length, fun a1 a2 a3 a4 h => ?_,
    fun h => congrArg Host.Outcome.next ?_, fun h => ?_, fun h => congrArg Host.Outcome.next ?_,
    fun h => congrArg Host.Outcome.next ?_, headBytes_length s.events, fun h => by rw [headBytes, h],
    fun e rest h => by rw [headBytes, h]; rfl,
    fun n h hn => ⟨fun hc => congrArg Host.Outcome.next ?_, fun copy hc => congrArg Host.Outcome.next ?_⟩,
    fun flag h hflag => congrArg Host.Outcome.next ?_, fun h => congrArg Host.Outcome.next ?_⟩,
    fun a => rfl, eventBytes_eq, entryBytes_eq, by decide, by decide, by decide, by decide, by decide, by decide,
        by decide, by decide,
    by decide, by decide, by decide, by decide, by decide, by decide, by decide, fun target => rfl, fun c target r => ?_⟩
  · refine (decoded_of_hears (c := .status) statusRequest rfl rfl h).trans ?_
    exact respond_whole .done .none rfl (statusBytes_length (s := heardBytes [1] s) hl) _
  · have last := optHalfBytes_toNat Resolution.code s.mc.lastResolution
    rw [statusBytes, statusClaimBytes_eq, statusBytes_parts h, membershipBytes, last, timeBytes, halfBytes_toNat, portBytes,
      isDemand_eq, isStateRequest_eq]
    rfl
  · rw [decoded_of_hears (c := .feed) (bytes := [2]) feed rfl rfl h]
    by_cases hoff : s.time.watchdog.interval = 0
    · rw [feed_of_off (s := heardBytes [2] s) hoff, if_pos hoff, if_pos hoff]
      rfl
    · rw [feed_of_running (s := heardBytes [2] s) hoff, if_neg hoff, if_neg hoff]
      rfl
  · exact ⟨_, congrArg Host.Outcome.next (decoded_of_hears (c := .ackAlert) ackAlert rfl rfl h), acked_has s.events,
        rfl, rfl, rfl⟩
  · refine (decoded_of_hears (c := .eventPeek) eventPeek rfl rfl h).trans ?_
    exact respond_whole .done .none rfl (headBytes_length s.events) _
  · refine (decoded_of_hears (c := .eventPop) eventPop rfl rfl h).trans ?_
    exact respond_whole .done .pop rfl (headBytes_length s.events) _
  · refine (decoded_of_hears (c := .entryRead n) (entryRead n) rfl rfl h).trans ((entryRead_of_inside hn).trans ?_)
    simp only [heardBytes, setPort, hc]
    rfl
  · refine (decoded_of_hears (c := .entryRead n) (entryRead n) rfl rfl h).trans ((entryRead_of_inside hn).trans ?_)
    simp only [heardBytes, setPort, hc]
    exact respond_whole .done .none rfl (congrArg (· + 1) (entryBytes_length _)) _
  · refine (decoded_of_hears (c := .meterRead flag) (meterRead flag) rfl rfl h).trans ((meterRead_of_flag hflag).trans ?_)
    rw [quadBytes_toNat]
    exact respond_whole .done _ rfl rfl _
  · exact decoded_of_hears (c := .hardReset) hardReset rfl rfl h
  · exact resolutionCode_eq c target r

end Sys2Proof.Machine
end

section
/-! PROOFS. Transactions of the Local Port, and the pin SDO (O44). -/

namespace Sys2Proof.Machine

variable {s : State} {p : Port} {sdi : List Bool} {shifted n : Nat}

/-! ## Bytes as the port shifts them -/

theorem bitsMsb_length (b : Byte) : (bitsMsb b).length = 8 := rfl

theorem portBits_cons (b : Byte) (bytes : List Byte) : portBits (b :: bytes) = bitsMsb b ++ portBits bytes := rfl

theorem portBits_append (a b : List Byte) : portBits (a ++ b) = portBits a ++ portBits b := List.flatMap_append

theorem bitsLsb_byteOfBits {bits : List Bool} (h : bits.length = 8) : bitsLsb (byteOfBits bits) = bits := by
  refine List.ext_getElem (by rw [length_bitsLsb, h]) fun i hi hb => ?_
  have small : i < 8 := by rwa [length_bitsLsb] at hi
  simp only [bitsLsb_eq_map, List.getElem_map, List.getElem_range, getLsbD_byteOfBits, small, decide_true, Bool.true_and]
  exact List.getD_eq_getElem _ _ hb

theorem portBits_byteOfPortBits {bits : List Bool} (h : bits.length = 8) : portBits [byteOfPortBits bits] = bits := by
  show (bitsLsb (byteOfBits bits.reverse)).reverse ++ [] = bits
  rw [bitsLsb_byteOfBits (by simpa using h), List.reverse_reverse, List.append_nil]

theorem bitsMsb_getElem? (b : Byte) (h : n < 8) : (bitsMsb b)[n]? = some (b.getLsbD (7 - n)) := by
  interval_cases n <;> rfl

/-- A bit of a sequence of bytes, and nothing behind them. -/
theorem portBits_getElem? (bytes : List Byte) (n : Nat) :
    (portBits bytes)[n]?.getD false = (bytes[n / 8]?.getD 0).getLsbD (7 - n % 8) := by
  induction bytes generalizing n with
  | nil => simp [portBits]
  | cons b bytes ih =>
    rw [portBits_cons]
    by_cases hn : n < 8
    · have first : n / 8 = 0 := Nat.div_eq_of_lt hn
      rw [List.getElem?_append_left (by rwa [bitsMsb_length]), bitsMsb_getElem? b hn, first, Nat.mod_eq_of_lt hn]
      rfl
    · obtain ⟨m, rfl⟩ : ∃ m, n = m + 8 := ⟨n - 8, by omega⟩
      rw [List.getElem?_append_right (by rw [bitsMsb_length]; omega), bitsMsb_length, Nat.add_sub_cancel, ih,
          Nat.add_mod_right,
        Nat.add_div_right m (by decide), List.getElem?_cons_succ]

/-! ## The bits of a request (R177) -/

/-- The port takes bits of a request that is not complete. -/
def Port.Collects (p : Port) : Prop := p.bits.length < 8 ∧ requestOf p.request = none

theorem takeBit_taken (h : p.bits.length < 8) (b : Bool) : (p.takeBit b).taken = p.taken ++ [b] := by
  unfold Port.takeBit
  split
  · exact (List.append_assoc ..).symm
  · have whole : (p.bits ++ [b]).length = 8 := by
      rw [List.length_append, List.length_singleton]
      omega
    simp only [Port.taken, portBits_append, portBits_byteOfPortBits whole, List.append_nil, List.append_assoc]

theorem takeBit_collects (h : p.Collects) {b : Bool} (hb : p.completes b = false) : (p.takeBit b).Collects := by
  obtain ⟨hlength, hnone⟩ := h
  unfold Port.completes at hb
  unfold Port.takeBit at hb ⊢
  split at hb
  · rename_i hlt
    rw [if_pos hlt]
    refine ⟨?_, hnone⟩
    simp only [List.length_append, List.length_singleton]
    omega
  · rename_i hge
    rw [if_neg hge]
    exact ⟨by simp, by simpa using hb⟩

theorem takeBit_of_completes {b : Bool} (h : p.completes b = true) :
    (p.takeBit b).bits = [] ∧ requestOf (p.takeBit b).request ≠ none := by
  unfold Port.completes at h
  obtain ⟨hbits, hsome⟩ := (Bool.and_eq_true _ _).mp h
  exact ⟨List.isEmpty_iff.1 hbits, Option.isSome_iff_ne_none.1 hsome⟩

/-- All bits are taken, or all up to the one that completes a request. -/
theorem shiftIn_spec (sdi : List Bool) (h : p.Collects) :
    (p.shiftIn sdi).Collects
      ∧ ((p.shiftIn sdi).taken = p.taken ++ sdi
        ∨ ∃ b bytes, (p.shiftIn sdi).taken ++ [b] = portBits bytes ∧ portBits bytes <+: p.taken ++ sdi
            ∧ requestOf bytes ≠ none) := by
  induction sdi generalizing p with
  | nil => exact ⟨h, .inl (List.append_nil _).symm⟩
  | cons b rest ih =>
    have taken := takeBit_taken h.1 b
    cases hb : p.completes b with
    | true =>
      have stops : p.shiftIn (b :: rest) = p := if_pos hb
      obtain ⟨hbits, hsome⟩ := takeBit_of_completes hb
      have whole : portBits (p.takeBit b).request = p.taken ++ [b] := by
        rw [← taken, Port.taken, hbits, List.append_nil]
      rw [stops]
      refine ⟨h, .inr ⟨b, (p.takeBit b).request, whole.symm, ?_, hsome⟩⟩
      rw [whole]
      exact ⟨rest, by simp⟩
    | false =>
      have goes : p.shiftIn (b :: rest) = (p.takeBit b).shiftIn rest := if_neg (by simp [hb])
      have spec := ih (takeBit_collects h hb)
      rw [taken, List.append_assoc, List.singleton_append] at spec
      rw [goes]
      exact spec

theorem takeBit_kept (p : Port) (b : Bool) : { p.takeBit b with request := p.request, bits := p.bits } = p := by
  unfold Port.takeBit
  split <;> rfl

theorem shiftIn_kept (p : Port) (sdi : List Bool) : { p.shiftIn sdi with request := p.request, bits := p.bits } = p := by
  induction sdi generalizing p with
  | nil => rfl
  | cons b rest ih =>
    unfold Port.shiftIn
    split
    · rfl
    · have kept := ih (p.takeBit b)
      have one := takeBit_kept p b
      generalize (p.takeBit b).shiftIn rest = q at *
      rw [← one, ← kept]

/-! ## The start of a transaction -/

/-- The port at the start of a transaction, before any bit. -/
def Port.opened (p : Port) : Port :=
  { p with transaction := .request, request := [], bits := [], response := [], atEnd := .none }

theorem Port.opened_collects (p : Port) : p.opened.Collects := ⟨by simp [Port.opened], rfl⟩

theorem transactionStart_of_idle (hs : s.mc.station ≠ .reset) (hsel : s.pins.selN = true)
    (hidle : s.port.transaction = .idle) :
    transactionStart s =
      { s with
        pins := { s.pins with selN := false, sdi := s.pins.sdi.tail }
        port := s.port.opened.shiftIn (s.pins.sdi.headD []) } := by
  rw [transactionStart, if_pos hsel]
  exact if_pos ⟨hs, hidle⟩

theorem transactionStart_of_closed (h : s.mc.station = .reset ∨ s.port.transaction ≠ .idle) (hsel : s.pins.selN = true) :
    transactionStart s = { s with pins := { s.pins with selN := false, sdi := s.pins.sdi.tail } } := by
  rw [transactionStart, if_pos hsel]
  refine if_neg ?_
  rintro ⟨hs, hidle⟩
  exact h.elim hs fun hno => hno hidle

/-! ## The end of a transaction -/

theorem transactionEnd_of_low (hsel : s.pins.selN = false) :
    transactionEnd shifted s = endTransaction shifted { s with pins := { s.pins with selN := true } } :=
  if_neg (by simp [hsel])

theorem transactionEnd_of_high (hsel : s.pins.selN = true) : transactionEnd shifted s = s := if_pos hsel

theorem endTransaction_of_reset (hs : s.mc.station = .reset) : endTransaction shifted s = s := if_pos hs

theorem endTransaction_of_unanswered (hs : s.mc.station ≠ .reset) (ht : s.port.transaction ≠ .response) :
    endTransaction shifted s = toIdle s := by
  rw [endTransaction, if_neg hs]
  split
  · rename_i h
    exact absurd h ht
  · rfl

theorem endTransaction_of_response (hs : s.mc.station ≠ .reset) (ht : s.port.transaction = .response)
    (he : s.port.atEnd ≠ .hardReset) :
    endTransaction shifted s =
      if 8 * s.port.response.length ≤ shifted then toIdle (wholeEffect s.port.atEnd s) else toIdle
          (brokenEffect s.port.atEnd s) := by
  rw [endTransaction, if_neg hs]
  simp only [ht]
  exact if_neg he

theorem transactionEnd_of_whole (hs : s.mc.station ≠ .reset) (hsel : s.pins.selN = false)
    (ht : s.port.transaction = .response)
    (hle : 8 * s.port.response.length ≤ shifted) {e : EndEffect} (he : s.port.atEnd = e) (hr : e ≠ .hardReset) :
    transactionEnd shifted s = toIdle (wholeEffect e { s with pins := { s.pins with selN := true } }) := by
  subst he
  rw [transactionEnd_of_low hsel, endTransaction_of_response (by exact hs) (by exact ht) (by exact hr)]
  exact if_pos hle

theorem transactionEnd_of_broken (hs : s.mc.station ≠ .reset) (hsel : s.pins.selN = false)
    (ht : s.port.transaction = .response)
    (hlt : shifted < 8 * s.port.response.length) (hr : s.port.atEnd ≠ .hardReset) :
    transactionEnd shifted s = toIdle (brokenEffect s.port.atEnd { s with pins := { s.pins with selN := true } }) := by
  rw [transactionEnd_of_low hsel, endTransaction_of_response (by exact hs) (by exact ht) (by exact hr)]
  exact if_neg (Nat.not_le.2 hlt)

/-- The end of a pop (R172). -/
theorem finishPop_spec (u : EventUnit) :
    u.finishPop.popping = none
      ∧ (∀ n, u.popping = some n → ∀ e, u.queue.head? = some e →
          (e.seq = n → u.finishPop.queue = u.queue.tail)
            ∧ (e.seq ≠ n → e.seq = n + 1 → u.finishPop.queue = { e with lossBefore := false } :: u.queue.tail)
            ∧ (e.seq ≠ n → e.seq ≠ n + 1 → u.finishPop.queue = u.queue))
      ∧ ((u.popping = none ∨ u.queue = []) → u.finishPop.queue = u.queue)
      ∧ { u.finishPop with queue := u.queue, popping := u.popping } = u := by
  obtain ⟨queue, nextSeq, filter, steering, active, acked, popping⟩ := u
  cases popping with
  | none => simp [EventUnit.finishPop]
  | some n =>
    cases queue with
    | nil => simp [EventUnit.finishPop]
    | cons e rest =>
      by_cases hn : e.seq = n
      · simp [EventUnit.finishPop, hn]
      · by_cases hnext : e.seq = n + 1#8
        · simp [EventUnit.finishPop, hnext]
        · simp [EventUnit.finishPop, hn, hnext]

/-! ## SDO -/

theorem sdo_of_released (h : s.mc.station = .reset ∨ s.pins.selN = true ∨ s.port.transaction
    = .idle ∨ s.port.transaction = .ignore) :
    sdo s n = .highImpedance := by
  unfold sdo
  split
  · rfl
  · rename_i hno
    obtain hidle | hignore : s.port.transaction = .idle ∨ s.port.transaction = .ignore := by tauto
    · simp only [hidle]
    · simp only [hignore]

theorem sdo_of_selected (hs : s.mc.station ≠ .reset) (hsel : s.pins.selN = false) :
    sdo s n =
      match s.port.transaction, n with
      | .idle, _ | .ignore, _ => .highImpedance
      | .request, _ | .response, 0 => .driven (Config.sdoBeforeResponse s.port.taken.length)
      | .response, n + 1 => .driven ((portBits s.port.response)[n]?.getD false) :=
  if_neg (by simp [hs, hsel])

/-- Settles O44. -/
theorem transactionsBeginAndEnd : Obligations.TransactionsBeginAndEnd := by
  refine ⟨fun sdi s hsdi hs hsel hidle => ?_, fun s h hsel => congrArg Host.Outcome.next (transactionStart_of_closed h hsel),
    fun s hs shifted => congrArg Host.Outcome.next ?_,
    fun s => ⟨fun hsel => congrArg Host.Outcome.next (if_neg (by simp [hsel])),
      fun hsel shifted => congrArg Host.Outcome.next (transactionEnd_of_high hsel)⟩,
    fun shifted s hs hsel ht => congrArg Host.Outcome.next ?_,
        fun shifted s hs hsel ht hlt hr => congrArg Host.Outcome.next ?_,
    fun shifted s hs hsel ht hle => ⟨fun he => congrArg Host.Outcome.next
        (transactionEnd_of_whole hs hsel ht hle he (by simp)),
      fun captured he => congrArg Host.Outcome.next (transactionEnd_of_whole hs hsel ht hle he (by simp)),
      fun he => congrArg Host.Outcome.next (transactionEnd_of_whole hs hsel ht hle he (by simp)), fun he => ?_⟩,
    fun n s => ⟨sdo_of_released, fun hs hsel => ⟨fun ht => ?_, fun ht => ?_⟩⟩⟩
  · subst hsdi
    obtain ⟨⟨hlength, hnone⟩, htaken⟩ := shiftIn_spec (s.pins.sdi.headD []) s.port.opened_collects
    have kept := shiftIn_kept s.port.opened (s.pins.sdi.headD [])
    refine ⟨_, congrArg Host.Outcome.next (transactionStart_of_idle hs hsel hidle), congrArg Port.transaction kept,
      congrArg Port.response kept, congrArg Port.atEnd kept, hlength, hnone, htaken, rfl, rfl, (congrArg Port.fifo kept :),
      (congrArg Port.snapRequest kept :), (congrArg Port.snapshot kept :)⟩
  · cases hsel : s.pins.selN with
    | true =>
      rw [transactionEnd_of_high hsel, ← hsel]
    | false => exact (transactionEnd_of_low hsel).trans (endTransaction_of_reset hs)
  · exact (transactionEnd_of_low hsel).trans (endTransaction_of_unanswered hs ht)
  · refine (transactionEnd_of_broken hs hsel ht hlt hr).trans ?_
    cases he : s.port.atEnd <;> rfl
  · obtain ⟨popping, popped, unpopped, kept⟩ := finishPop_spec s.events
    exact ⟨_, congrArg Host.Outcome.next (transactionEnd_of_whole hs hsel ht hle he (by simp)), popping, popped,
        unpopped, rfl, rfl, rfl,
      kept⟩
  · rw [sdo_of_selected hs hsel, ← portBits_getElem?]
    simp only [ht]
  · rw [sdo_of_selected hs hsel]
    obtain ht | ⟨ht, rfl⟩ := ht
    · exact ⟨Config.sdoBeforeResponse s.port.taken.length, by simp only [ht]⟩
    · exact ⟨Config.sdoBeforeResponse s.port.taken.length, by simp only [ht]⟩

end Sys2Proof.Machine
end

section
/-! PROOFS. The lease boundary at the Share Table (O9). -/

namespace Sys2Proof.Machine

variable {s t u v : State} {i j : Nat} {e : Entry} {c d x : ClaimRecord} {P Q : Nat → Prop}

/-! ## The roll of the own claim (R56) -/

/-- The stations of a set struck off the roll of a claim, which may cover it. -/
structure Struck (P : Nat → Prop) (c d : ClaimRecord) : Prop where
  roll : ∀ i, i ∈ d.roll ↔ i ∈ c.roll ∧ ¬P i
  assents : ∀ i ∈ d.roll, (i ∈ d.assents ↔ i ∈ c.assents)
  phase : d.phase = c.phase ∨ (c.phase = .awaiting ∧ d.phase = .committing)
  commits : (∃ i ∈ c.roll, P i) → c.phase = .awaiting → (∀ i ∈ d.roll, i ∈ c.assents) → d.phase = .committing

theorem Struck.refl (h : ∀ i, ¬P i) (c : ClaimRecord) : Struck P c c where
  roll i := by simp [h i]
  assents _ _ := Iff.rfl
  phase := .inl rfl
  commits := fun ⟨i, _, hp⟩ => absurd hp (h i)

theorem Struck.congr (h : Struck P c d) (hPQ : ∀ i, P i ↔ Q i) : Struck Q c d := by
  obtain rfl : P = Q := funext fun i => propext (hPQ i)
  exact h

theorem Struck.trans (h : Struck P c x) (h' : Struck Q x d) : Struck (fun i => P i ∨ Q i) c d where
  roll i := by rw [h'.roll, h.roll, not_or, and_assoc]
  assents i hi := by
    have kept : i ∈ x.roll := ((h'.roll i).1 hi).1
    rw [h'.assents i hi, h.assents i kept]
  phase := by
    obtain same | ⟨before, after⟩ := h.phase
    · rw [← same]
      exact h'.phase
    · obtain same | ⟨awaiting, -⟩ := h'.phase
      · exact .inr ⟨before, same.trans after⟩
      · rw [after] at awaiting
        cases awaiting
  commits := by
    rintro ⟨i, hi, hfalls⟩ hphase hall
    obtain awaiting | ⟨-, committing⟩ := h.phase
    · rw [hphase] at awaiting
      by_cases second : ∃ k ∈ x.roll, Q k
      · exact h'.commits second awaiting fun k hk => (h.assents k ((h'.roll k).1 hk).1).2 (hall k hk)
      · have stays : ∀ k ∈ x.roll, k ∈ d.roll := fun k hk => (h'.roll k).2 ⟨hk, fun hq => second ⟨k, hk, hq⟩⟩
        have first : P i := by
          by_contra hnot
          exact second ⟨i, (h.roll i).2 ⟨hi, hnot⟩, hfalls.resolve_left hnot⟩
        have committing := h.commits ⟨i, hi, first⟩ hphase fun k hk => hall k (stays k hk)
        rw [awaiting] at committing
        cases committing
    · obtain same | ⟨awaiting, -⟩ := h'.phase
      · exact same.trans committing
      · rw [committing] at awaiting
        cases awaiting

theorem strikeOff_struck (i : Nat) (hc : s.alloc.claim = some c) :
    ∃ d, (strikeOff i s).alloc.claim = some d ∧ Struck (fun k => k = i) c d := by
  by_cases hi : i ∈ c.roll
  · have claim := commitIfCovered_claim (s := setClaim (some (c.strike i)) s) (c := c.strike i) rfl
    rw [strikeOff_of_listed hc hi, claim]
    have roll : ∀ k, k ∈ (c.strike i).roll ↔ k ∈ c.roll ∧ ¬k = i := fun k => by simp [ClaimRecord.strike]
    have assents : ∀ k ∈ (c.strike i).roll, (k ∈ (c.strike i).assents ↔ k ∈ c.assents) := fun k hk => by
      have hne : k ≠ i := ((roll k).1 hk).2
      simp [ClaimRecord.strike, hne]
    by_cases hcov : (c.strike i).phase = .awaiting ∧ (c.strike i).covered = true
    · rw [if_pos hcov]
      exact ⟨_, rfl, roll, assents, .inr ⟨hcov.1, rfl⟩, fun _ _ _ => rfl⟩
    · rw [if_neg hcov]
      refine ⟨_, rfl, roll, assents, .inl rfl, fun _ hphase hall => absurd ⟨hphase, List.all_eq_true.2 fun k hk => ?_⟩ hcov⟩
      simpa using (assents k hk).2 (hall k hk)
  · rw [strikeOff_of_other hc hi]
    refine ⟨c, hc, fun k => ⟨fun hk => ⟨hk, fun h => hi (h ▸ hk)⟩, And.left⟩, fun _ _ => Iff.rfl, .inl rfl, ?_⟩
    rintro ⟨k, hk, rfl⟩
    exact absurd hk hi

/-! ## One entry (R17 to R19) -/

/-- A checked entry at a lease boundary. -/
def Entry.aged (e : Entry) : Entry :=
  if e.ages then
    if 7 ≤ e.age then e.returnAbsent true
    else if 3 ≤ e.age ∧ e.suspect = false ∧ e.stored.status = .member then e.silenced
    else e.older
  else e

/-- A checked entry becomes SILENT or ABSENT at a lease boundary. -/
def Entry.falls (e : Entry) : Prop :=
  e.ages = true ∧ (7 ≤ e.age ∨ (3 ≤ e.age ∧ e.suspect = false ∧ e.stored.status = .member))

theorem Entry.aged_of_kept (h : e.ages ≠ true) : e.aged = e := if_neg h

theorem Entry.aged_of_absent (h : e.ages = true) (h7 : 7 ≤ e.age) : e.aged = e.returnAbsent true :=
  (if_pos h).trans (if_pos h7)

theorem Entry.aged_of_silent (h : e.ages = true) (h7 : ¬7 ≤ e.age)
    (hm : 3 ≤ e.age ∧ e.suspect = false ∧ e.stored.status = .member) :
    e.aged = e.silenced :=
  (if_pos h).trans ((if_neg h7).trans (if_pos hm))

theorem Entry.aged_of_older (h : e.ages = true) (h7 : ¬7 ≤ e.age)
    (hm : ¬(3 ≤ e.age ∧ e.suspect = false ∧ e.stored.status = .member)) : e.aged = e.older :=
  (if_pos h).trans ((if_neg h7).trans (if_neg hm))

theorem Entry.aged_share_le (e : Entry) : e.aged.share ≤ e.share := by
  unfold Entry.aged
  split
  · split
    · rw [Entry.returnAbsent_share]
      exact Nat.zero_le _
    · split
      · rename_i hmember
        obtain ⟨-, hs, hm⟩ := hmember
        simp [Entry.share, Entry.valid, Entry.silenced, Entry.write, hs, hm]
      · exact Nat.le_refl _
  · exact Nat.le_refl _

/-- What the ageing of a checked entry does, case by case. -/
inductive AgedAs (i : Nat) (e : Entry) (v : State) : State → Prop
  | kept (h : e.ages = false) : AgedAs i e v v
  | released (h : e.ages = true) (ha : 7 ≤ e.age) : AgedAs i e v (releaseEntry i e v)
  | silenced (h : e.ages = true) (ha : ¬7 ≤ e.age) (hm : 3 ≤ e.age ∧ e.suspect = false ∧ e.stored.status = .member) :
      AgedAs i e v (silenceEntry i e v)
  | older (h : e.ages = true) (ha : ¬7 ≤ e.age) (hm : ¬(3 ≤ e.age ∧ e.suspect = false ∧ e.stored.status = .member)) :
      AgedAs i e v (modEntry i Entry.older v)

theorem ageBy_agedAs (i : Nat) (e : Entry) (v : State) : AgedAs i e v (ageBy i e v) := by
  have absent : Config.absentAge ≤ e.age + 1 ↔ 7 ≤ e.age := Nat.succ_le_succ_iff
  have silent : Config.silentAge ≤ e.age + 1 ↔ 3 ≤ e.age := Nat.succ_le_succ_iff
  unfold ageBy
  simp only [absent, silent]
  split
  · rename_i h
    split
    · exact .released h ‹_›
    · split
      · exact .silenced h ‹_› ‹_›
      · exact .older h ‹_› ‹_›
  · exact .kept (by simpa using ‹¬e.ages = true›)

theorem releaseEntry_entries (i : Nat) (e : Entry) (v : State) :
    (releaseEntry i e v).table.entries = (modEntry i (Entry.returnAbsent true) v).table.entries := by
  simp [releaseEntry, modEntry]

theorem silenceEntry_entries (i : Nat) (e : Entry) (v : State) :
    (silenceEntry i e v).table.entries = (modEntry i Entry.silenced v).table.entries := by
  simp [silenceEntry]

theorem AgedAs.entry (h : AgedAs i (entryAt v i) v u) (hi : i < v.table.entries.length) :
    entryAt u i = (entryAt v i).aged ∧ (∀ j, j ≠ i → entryAt u j = entryAt v j)
        ∧ u.table.entries.length = v.table.entries.length := by
  unfold Entry.aged
  cases h with
  | kept h => simp [h]
  | released h ha =>
    have entries := releaseEntry_entries i (entryAt v i) v
    refine ⟨?_, fun j hj => ?_, by rw [entries, modEntry_length]⟩
    · rw [if_pos h, if_pos ha, entryAt_congr entries, entryAt_modEntry_self _ hi]
    · rw [entryAt_congr entries, entryAt_modEntry_ne _ hj]
  | silenced h ha hm =>
    have entries := silenceEntry_entries i (entryAt v i) v
    refine ⟨?_, fun j hj => ?_, by rw [entries, modEntry_length]⟩
    · rw [if_pos h, if_neg ha, if_pos hm, entryAt_congr entries, entryAt_modEntry_self _ hi]
    · rw [entryAt_congr entries, entryAt_modEntry_ne _ hj]
  | older h ha hm =>
    refine ⟨?_, fun j hj => entryAt_modEntry_ne _ hj, modEntry_length ..⟩
    rw [if_pos h, if_neg ha, if_neg hm, entryAt_modEntry_self _ hi]

theorem AgedAs.events (h : AgedAs i e v u) :
    u.events =
      if e.ages then
        if 7 ≤ e.age then v.events.take .peerAbsent (some i) none (some (valueOf e.counted)) v.time.ms
        else if 3 ≤ e.age ∧ e.suspect = false ∧ e.stored.status = .member then
          v.events.take .peerSilent (some i) none (some (valueOf e.stored.held)) v.time.ms
        else v.events
      else v.events := by
  cases h with
  | kept h => simp [h]
  | released h ha =>
    rw [if_pos h, if_pos ha]
    simp [releaseEntry, raise]
  | silenced h ha hm =>
    rw [if_pos h, if_neg ha, if_pos hm]
    simp [silenceEntry, raise]
  | older h ha hm =>
    rw [if_pos h, if_neg ha, if_neg hm]
    rfl

theorem AgedAs.claim (h : AgedAs i e v u) (hc : v.alloc.claim = some c) :
    ∃ d, u.alloc.claim = some d ∧ Struck (fun k => k = i ∧ e.falls) c d := by
  cases h with
  | kept h => exact ⟨c, hc, .refl (fun k hk => by simp [Entry.falls, h] at hk) c⟩
  | released h ha =>
    obtain ⟨d, hd, struck⟩ := strikeOff_struck i (c := c)
      (s := withdrawFor i e.stored.earmark (modEntry i (Entry.returnAbsent true)
        (raise .peerAbsent (some i) none (some (valueOf e.counted)) v))) (by simpa using hc)
    exact ⟨d, hd, struck.congr fun k => ⟨fun hk => ⟨hk, h, .inl ha⟩, And.left⟩⟩
  | silenced h ha hm =>
    obtain ⟨d, hd, struck⟩ := strikeOff_struck i (c := c)
      (s := raise .peerSilent (some i) none (some (valueOf e.stored.held)) (modEntry i Entry.silenced v)) (by simpa using hc)
    exact ⟨d, hd, struck.congr fun k => ⟨fun hk => ⟨hk, h, .inr hm⟩, And.left⟩⟩
  | older h ha hm =>
    refine ⟨c, hc, .refl (fun k hk => ?_) c⟩
    obtain ⟨-, -, hfalls⟩ := hk
    exact hfalls.elim ha hm

/-! ## The entry of one station -/

/-- The entry for a number after the lease boundary. -/
def entryAged (s : State) (i : Nat) : Entry := if isPeer s i = true then (entryOnCheck s i).aged else entryAt s i

theorem entryOnCheck_ages (s : State) (i : Nat) :
    (entryOnCheck s i).ages = true
      ↔ suspectOnCheck s i = true ∨ (entryAt s i).stored.status = .member ∨ (entryAt s i).stored.status = .silent := by
  simp [Entry.ages, entryOnCheck, or_assoc]

theorem fallsAtBoundary_iff (s : State) (i : Nat) : FallsAtBoundary s i ↔ isPeer s i = true ∧ (entryOnCheck s i).falls := by
  rw [Entry.falls, entryOnCheck_ages]
  rfl

theorem ageEntry_of_not_peer (h : isPeer s i = false) : ageEntry i s = s := if_neg (by simp [h])

/-- A peer entry at the lease boundary: the check, then the ageing of the checked entry. -/
theorem ageEntry_agedAs (hp : isPeer s i = true) (hi : i < s.table.entries.length) :
    AgedAs i (entryAt (checkParity i s) i) (checkParity i s) (ageEntry i s)
        ∧ entryAt (checkParity i s) i = entryOnCheck s i := by
  have effect : ageEntry i s = ageBy i (entryAt (checkParity i s) i) (checkParity i s) := if_pos hp
  rw [effect]
  exact ⟨ageBy_agedAs .., entryAt_checkParity_self hp hi⟩

theorem ageEntry_entries (hi : i < s.table.entries.length) :
    entryAt (ageEntry i s) i = entryAged s i ∧ (∀ j, j ≠ i → entryAt (ageEntry i s) j = entryAt s j)
      ∧ (ageEntry i s).table.entries.length = s.table.entries.length := by
  cases hp : isPeer s i with
  | false =>
    rw [ageEntry_of_not_peer hp, entryAged, hp]
    exact ⟨rfl, fun _ _ => rfl, rfl⟩
  | true =>
    obtain ⟨as, checked⟩ := ageEntry_agedAs hp hi
    obtain ⟨own, other, length⟩ := as.entry (by rwa [checkParity_length])
    refine ⟨by rw [own, checked, entryAged, if_pos hp], fun j hj => ?_, length.trans (checkParity_length i s)⟩
    rw [other j hj, entryAt_checkParity_ne hj]

theorem fine_of_not_suspect (h : suspectOnCheck s i = false) :
    (entryAt s i).parityGood = true ∧ (entryAt s i).suspect = false := by
  obtain ⟨suspect, good⟩ := (Bool.or_eq_false_iff).1 h
  exact ⟨by simpa using good, suspect⟩

theorem parityEvent_of_not_suspect (h : suspectOnCheck s i = false) (w : EventUnit) : s.parityEvent i w = w :=
  parityEvent_of_fine (.inl (fine_of_not_suspect h).1) w

theorem ageEntry_events (hi : i < s.table.entries.length) : (ageEntry i s).events = s.boundaryEvent i s.events := by
  cases hp : isPeer s i with
  | false => rw [ageEntry_of_not_peer hp, State.boundaryEvent, if_pos hp]
  | true =>
    obtain ⟨as, checked⟩ := ageEntry_agedAs hp hi
    rw [checked] at as
    have time : (checkParity i s).time = s.time := by simp
    have events := as.events
    rw [checkParity_events hp, time] at events
    rw [State.boundaryEvent, if_neg (c := isPeer s i = false) (by simp [hp])]
    by_cases hages : (entryOnCheck s i).ages = true
    · have ages := (entryOnCheck_ages s i).1 hages
      have worked := events.trans (if_pos hages)
      by_cases h7 : 7 ≤ (entryAt s i).age
      · rw [if_pos ⟨h7, ages⟩]
        exact worked.trans (if_pos h7)
      · rw [if_neg fun both => h7 both.1]
        by_cases hm : 3 ≤ (entryAt s i).age ∧ suspectOnCheck s i = false ∧ (entryAt s i).stored.status = .member
        · rw [if_pos hm, ← parityEvent_of_not_suspect hm.2.1 s.events]
          exact worked.trans ((if_neg h7).trans (if_pos hm))
        · rw [if_neg hm]
          exact worked.trans ((if_neg h7).trans (if_neg hm))
    · have still := fun h => hages ((entryOnCheck_ages s i).2 h)
      rw [if_neg fun both => still both.2, if_neg fun both => still (.inr (.inl both.2.2))]
      exact events.trans (if_neg hages)

theorem ageEntry_claim (hi : i < s.table.entries.length) (hc : s.alloc.claim = some c) :
    ∃ d, (ageEntry i s).alloc.claim = some d ∧ Struck (fun k => k = i ∧ FallsAtBoundary s k) c d := by
  cases hp : isPeer s i with
  | false =>
    rw [ageEntry_of_not_peer hp]
    refine ⟨c, hc, .refl (fun k hk => ?_) c⟩
    obtain ⟨rfl, peer, -⟩ := hk
    rw [hp] at peer
    cases peer
  | true =>
    obtain ⟨as, checked⟩ := ageEntry_agedAs hp hi
    obtain ⟨d, hd, struck⟩ := as.claim (c := c) (by simpa using hc)
    refine ⟨d, hd, struck.congr fun k => and_congr_right ?_⟩
    rintro rfl
    rw [fallsAtBoundary_iff, checked]
    exact (and_iff_right hp).symm

/-! ## The entries one after the other -/

theorem boundaryEvent_congr (h : entryAt t i = entryAt s i) (hp : isPeer t i = isPeer s i) (htime : t.time.ms = s.time.ms)
    (w : EventUnit) : t.boundaryEvent i w = s.boundaryEvent i w := by
  simp only [State.boundaryEvent, h, hp, htime, suspectOnCheck_congr h, parityEvent_congr h htime]

theorem fallsAtBoundary_congr (h : entryAt t i = entryAt s i) (hp : isPeer t i = isPeer s i) :
    FallsAtBoundary t i ↔ FallsAtBoundary s i := by
  simp only [FallsAtBoundary, h, hp, suspectOnCheck_congr h]

theorem entryAged_congr (h : entryAt t i = entryAt s i) (hp : isPeer t i = isPeer s i) : entryAged t i = entryAged s i := by
  simp only [entryAged, h, hp, entryOnCheck_congr h]

/-- What the ageing of the stations of a list leaves. -/
structure AgedOver (l : List Nat) (s u : State) : Prop where
  taking : Taking s u
  rx : u.line.rx = s.line.rx
  inbox : u.line.inbox = s.line.inbox
  length : u.table.entries.length = s.table.entries.length
  entry : ∀ j, entryAt u j = if j ∈ l then entryAged s j else entryAt s j
  active : u.events.active = s.events.active
  acked : u.events.acked = s.events.acked
  events : u.events = l.foldl (fun w i => s.boundaryEvent i w) s.events
  claim : ∀ c, s.alloc.claim = some c → ∃ d, u.alloc.claim = some d ∧ Struck (fun k => k ∈ l ∧ FallsAtBoundary s k) c d

theorem ageEntry_taking (i : Nat) (s : State) : Taking s (ageEntry i s) := by
  constructor <;> simp

theorem foldl_ageEntry (l : List Nat) (hl : l.Nodup) (s : State) (hin : ∀ i ∈ l, i < s.table.entries.length) :
    AgedOver l s (l.foldl (fun s i => ageEntry i s) s) := by
  induction l generalizing s with
  | nil =>
    exact ⟨⟨rfl, rfl, rfl, rfl, rfl, rfl⟩, rfl, rfl, rfl, fun j => by simp, rfl, rfl, rfl,
      fun c hc => ⟨c, hc, .refl (fun k hk => by simp at hk) c⟩⟩
  | cons i l ih =>
    obtain ⟨hnot, hnodup⟩ := List.nodup_cons.1 hl
    have hi := hin i (List.mem_cons_self ..)
    obtain ⟨own, other, length⟩ := ageEntry_entries hi
    have peer : ∀ j, isPeer (ageEntry i s) j = isPeer s j := fun j => isPeer_congr (by simp) (by simp) j
    have ne : ∀ j ∈ l, j ≠ i := fun j hj h => hnot (h ▸ hj)
    have rest := ih hnodup (ageEntry i s) fun j hj => by
      rw [length]
      exact hin j (List.mem_cons_of_mem _ hj)
    rw [List.foldl_cons]
    refine ⟨(ageEntry_taking i s).trans rest.taking, rest.rx.trans (by simp), rest.inbox.trans (by simp),
        rest.length.trans length,
      fun j => ?_, rest.active.trans (by simp), rest.acked.trans (by simp), ?_, fun c hc => ?_⟩
    · rw [rest.entry]
      by_cases hj : j = i
      · subst hj
        simp [hnot, own]
      · rw [entryAged_congr (other j hj) (peer j), other j hj]
        simp [hj]
    · rw [rest.events, ageEntry_events hi, List.foldl_cons]
      refine List.foldl_ext _ _ _ fun w j hj => boundaryEvent_congr (other j (ne j hj)) (peer j) (by simp) w
    · obtain ⟨x, hx, first⟩ := ageEntry_claim hi hc
      obtain ⟨d, hd, second⟩ := rest.claim x hx
      refine ⟨d, hd, (first.trans second).congr fun k => ?_⟩
      rw [List.mem_cons, or_and_right]
      refine or_congr_right (and_congr_right fun hk => ?_)
      exact fallsAtBoundary_congr (other k (ne k hk)) (peer k)

/-! ## Every entry -/

theorem tableBoundary_aged (full : FullTable s) :
    ∃ u, tableBoundary s = endUpdate none u ∧ AgedOver (List.range 24) s u :=
  ⟨_, rfl, foldl_ageEntry (List.range 24) List.nodup_range s fun i hi => by
    rw [full]
    exact List.mem_range.1 hi⟩

theorem AgedOver.sumHeld_le (h : AgedOver (List.range 24) s u) : sumHeld u ≤ sumHeld s := by
  refine sumHeld_le_of_entries (by rw [h.taking.mc]) (by rw [h.taking.mc]) h.taking.held fun i hi => ?_
  rw [h.entry, if_pos (List.mem_range.2 hi), entryAged]
  split
  · exact (Entry.aged_share_le _).trans (entryOnCheck_share_le s i)
  · exact Nat.le_refl _

/-- A peer entry after the lease boundary, case by case. -/
theorem entryAged_spec (hp : isPeer s i = true) :
    ((suspectOnCheck s i = false ∧ ((entryAt s i).stored.status = .absent ∨ (entryAt s i).stored.status = .pendingJoin)) →
        entryAged s i = entryAt s i)
      ∧ ((suspectOnCheck s i = true ∨ (entryAt s i).stored.status = .member ∨ (entryAt s i).stored.status = .silent) →
          (7 ≤ (entryAt s i).age →
              entryAged s i =
                { stored := { Stored.empty with holdSeq := (entryAt s i).stored.holdSeq }, parityGood := true,
                  age := 0, expiry := 0, suspect := false })
            ∧ ((3 ≤ (entryAt s i).age ∧ (entryAt s i).age < 7 ∧ suspectOnCheck s i = false
                  ∧ (entryAt s i).stored.status = .member) →
                entryAged s i =
                  { entryAt s i with
                    stored := { (entryAt s i).stored with status := .silent }
                    age := (entryAt s i).age + 1 })
            ∧ (((entryAt s i).age < 3 ∨ ((entryAt s i).age < 7
                  ∧ (suspectOnCheck s i = true ∨ (entryAt s i).stored.status = .silent))) →
                entryAged s i = { entryOnCheck s i with age := (entryAt s i).age + 1 })) := by
  have ages := entryOnCheck_ages s i
  rw [entryAged, if_pos hp]
  refine ⟨fun ⟨hs, hstatus⟩ => ?_, fun hages => ⟨fun h7 => ?_, fun ⟨h3, h7, hs, hm⟩ => ?_, fun hage => ?_⟩⟩
  · rw [Entry.aged_of_kept, (entryOnCheck_of_fine (.inl (fine_of_not_suspect hs).1)).2]
    rw [Ne, ages]
    obtain h | h := hstatus <;> simp [hs, h]
  · rw [Entry.aged_of_absent (ages.2 hages) h7, Entry.returnAbsent, Bool.not_true, Bool.and_false]
    rfl
  · obtain ⟨good, suspect⟩ := fine_of_not_suspect hs
    rw [Entry.aged_of_silent (ages.2 hages) (Nat.not_le.2 h7) ⟨h3, hs, hm⟩, (entryOnCheck_of_fine (.inl good)).2,
        Entry.silenced,
      Entry.write, ← good]
  · refine Entry.aged_of_older (ages.2 hages) ?_ ?_
    · show ¬7 ≤ (entryAt s i).age
      omega
    · rintro ⟨h3, hs, hm⟩
      obtain hlt | ⟨-, hsus | hsilent⟩ := hage
      · exact absurd h3 (Nat.not_le.2 hlt)
      · exact Bool.false_ne_true (hs.symm.trans hsus)
      · cases hm.symm.trans hsilent

/-- The events of one entry's work, case by case. -/
theorem boundaryEvent_spec (hp : isPeer s i = true) (w : EventUnit) :
    ((suspectOnCheck s i = false ∧ ((entryAt s i).stored.status = .absent ∨ (entryAt s i).stored.status = .pendingJoin)) →
        s.boundaryEvent i w = w)
      ∧ ((suspectOnCheck s i = true ∨ (entryAt s i).stored.status = .member ∨ (entryAt s i).stored.status = .silent) →
          (7 ≤ (entryAt s i).age →
              s.boundaryEvent i w =
                (s.parityEvent i w).take .peerAbsent (some i) none
                  (some (valueOf (if suspectOnCheck s i then 0 else (entryAt s i).stored.held))) s.time.ms)
            ∧ ((3 ≤ (entryAt s i).age ∧ (entryAt s i).age < 7 ∧ suspectOnCheck s i = false
                  ∧ (entryAt s i).stored.status = .member) →
                s.boundaryEvent i w =
                  w.take .peerSilent (some i) none (some (valueOf (entryAt s i).stored.held)) s.time.ms)
            ∧ (((entryAt s i).age < 3 ∨ ((entryAt s i).age < 7
                  ∧ (suspectOnCheck s i = true ∨ (entryAt s i).stored.status = .silent))) →
                s.boundaryEvent i w = s.parityEvent i w)) := by
  rw [State.boundaryEvent, if_neg (c := isPeer s i = false) (by simp [hp])]
  refine ⟨fun ⟨hs, hstatus⟩ => ?_, fun hages => ⟨fun h7 => if_pos ⟨h7, hages⟩, fun ⟨h3, h7, hs, hm⟩ => ?_, fun hage => ?_⟩⟩
  · rw [if_neg, if_neg, parityEvent_of_not_suspect hs]
    · rintro ⟨-, -, hm⟩
      obtain h | h := hstatus <;> rw [h] at hm <;> cases hm
    · rintro ⟨-, hsus | hm | hm⟩
      · exact Bool.false_ne_true (hs.symm.trans hsus)
      · obtain h | h := hstatus <;> rw [h] at hm <;> cases hm
      · obtain h | h := hstatus <;> rw [h] at hm <;> cases hm
  · rw [if_neg fun both => Nat.not_le.2 h7 both.1, if_pos ⟨h3, hs, hm⟩]
  · rw [if_neg, if_neg]
    · rintro ⟨h3, hs, hm⟩
      obtain hlt | ⟨-, hsus | hsilent⟩ := hage
      · exact absurd h3 (Nat.not_le.2 hlt)
      · exact Bool.false_ne_true (hs.symm.trans hsus)
      · cases hm.symm.trans hsilent
    · rintro ⟨h7, -⟩
      omega

/-- Settles O9. -/
theorem shareTableAgesEveryPeerEntry : Obligations.ShareTableAgesEveryPeerEntry := by
  refine ⟨fun s full hdue => ?_, fun i s hp full hi => ?_⟩
  · obtain ⟨u, ends, aged⟩ := tableBoundary_aged (s := boundaryTaken .shareTable s) full
    have effect : leaseBoundary [.shareTable] s = endUpdate none u := (takeBoundary_due hdue).trans ends
    have entry : ∀ i < 24, entryAt (endUpdate none u) i = entryAged s i := fun i hi => by
      rw [entryAt_congr (s := u) (by simp), aged.entry, if_pos (List.mem_range.2 hi)]
      rfl
    have sum : sumHeld u ≤ sumHeld s := aged.sumHeld_le
    refine ⟨_, congrArg Host.Outcome.next effect, fun i hi hp => ?_, fun i hi hp => ?_, fun c hc d hd => ?_,
        fun hunset => ?_, ?_, ?_, ?_, ?_, ?_,
      ?_, ?_⟩
    · rw [entry i hi, entryAged, if_neg (by simp [hp])]
    · rw [entry i hi]
      exact entryAged_spec hp
    · obtain ⟨x, hx, struck⟩ := aged.claim c hc
      obtain same | ⟨-, gone⟩ := endUpdate_claim_or_abandoned none hx
      · obtain rfl : x = d := Option.some_inj.1 (same.symm.trans hd)
        refine ⟨fun i hi => ?_, fun ⟨i, hi, hroll, hfalls⟩ => struck.commits ⟨i, hroll, List.mem_range.2 hi, hfalls⟩⟩
        rw [struck.roll, and_iff_right (List.mem_range.2 hi)]
        rfl
      · rw [gone] at hd
        cases hd
    · have log := aged.taking.log_of_unset none (hunset.imp_right sum.trans)
      have events : u.events = (List.range 24).foldl (fun u i => s.boundaryEvent i u) s.events := aged.events
      rw [← events]
      exact EventUnit.of_log log (by simp only [EventUnit.takeIf_conditions]; exact aged.active)
        (by simp only [EventUnit.takeIf_conditions]; exact aged.acked)
    · exact (by simpa using aged.length.trans full)
    · simp [aged.taking.time, boundaryTaken]
    · simp [aged.taking.pins, boundaryTaken]
    · simp [aged.taking.port, boundaryTaken]
    · simp [aged.taking.mc, boundaryTaken]
    · simp [aged.rx, boundaryTaken]
    · simp [aged.inbox, boundaryTaken]
  · rw [ageEntry_events (by rw [full]; exact hi)]
    exact boundaryEvent_spec hp s.events

end Sys2Proof.Machine
end

section
/-! PROOFS. An ANNOUNCE taken by the table (R14), and the slot for its answer (O40, without an answer). -/

namespace Sys2Proof.Machine

variable {s t u v : State} {i j k : Nat} {n : Byte} {cls lease : Nat} {rejoins : Bool} {r : Option Nat}

/-! ## Entries and slots -/

theorem entries_ext (hl : t.table.entries.length = s.table.entries.length) (h : ∀ i, entryAt t i = entryAt s i) :
    t.table.entries = s.table.entries := by
  refine List.ext_getElem hl fun i hi hi' => ?_
  have same := h i
  rw [entryAt, entryAt, List.getElem?_eq_getElem hi, List.getElem?_eq_getElem hi'] at same
  exact same

theorem withdrawAssent_length (x : Nat) (n : Byte) (s : State) :
    (withdrawAssent x n s).outbox.answers.length = s.outbox.answers.length := by
  unfold withdrawAssent
  split
  · split
    · simp
    · rfl
  · rfl

theorem withdrawFor_length (x : Nat) (m : Option Earmark) (s : State) :
    (withdrawFor x m s).outbox.answers.length = s.outbox.answers.length := by
  unfold withdrawFor
  split
  · exact withdrawAssent_length ..
  · rfl

/-- The slot for a decision is the one that the statements name. -/
theorem decisionSlot_of_decided (h : DecidedAt s j n r k) : decisionSlot s j n r = some k := by
  obtain ⟨hr, hk⟩ | ⟨hno, rfl, hempty⟩ := h
  · obtain ⟨r, rfl⟩ := Option.isSome_iff_exists.1 hr
    have found : slotFor s j n = some k := hk
    simp only [decisionSlot, found]
  · have absent : slotFor s j n = none := List.findIdx?_eq_none_iff.2 fun a ha => by simpa using hno a ha
    simp only [decisionSlot, absent, hempty, if_true]

theorem decisionSlot_of_not (h : NotDecided s j n r) : decisionSlot s j n r = none := by
  obtain rfl | ⟨hno, hfull⟩ := h
  · rfl
  · have absent : slotFor s j n = none := List.findIdx?_eq_none_iff.2 fun a ha => by simpa using hno a ha
    cases r with
    | none => rfl
    | some k => simp only [decisionSlot, absent, if_neg (hfull k rfl)]

theorem decideAnswer_of_not {slot : Option Nat} {answer : Nat → State → State} (h : slot = none ∨ s.mc.station ≠ .active) :
    decideAnswer slot answer s = s := by
  cases slot with
  | none => rfl
  | some k => exact if_neg (h.resolve_left (by simp))

theorem decideAnswer_of_active {answer : Nat → State → State} (hs : s.mc.station = .active) :
    decideAnswer (some k) answer s = answer k (checkAllParity s) := if_pos hs

theorem announceReceived_of_head {f pr : Nat} {rest : List Delivered}
    (hin : s.line.inbox = { frame := { source := j, body := .announce n f pr cls lease }, reservation := r } :: rest) :
    announceReceived s =
      endUpdate none (decideAnswer (decisionSlot s j n r) (fun k => answerAnnounce k j n f pr cls lease)
        (takeAnnounce j n cls lease (popInbox s))) := by
  rw [announceReceived, hin]

/-! ## The taking (R14) -/

/-- The station with the entry `e` of a station that re-announces itself returned to ABSENT. -/
def rejoinedBy (j : Nat) (n : Byte) (e : Entry) (s : State) : State :=
  strikeOff j (withdrawFor j e.stored.earmark (modEntry j (Entry.returnAbsent false)
    (raise .peerRejoined (some j) (some n) (some (valueOf e.stored.held)) s)))

/-- What makes an ANNOUNCE a re-announce (R14). -/
def Rejoins (s : State) (j cls lease : Nat) : Prop :=
  cls = s.mc.identity.capacityClass ∧ lease = s.mc.identity.leaseSelect ∧ suspectOnCheck s j = false
    ∧ (entryAt s j).stored.status ≠ .absent

theorem sameFeed_iff (s : State) (cls lease : Nat) :
    sameFeed s cls lease = true ↔ cls = s.mc.identity.capacityClass ∧ lease = s.mc.identity.leaseSelect := by
  simp [sameFeed]

theorem takeAnnounce_of_rejoins (h : Rejoins s j cls lease) :
    takeAnnounce j n cls lease s = rejoinedBy j n (entryAt s j) s := by
  obtain ⟨hcls, hlease, hs, hstatus⟩ := h
  have good := (fine_of_not_suspect hs).1
  rw [takeAnnounce, checkParity_of_fine (.inl good), rejoin,
    if_pos ⟨(sameFeed_iff s cls lease).2 ⟨hcls, hlease⟩, (fine_of_not_suspect hs).2, hstatus⟩]
  rfl

theorem takeAnnounce_of_not (hp : isPeer s j = true) (hj : j < s.table.entries.length) (h : ¬Rejoins s j cls lease) :
    takeAnnounce j n cls lease s = checkParity j s := by
  rw [takeAnnounce, rejoin, if_neg]
  rintro ⟨hfeed, hs, hstatus⟩
  rw [entryAt_checkParity_self hp hj] at hs hstatus
  have feed : sameFeed s cls lease = true := by simpa [sameFeed] using hfeed
  obtain ⟨hcls, hlease⟩ := (sameFeed_iff s cls lease).1 feed
  exact h ⟨hcls, hlease, hs, hstatus⟩

theorem rejoinedBy_spec (j : Nat) (n : Byte) (e : Entry) (s : State) :
    (rejoinedBy j n e s).table.entries = (modEntry j (Entry.returnAbsent false) s).table.entries
      ∧ (rejoinedBy j n e s).events = s.events.take .peerRejoined (some j) (some n)
          (some (valueOf e.stored.held)) s.time.ms := by
  constructor <;> simp [rejoinedBy, raise, modEntry]

theorem rejoinedBy_length (j : Nat) (n : Byte) (e : Entry) (s : State) :
    (rejoinedBy j n e s).outbox.answers.length = s.outbox.answers.length := by
  rw [rejoinedBy]
  simp only [strikeOff_keeps, withdrawFor_length]
  simp

/-- Without an own claim, nothing of the own records or the HOLD slot changes. -/
theorem rejoinedBy_unclaimed (e : Entry) (h : s.alloc.claim = none) :
    (rejoinedBy j n e s).alloc = s.alloc ∧ (rejoinedBy j n e s).outbox.hold = s.outbox.hold := by
  have none : (withdrawFor j e.stored.earmark (modEntry j (Entry.returnAbsent false)
    (raise .peerRejoined (some j) (some n) (some (valueOf e.stored.held)) s))).alloc.claim = none := by simpa using h
  rw [rejoinedBy, strikeOff_of_none j none]
  simp

/-- An own claim stays open, and the station that re-announces itself is off its roll (R56). -/
theorem rejoinedBy_claim {c : ClaimRecord} (e : Entry) (hc : s.alloc.claim = some c) :
    ∃ d, (rejoinedBy j n e s).alloc.claim = some d ∧ j ∉ d.roll := by
  obtain ⟨d, hd, -, -, -, out, off, -⟩ := strikeOff_claim (c := c) j
    (s := withdrawFor j e.stored.earmark (modEntry j (Entry.returnAbsent false)
      (raise .peerRejoined (some j) (some n) (some (valueOf e.stored.held)) s))) (by simpa using hc)
  refine ⟨d, hd, ?_⟩
  by_cases hj : j ∈ c.roll
  · exact (out hj).1
  · exact off hj

/-- The ASSENT of an earmark that goes leaves its slot. -/
theorem rejoinedBy_gone {e : Entry} {m : Earmark} (hm : e.stored.earmark = some m) (hfor : answerFor s j m.number = some k)
    (ha : (answerAt s k).content = some .assent) : answerAt (rejoinedBy j n e s) k = AnswerSlot.empty := by
  have outbox : (modEntry j (Entry.returnAbsent false)
      (raise .peerRejoined (some j) (some n) (some (valueOf e.stored.held)) s)).outbox = s.outbox := by simp
  have gone := withdrawFor_gone (x := j) (m := m) (congrArg Outbox.answers outbox) hfor ha
  have answers : (rejoinedBy j n e s).outbox.answers =
      (withdrawFor j (some m) (modEntry j (Entry.returnAbsent false)
        (raise .peerRejoined (some j) (some n) (some (valueOf e.stored.held)) s))).outbox.answers := by
    rw [rejoinedBy, hm]
    simp only [strikeOff_keeps]
  rw [answerAt_congr answers]
  exact (gone.answerAt_listed (by rw [outbox]; exact answerFor_lt hfor)).1

/-- What the taking of an ANNOUNCE leaves. -/
structure Announced (j : Nat) (n : Byte) (rejoins : Bool) (s v : State) : Prop where
  taking : Taking s v
  inbox : v.line.inbox = s.line.inbox.tail
  own : entryAt v j = entryOnAnnounce s j rejoins
  other : ∀ i, i ≠ j → entryAt v i = entryAt s i
  length : v.table.entries.length = s.table.entries.length
  events : v.events =
    (eventsOnCheck s j).takeIf rejoins .peerRejoined (some j) (some n) (some (valueOf (entryAt s j).stored.held)) s.time.ms
  answers : v.outbox.answers.length = s.outbox.answers.length
  share : v.alloc.share = s.alloc.share
  holdAttempt : v.alloc.holdAttempt = s.alloc.holdAttempt
  pilot : v.pilot = s.pilot
  claimed : v.alloc.claim.isSome = s.alloc.claim.isSome
  unclaimed : s.alloc.claim = none → v.alloc = s.alloc ∧ v.outbox.hold = s.outbox.hold
  struck : rejoins = true → ∀ c, s.alloc.claim = some c → ∀ d, v.alloc.claim = some d → j ∉ d.roll
  gone : rejoins = true → ∀ m, (entryAt s j).stored.earmark = some m → ∀ k, answerFor s j m.number = some k →
    (answerAt s k).content = some .assent → answerAt v k = AnswerSlot.empty
  kept : rejoins = false → v.outbox = s.outbox ∧ v.alloc = s.alloc

theorem announced_of_rejoins (hj : j < s.table.entries.length) (h : Rejoins s j cls lease) :
    Announced j n true s (takeAnnounce j n cls lease (popInbox s)) := by
  have effect : takeAnnounce j n cls lease (popInbox s) = rejoinedBy j n (entryAt s j) (popInbox s) :=
    takeAnnounce_of_rejoins (s := popInbox s) h
  obtain ⟨-, -, hs, -⟩ := h
  obtain ⟨good, trusted⟩ := fine_of_not_suspect hs
  obtain ⟨entries, events⟩ := rejoinedBy_spec j n (entryAt s j) (popInbox s)
  have checked : eventsOnCheck s j = s.events := parityEvent_of_not_suspect hs s.events
  rw [effect]
  refine ⟨by constructor <;> simp [rejoinedBy, popInbox], by simp [rejoinedBy, popInbox], ?_, fun i hi => ?_,
      by rw [entries, modEntry_length]; rfl,
    by rw [events, checked]; rfl, rejoinedBy_length .., by simp [rejoinedBy, popInbox], by simp [rejoinedBy, popInbox],
    by simp [rejoinedBy, popInbox], ?_, fun hnone => rejoinedBy_unclaimed (s := popInbox s) (entryAt s j) hnone,
        fun _ c hc d hd => ?_,
    fun _ m hm k hfor ha => ?_, fun hno => by simp at hno⟩
  · rw [entryAt_congr entries, entryAt_modEntry_self (s := popInbox s) _ hj]
    have same : entryAt (popInbox s) j = entryAt s j := rfl
    rw [same, Entry.returnAbsent, trusted]
    rfl
  · rw [entryAt_congr entries, entryAt_modEntry_ne _ hi]
    rfl
  · cases hc : s.alloc.claim with
    | none =>
      obtain ⟨alloc, -⟩ := rejoinedBy_unclaimed (s := popInbox s) (j := j) (n := n) (entryAt s j) hc
      rw [alloc]
      exact congrArg Option.isSome hc
    | some c =>
      obtain ⟨d, hd, -⟩ := rejoinedBy_claim (s := popInbox s) (j := j) (n := n) (entryAt s j) hc
      rw [hd]
      rfl
  · obtain ⟨d', hd', off⟩ := rejoinedBy_claim (s := popInbox s) (j := j) (n := n) (entryAt s j) hc
    obtain rfl : d' = d := Option.some_inj.1 (hd'.symm.trans hd)
    exact off
  · exact rejoinedBy_gone (s := popInbox s) hm hfor ha

theorem announced_of_not (hp : isPeer s j = true) (hj : j < s.table.entries.length) (h : ¬Rejoins s j cls lease) :
    Announced j n false s (takeAnnounce j n cls lease (popInbox s)) := by
  have effect : takeAnnounce j n cls lease (popInbox s) = checkParity j (popInbox s) :=
      takeAnnounce_of_not (s := popInbox s) hp hj h
  rw [effect]
  refine ⟨by constructor <;> simp [popInbox], by simp [popInbox], entryAt_checkParity_self (s := popInbox s) hp hj,
    fun i hi => entryAt_checkParity_ne (s := popInbox s) hi, checkParity_length j (popInbox s),
        checkParity_events (s := popInbox s) hp,
    by simp [popInbox], by simp [popInbox], by simp [popInbox], by simp [popInbox], by simp [popInbox],
        fun _ => by simp [popInbox],
    fun hno => by simp at hno, fun hno => by simp at hno, fun _ => by simp [popInbox]⟩

/-- The ANNOUNCE of a peer taken. -/
theorem announced (hp : isPeer s j = true) (hj : j < s.table.entries.length) (h : rejoins = true ↔ Rejoins s j cls lease) :
    Announced j n rejoins s (takeAnnounce j n cls lease (popInbox s)) := by
  cases rejoins with
  | true => exact announced_of_rejoins hj (h.1 rfl)
  | false => exact announced_of_not hp hj fun hyes => by simpa using h.2 hyes

end Sys2Proof.Machine
end

section
/-! PROOFS. The answer to an ANNOUNCE: the OBJECTs (O40). -/

namespace Sys2Proof.Machine

variable {s t u v w : State} {i j k x : Nat} {n : Byte} {cls lease f pr : Nat} {rejoins : Bool} {r : Option Nat}
    {reason : ObjectReason}

/-! ## An answer written into its slot (R68, R122) -/

theorem writeAnswer_decided {a : Answer} {shed : Bool} (hk : k < s.outbox.answers.length) :
    AnswerDecided k x n a shed (writeAnswer k x n a shed s) := by
  have slot : answerAt (writeAnswer k x n a shed s) k =
      { answerAt s k with
        occupancy := .filled, key := some (x, n), content := some a, attempts := 0, waitingShed := shed
        expired := false, deadline := some Config.responseWindow, rewritten := (answerAt s k).inFlight } := by
    rw [writeAnswer, answerAt, setOutbox, List.getElem?_set_self hk]
    rfl
  unfold AnswerDecided
  rw [slot]
  refine ⟨rfl, rfl, rfl, rfl, rfl, rfl, rfl, rfl, ?_⟩
  simp [writeAnswer, setOutbox]

theorem AnswerDecided.congr {a : Answer} {shed : Bool} (h : AnswerDecided k x n a shed s)
    (ha : t.outbox.answers = s.outbox.answers)
    (hl : t.outbox.answerList = s.outbox.answerList) : AnswerDecided k x n a shed t := by
  unfold AnswerDecided at h ⊢
  rw [answerAt_congr ha, hl]
  exact h

/-! ## An entry less an earmark (R16, R78) -/

theorem Entry.without_of_marked {e : Entry} (h : e.stored.earmark.any (fun m => m.number == n) = true) :
    e.without n = e.unmarked := by
  rw [Entry.without, if_neg (by simp [h])]
  unfold Entry.unmarked Entry.returnAbsent Entry.write
  split <;> simp

theorem Entry.without_of_not {e : Entry} (h : e.stored.earmark.any (fun m => m.number == n) = false) :
    e.without n = e := if_pos h

theorem Entry.without_share_le (n : Byte) (e : Entry) : (e.without n).share ≤ e.share := by
  cases h : e.stored.earmark.any (fun m => m.number == n) with
  | true =>
    rw [Entry.without_of_marked h]
    exact Entry.unmarked_share_le e
  | false => rw [Entry.without_of_not h]

theorem Entry.without_number {n : Byte} {e : Entry} {m : Earmark} (hm : (e.without n).stored.earmark = some m) :
    m.number ≠ n := by
  cases h : e.stored.earmark.any (fun m => m.number == n) with
  | true =>
    rw [Entry.without_of_marked h, Entry.unmarked_earmark] at hm
    cases hm
  | false =>
    rw [Entry.without_of_not h] at hm
    simpa [hm] using h

theorem Entry.without_suspect (n : Byte) (e : Entry) : (e.without n).suspect = e.suspect := by
  unfold Entry.without
  split
  · rfl
  · split <;> rfl

/-! ## OBJECT (R70, R72, R78) -/

/-- What an OBJECT to a peer whose check does not fail leaves. -/
structure Objects (k x : Nat) (n : Byte) (reason : ObjectReason) (s u : State) : Prop where
  taking : Taking s u
  inbox : u.line.inbox = s.line.inbox
  answer : AnswerDecided k x n (.object reason) false u
  own : entryAt u x = (entryAt s x).without n
  other : ∀ i, i ≠ x → entryAt u i = entryAt s i
  events : u.events = s.events

theorem dropEarmarkOf_spec (hp : isPeer s x = true) (hx : x < s.table.entries.length)
    (fine : (entryAt s x).parityGood = true ∨ (entryAt s x).suspect = true) :
    entryAt (dropEarmarkOf x n s) x = (entryAt s x).without n ∧ (∀ i, i ≠ x → entryAt (dropEarmarkOf x n s) i = entryAt s i)
      ∧ (dropEarmarkOf x n s).events = s.events
      ∧ (dropEarmarkOf x n s).outbox.answers.length = s.outbox.answers.length := by
  cases h : holdsEarmark s x n with
  | true =>
    obtain ⟨-, m, hm, hn⟩ := (holdsEarmark_iff s x n).1 h
    have marked : (entryAt s x).stored.earmark.isSome = true := by simp [hm]
    have entries : (dropEarmarkOf x n s).table.entries = (removeEarmark x s).table.entries := by
      rw [dropEarmarkOf_of_holds h]
      simp
    refine ⟨?_, fun i hi => ?_, ?_, ?_⟩
    · rw [entryAt_congr entries, entryAt_removeEarmark_self hp hx marked, (entryOnCheck_of_fine fine).2,
        Entry.without_of_marked (by simp [hm, hn])]
    · rw [entryAt_congr entries, entryAt_removeEarmark_ne hi]
    · rw [dropEarmarkOf_of_holds h]
      simp only [withdrawAssent_keeps]
      rw [removeEarmark_events hp marked]
      exact parityEvent_of_fine fine s.events
    · rw [dropEarmarkOf_of_holds h, withdrawAssent_length]
      simp
  | false =>
    have unmarked : (entryAt s x).stored.earmark.any (fun m => m.number == n) = false := by simpa [holdsEarmark, hp] using h
    rw [dropEarmarkOf_of_not h, Entry.without_of_not unmarked]
    exact ⟨rfl, fun _ _ => rfl, rfl, rfl⟩

theorem objectTo_objects (hp : isPeer s x = true) (hx : x < s.table.entries.length)
    (fine : (entryAt s x).parityGood = true ∨ (entryAt s x).suspect = true) (hk : k < s.outbox.answers.length) :
    Objects k x n reason s (objectTo k x n reason s) := by
  obtain ⟨own, other, events, answers⟩ := dropEarmarkOf_spec (n := n) hp hx fine
  have entries : (objectTo k x n reason s).table.entries = (dropEarmarkOf x n s).table.entries := by simp [objectTo]
  refine ⟨by constructor <;> simp, by simp, writeAnswer_decided (by rwa [answers]), ?_, fun i hi => ?_, ?_⟩
  · rw [entryAt_congr entries, own]
  · rw [entryAt_congr entries, other i hi]
  · rw [← events]
    simp [objectTo]

/-! ## Every entry checked before the decision (R21, R68) -/

/-- What the taking of an ANNOUNCE and the check of every peer entry leave, in ACTIVE. -/
structure Weighed (j : Nat) (n : Byte) (rejoins : Bool) (s w : State) : Prop where
  taking : Taking s w
  inbox : w.line.inbox = s.line.inbox.tail
  own : entryAt w j = entryOnAnnounce s j rejoins
  other : ∀ i < 24, i ≠ j → entryAt w i = if i = s.mc.identity.number then entryAt s i else entryOnCheck s i
  length : w.table.entries.length = 24
  events : w.events = s.parityEvents j
    ((eventsOnCheck s j).takeIf rejoins .peerRejoined (some j) (some n) (some (valueOf (entryAt s j).stored.held)) s.time.ms)
  answers : w.outbox.answers.length = s.outbox.answers.length
  share : w.alloc.share = s.alloc.share
  pilot : w.pilot = s.pilot
  claimed : w.alloc.claim.isSome = s.alloc.claim.isSome
  unclaimed : s.alloc.claim = none → w.alloc = s.alloc ∧ w.outbox.hold = s.outbox.hold

theorem isPeer_active (hs : s.mc.station = .active) (i : Nat) : isPeer s i = decide (i ≠ s.mc.identity.number) := by
  simp [isPeer, hs, bne, beq_eq_decide]

/-- The entry of an ANNOUNCE's station fails no second check. -/
theorem entryOnAnnounce_fine (s : State) (j : Nat) (rejoins : Bool) :
    (entryOnAnnounce s j rejoins).parityGood = true ∨ (entryOnAnnounce s j rejoins).suspect = true := by
  unfold entryOnAnnounce
  split
  · exact .inl rfl
  · cases hg : (entryAt s j).parityGood <;> simp [entryOnCheck, suspectOnCheck, hg]

theorem Announced.weighed (h : Announced j n rejoins s v) (hs : s.mc.station = .active) (hj : j < 24)
    (hp : isPeer s j = true)
    (full : FullTable s) : Weighed j n rejoins s (checkAllParity v) := by
  have full' : FullTable v := h.length.trans full
  have peer : ∀ i, isPeer v i = isPeer s i := isPeer_congr (by rw [h.taking.mc]) (by rw [h.taking.mc])
  have time : v.time.ms = s.time.ms := by rw [h.taking.time]
  have fine : (entryAt v j).parityGood = true ∨ (entryAt v j).suspect = true := by
    rw [h.own]
    exact entryOnAnnounce_fine s j rejoins
  have checks : Taking v (checkAllParity v) := by constructor <;> simp
  refine ⟨h.taking.trans checks, by simpa using h.inbox, ?_, fun i hi hne => ?_,
      (checkAllParity_length v).trans full', ?_, by simpa using h.answers,
    by simpa using h.share, by simpa using h.pilot, by simpa using h.claimed, fun hnone => by simpa using h.unclaimed hnone⟩
  · rw [entryAt_checkAllParity full' hj, peer, if_pos hp, (entryOnCheck_of_fine fine).2, h.own]
  · have same := h.other i hne
    rw [entryAt_checkAllParity full' hi, peer, entryOnCheck_congr same, same, isPeer_active hs]
    simp only [decide_eq_true_eq, ite_not]
  · rw [checkAllParity_events, State.parityEvents, ← h.events]
    refine List.foldl_ext _ _ _ fun u i _ => ?_
    rw [peer]
    by_cases hi : i = j
    · subst hi
      rw [if_pos hp, if_neg fun both => both.2 rfl, parityEvent_of_fine fine]
    · rw [parityEvent_congr (h.other i hi) time]
      simp [hi]

theorem entryOnAnnounce_share_le (s : State) (j : Nat) (rejoins : Bool) :
    (entryOnAnnounce s j rejoins).share ≤ (entryAt s j).share := by
  unfold entryOnAnnounce
  split
  · simp [Entry.share, Entry.valid, Entry.empty, Stored.empty]
  · exact entryOnCheck_share_le s j

/-- What an ANNOUNCE answered with OBJECT leaves before its update ends. -/
structure Refused (k j : Nat) (n : Byte) (reason : ObjectReason) (rejoins : Bool) (s u : State) : Prop where
  taking : Taking s u
  inbox : u.line.inbox = s.line.inbox.tail
  answer : AnswerDecided k j n (.object reason) false u
  own : entryAt u j = (entryOnAnnounce s j rejoins).without n
  other : ∀ i < 24, i ≠ j → entryAt u i = if i = s.mc.identity.number then entryAt s i else entryOnCheck s i
  events : u.events = s.parityEvents j
    ((eventsOnCheck s j).takeIf rejoins .peerRejoined (some j) (some n) (some (valueOf (entryAt s j).stored.held)) s.time.ms)

theorem Weighed.refused (h : Weighed j n rejoins s w) (hj : j < 24) (hp : isPeer s j = true)
    (hk : k < s.outbox.answers.length)
    (reason : ObjectReason) : Refused k j n reason rejoins s (objectTo k j n reason w) := by
  have peer : isPeer w j = true := (isPeer_congr (by rw [h.taking.mc]) (by rw [h.taking.mc]) j).trans hp
  have objects : Objects k j n reason w (objectTo k j n reason w) :=
    objectTo_objects peer (by rw [h.length]; exact hj) (by rw [h.own]; exact entryOnAnnounce_fine s j rejoins)
        (by rwa [h.answers])
  exact ⟨h.taking.trans objects.taking, objects.inbox.trans h.inbox, objects.answer, by rw [objects.own, h.own],
    fun i hi hne => (objects.other i hne).trans (h.other i hi hne), objects.events.trans h.events⟩

theorem Refused.sumHeld_le (h : Refused k j n reason rejoins s u) : sumHeld u ≤ sumHeld s := by
  refine sumHeld_le_of_entries (by rw [h.taking.mc]) (by rw [h.taking.mc]) h.taking.held fun i hi => ?_
  by_cases hij : i = j
  · rw [hij, h.own]
    exact (Entry.without_share_le n _).trans (entryOnAnnounce_share_le s j rejoins)
  · rw [h.other i hi hij]
    split
    · exact Nat.le_refl _
    · exact entryOnCheck_share_le s i

end Sys2Proof.Machine
end

section
/-! PROOFS. The rows that answer an ANNOUNCE (R72), read on the table as its taking leaves it (O40). -/

namespace Sys2Proof.Machine

variable {s w : State} {i j k : Nat} {n : Byte} {cls lease f pr : Nat} {rejoins : Bool}

/-! ## The rows as the decision reads them -/

/-- The row of R72 that the decision finds on the table. -/
def rowFound (w : State) (f cls lease : Nat) : Option ObjectReason :=
  if !sameFeed w cls lease then some .mismatch
  else if anySuspect w then some .suspect
  else if (views w).any (·.stands .silent) then some .silentPeer
  else if (views w).any (·.stored.earmark.isSome) || w.alloc.claim.isSome then some .busy
  else if capacity w < sumFloor w + f then some .floorsFull
  else none

theorem answerAnnounce_eq (k j : Nat) (n : Byte) (f pr cls lease : Nat) (w : State) :
    answerAnnounce k j n f pr cls lease w =
      match rowFound w f cls lease with
      | some reason => objectTo k j n reason w
      | none => assentToJoin k j n f pr w := by
  unfold answerAnnounce rowFound
  split
  · rfl
  · split
    · rfl
    · split
      · rfl
      · split
        · rfl
        · split <;> rfl

theorem answerAnnounce_of_row {reason : ObjectReason} (h : rowFound w f cls lease = some reason) :
    answerAnnounce k j n f pr cls lease w = objectTo k j n reason w := by
  rw [answerAnnounce_eq, h]

theorem answerAnnounce_of_none (h : rowFound w f cls lease = none) :
    answerAnnounce k j n f pr cls lease w = assentToJoin k j n f pr w := by
  rw [answerAnnounce_eq, h]

theorem rowFound_of_mismatch (h : sameFeed w cls lease = false) : rowFound w f cls lease = some .mismatch :=
    if_pos (by simp [h])

theorem rowFound_of_suspect (h : sameFeed w cls lease = true) (hs : anySuspect w = true) :
    rowFound w f cls lease = some .suspect := by
  rw [rowFound, if_neg (by simp [h]), if_pos hs]

/-! ## The table as the rows read it -/

theorem views_map_congr {β : Type} {t u : State} (g : Entry → β) (h : ∀ i < 24, g (view t i) = g (view u i)) :
    (views t).map g = (views u).map g := by
  simp only [views, List.map_map]
  exact List.map_congr_left fun i hi => h i (List.mem_range.1 hi)

theorem views_any_congr {t u : State} (g : Entry → Bool) (h : ∀ i < 24, g (view t i) = g (view u i)) :
    (views t).any g = (views u).any g := by
  have same := congrArg (fun l => l.any id) (views_map_congr g h)
  simpa only [List.any_map, Function.id_comp] using same

theorem entryAt_rejoined (hj : j < s.table.entries.length) (i : Nat) :
    entryAt (s.rejoined j) i =
      if i = j ∧ ¬((entryAt s j).stored.status = .absent ∨ (entryAt s j).suspect = true) then
        { Entry.empty with stored := { Stored.empty with holdSeq := (entryAt s j).stored.holdSeq } }
      else entryAt s i := by
  unfold State.rejoined
  by_cases h : (entryAt s j).stored.status = .absent ∨ (entryAt s j).suspect = true
  · rw [if_pos h, if_neg fun both => both.2 h]
  · rw [if_neg h]
    by_cases hi : i = j
    · subst hi
      rw [if_pos ⟨rfl, h⟩, entryAt, List.getElem?_set_self hj]
      rfl
    · rw [if_neg fun both => hi both.1, entryAt, List.getElem?_set_ne fun h => hi h.symm]
      rfl

theorem rejoined_kept (s : State) (j : Nat) :
    (s.rejoined j).mc = s.mc ∧ (s.rejoined j).alloc = s.alloc ∧ (s.rejoined j).pilot = s.pilot := by
  unfold State.rejoined
  split <;> exact ⟨rfl, rfl, rfl⟩

/-- Where no check fails and the straps agree, the decision finds the table as the rows of R72 read it. -/
theorem Weighed.entries (h : Weighed j n rejoins s w) (full : FullTable s) (hj : j < 24) (fine : NoCheckFails s)
    (hown : j ≠ s.mc.identity.number)
    (hr : rejoins = true ↔ suspectOnCheck s j = false ∧ (entryAt s j).stored.status ≠ .absent) (hi : i < 24) :
    entryAt w i = entryAt (s.rejoined j) i := by
  have checked : ∀ k < 24, k ≠ s.mc.identity.number →
      suspectOnCheck s k = (entryAt s k).suspect ∧ entryOnCheck s k = entryAt s k :=
    fun k hk hne => entryOnCheck_of_fine (fine k hk (isPeer_of_ne hne))
  rw [entryAt_rejoined (by rw [full]; exact hj)]
  by_cases hij : i = j
  · subst hij
    obtain ⟨suspect, entry⟩ := checked i hj hown
    rw [suspect] at hr
    rw [h.own, entryOnAnnounce, entry]
    by_cases hyes : rejoins = true
    · obtain ⟨hs, hstatus⟩ := hr.1 hyes
      rw [if_pos hyes, if_pos ⟨rfl, by simp [hs, hstatus]⟩]
    · rw [if_neg hyes, if_neg]
      rintro ⟨-, hno⟩
      refine hyes (hr.2 ⟨?_, fun ha => hno (.inl ha)⟩)
      by_contra hsus
      exact hno (.inr (by simpa using hsus))
  · rw [if_neg fun both => hij both.1, h.other i hi hij]
    split
    · rfl
    · rename_i hne
      exact (checked i hi hne).2

/-- The two tables read alike, but for what the own entry takes from the roll of the own claim. -/
structure ReadsAlike (w r : State) : Prop where
  suspect : ∀ i < 24, (view w i).suspect = (view r i).suspect
  status : ∀ i < 24, (view w i).stored.status = (view r i).stored.status
  floor : ∀ i < 24, (view w i).stored.floor = (view r i).stored.floor
  claimed : w.alloc.claim.isSome = r.alloc.claim.isSome
  unclaimed : r.alloc.claim = none → views w = views r
  capacity : Machine.capacity w = Machine.capacity r

theorem Weighed.readsAlike (h : Weighed j n rejoins s w) (same : ∀ i < 24, entryAt w i = entryAt (s.rejoined j) i) :
    ReadsAlike w (s.rejoined j) := by
  obtain ⟨mc, alloc, pilot⟩ := rejoined_kept s j
  have mc' : w.mc = (s.rejoined j).mc := h.taking.mc.trans mc.symm
  have peer : ∀ i, isPeer w i = isPeer (s.rejoined j) i := isPeer_congr (by rw [mc']) (by rw [mc'])
  have share : w.alloc.share = (s.rejoined j).alloc.share := h.share.trans (by rw [alloc])
  refine ⟨fun i hi => ?_, fun i hi => ?_, fun i hi => ?_, by rw [h.claimed, alloc], fun hnone => ?_,
      capacity_congr (by rw [mc'])⟩
  · rw [view_suspect, view_suspect, peer, same i hi]
  · unfold view
    rw [peer, same i hi]
    split
    · rfl
    · rw [ownEntry_eq, ownEntry_eq, mc']
  · unfold view
    rw [peer, same i hi]
    split
    · rfl
    · rw [ownEntry_eq, ownEntry_eq, share]
  · rw [alloc] at hnone
    have alloc' : w.alloc = (s.rejoined j).alloc := (h.unclaimed hnone).1.trans alloc.symm
    have pilot' : w.pilot = (s.rejoined j).pilot := h.pilot.trans pilot.symm
    refine List.map_congr_left fun i hi => ?_
    simp only [view, peer, same i (List.mem_range.1 hi), ownEntry, mc', alloc', pilot']

variable {r : State}

theorem ReadsAlike.anySuspect (h : ReadsAlike w r) : anySuspect w = (views r).any (fun e => e.suspect) :=
  views_any_congr (·.suspect) h.suspect

/-- Where no entry is SUSPECT, a status stands. -/
theorem stands_of_trusted {e : Entry} (h : e.suspect = false) (st : EntryStatus) :
    e.stands st = (e.stored.status == st) := by
  simp [Entry.stands, h]

theorem view_trusted (h : (views r).any (fun e => e.suspect) = false) (hi : i < 24) : (view r i).suspect = false := by
  have all := List.any_eq_false.1 h (view r i) (List.mem_map.2 ⟨i, List.mem_range.2 hi, rfl⟩)
  simpa using all

theorem ReadsAlike.anySilent (h : ReadsAlike w r) (trusted : (views r).any (fun e => e.suspect) = false) :
    (views w).any (·.stands .silent) = (views r).any (fun e => e.stored.status == .silent) := by
  have own : (views r).any (·.stands .silent) = (views r).any (fun e => e.stored.status == .silent) := by
    rw [Bool.eq_iff_iff, List.any_eq_true, List.any_eq_true]
    refine exists_congr fun e => and_congr_right fun he => ?_
    obtain ⟨i, hi, rfl⟩ := List.mem_map.1 he
    rw [stands_of_trusted (view_trusted trusted (List.mem_range.1 hi))]
  rw [← own]
  exact views_any_congr (·.stands .silent) fun i hi => by simp only [Entry.stands, h.suspect i hi, h.status i hi]

theorem ReadsAlike.busy (h : ReadsAlike w r) :
    ((views w).any (·.stored.earmark.isSome) || w.alloc.claim.isSome)
      = ((views r).any (fun e => e.stored.earmark.isSome) || r.alloc.claim.isSome) := by
  rw [h.claimed]
  cases hc : r.alloc.claim with
  | none => rw [h.unclaimed hc]
  | some c => simp

theorem ReadsAlike.sumFloor (h : ReadsAlike w r) : sumFloor w = sumFloor r := by
  refine congrArg List.sum (views_map_congr (fun e => if e.valid then e.stored.floor else 0) fun i hi => ?_)
  simp only [Entry.valid, h.suspect i hi, h.status i hi, h.floor i hi]
  rfl

/-- The decision finds the row that R72 names. -/
theorem Weighed.rowFound_eq (h : Weighed j n rejoins s w) (full : FullTable s) (hj : j < 24) (fine : NoCheckFails s)
    (hown : j ≠ s.mc.identity.number) (hr : rejoins = true ↔ Rejoins s j cls lease) (f : Nat) :
    rowFound w f cls lease = announceRow s j f cls lease := by
  have feed := sameFeed_iff w cls lease
  rw [h.taking.mc] at feed
  unfold announceRow
  by_cases hfeed : cls = s.mc.identity.capacityClass ∧ lease = s.mc.identity.leaseSelect
  · have rejoins' : rejoins = true ↔ suspectOnCheck s j = false ∧ (entryAt s j).stored.status ≠ .absent :=
      hr.trans ⟨fun ⟨_, _, h⟩ => h, fun h => ⟨hfeed.1, hfeed.2, h⟩⟩
    have alike := h.readsAlike fun i hi => h.entries full hj fine hown rejoins' hi
    have capacity' : capacity (s.rejoined j) = capacity s := capacity_congr (by rw [(rejoined_kept s j).1])
    rw [rowFound, if_neg (by simp [feed.2 hfeed]), if_neg (c := _ ∨ _) (by simp [hfeed.1, hfeed.2]), alike.anySuspect]
    cases trusted : (views (s.rejoined j)).any (fun e => e.suspect) with
    | true => rfl
    | false =>
      rw [alike.anySilent trusted, alike.busy, alike.sumFloor, alike.capacity, capacity', (rejoined_kept s j).2.1]
  · rw [if_pos (by rwa [← not_and_or])]
    refine rowFound_of_mismatch ?_
    rw [← Bool.not_eq_true]
    exact fun hyes => hfeed (feed.1 hyes)

end Sys2Proof.Machine
end

section
/-! PROOFS. The answer to an ANNOUNCE: ASSENT and the squeeze (O40). -/

namespace Sys2Proof.Machine

variable {s t u v w : State} {i j k : Nat} {n : Byte} {cls lease f pr cut : Nat} {rejoins : Bool} {r : Option Nat}

/-! ## The squeeze (R73, R74) -/

theorem squeeze_spec (hs : s.mc.station = .active) :
    (squeeze j n cut s).alloc.share.held = cut
      ∧ (squeeze j n cut s).pilot.requested =
          (if s.pilot.faultIn then 0 else min cut (min s.alloc.share.lastTx s.alloc.share.demand))
      ∧ (squeeze j n cut s).outbox.hold.occupancy = .filled
      ∧ (∀ a ∈ (squeeze j n cut s).alloc.holdAttempt, a.afterCut = false)
      ∧ (squeeze j n cut s).events = s.events.take .squeezed (some j) (some n) (some (valueOf cut)) s.time.ms := by
  have drive : driveLevel (setShare { s.alloc.share with held := cut } s) =
      if s.pilot.faultIn then 0 else min cut (min s.alloc.share.lastTx s.alloc.share.demand) := by
    cases hf : s.pilot.faultIn <;> simp [driveLevel, setShare, hs, hf]
  refine ⟨by simp [squeeze], ?_, requestHold_filled (by simpa using hs), fun a ha => ?_, by simp [squeeze, raise]⟩
  · rw [← drive, squeeze]
    simp only [requestHold_keeps]
    rfl
  · have attempt : (squeeze j n cut s).alloc.holdAttempt = s.alloc.holdAttempt.map
        (fun a => { a with afterCut := false }) := by
      rw [squeeze]
      simp only [requestHold_keeps]
      rfl
    rw [attempt, Option.mem_def, Option.map_eq_some_iff] at ha
    obtain ⟨b, -, rfl⟩ := ha
    rfl

theorem shed_of_above (h : ceiling s f < s.alloc.share.held) : shed j n f s = squeeze j n (ceiling s f) s :=
  if_pos (by simpa [mustShed] using h)

theorem shed_of_below (h : ¬ceiling s f < s.alloc.share.held) : shed j n f s = s := if_neg (by simpa [mustShed] using h)

/-! ## No row objects (R72) -/

theorem announceRow_none (h : announceRow s j f cls lease = none) :
    (cls = s.mc.identity.capacityClass ∧ lease = s.mc.identity.leaseSelect)
      ∧ (views (s.rejoined j)).any (fun e => e.suspect) = false ∧ s.alloc.claim = none := by
  unfold announceRow at h
  split at h
  · cases h
  · rename_i hfeed
    split at h
    · cases h
    · rename_i hsuspect
      split at h
      · cases h
      · split at h
        · cases h
        · rename_i hbusy
          refine ⟨by simpa [not_or] using hfeed, by simpa using hsuspect, ?_⟩
          simp only [Bool.or_eq_true, not_or, Option.not_isSome_iff_eq_none] at hbusy
          exact hbusy.2

/-- The joiner is not SUSPECT where no entry is. -/
theorem suspect_of_trusted (hj : j < 24) (hown : j ≠ s.mc.identity.number)
    (trusted : (views (s.rejoined j)).any (fun e => e.suspect) = false) : (entryAt s j).suspect = false := by
  by_contra hsus
  have suspect : (entryAt s j).suspect = true := by simpa using hsus
  have same : s.rejoined j = s := by rw [State.rejoined, if_pos (.inr suspect)]
  have seen := view_trusted trusted hj
  rw [same, view_suspect, isPeer_of_ne hown, suspect] at seen
  simp at seen

/-- The ceiling of the decision is the one that R73 names. -/
theorem ReadsAlike.ceiling (h : ReadsAlike w (s.rejoined j)) (hshare : w.alloc.share.floor = s.alloc.share.floor)
    (hnone : s.alloc.claim = none) (trusted : (views (s.rejoined j)).any (fun e => e.suspect) = false) (f : Nat) :
    ceiling w f = ceilingFor s j f := by
  obtain ⟨mc, alloc, -⟩ := rejoined_kept s j
  have capacity' : Machine.capacity (s.rejoined j) = Machine.capacity s := capacity_congr (by rw [mc])
  have parts : squeezeParts w =
      (views (s.rejoined j)).countP (fun e => e.stored.status == .member || e.stored.status == .pendingJoin) + 1 := by
    rw [squeezeParts, h.unclaimed (by rw [alloc]; exact hnone)]
    refine congrArg (· + 1) (List.countP_congr fun e he => ?_)
    obtain ⟨i, hi, rfl⟩ := List.mem_map.1 he
    have seen := view_trusted trusted (List.mem_range.1 hi)
    rw [stands_of_trusted seen, stands_of_trusted seen]
  rw [Machine.ceiling, ceilingFor, hshare, h.capacity, capacity', h.sumFloor, parts]

theorem parityEvents_of_fine (fine : NoCheckFails s) (j : Nat) (x : EventUnit) : s.parityEvents j x = x := by
  have still : ∀ (l : List Nat), (∀ i ∈ l, i < 24) →
      l.foldl (fun u i => if isPeer s i = true ∧ i ≠ j then s.parityEvent i u else u) x = x := by
    intro l
    induction l with
    | nil => exact fun _ => rfl
    | cons i l ih =>
      intro hl
      rw [List.foldl_cons]
      have one : (if isPeer s i = true ∧ i ≠ j then s.parityEvent i x else x) = x := by
        split
        · rename_i h
          exact parityEvent_of_fine (fine i (hl i (List.mem_cons_self ..)) h.1) x
        · rfl
      rw [one]
      exact ih fun k hk => hl k (List.mem_cons_of_mem _ hk)
  exact still _ fun i hi => List.mem_range.1 hi

/-! ## ASSENT (R73 to R75) -/

/-- What an ANNOUNCE answered with ASSENT leaves before its update ends. -/
structure Welcomed (k j : Nat) (n : Byte) (f pr : Nat) (w u : State) : Prop where
  mc : u.mc = w.mc
  pins : u.pins = w.pins
  time : u.time = w.time
  port : u.port = w.port
  overcommit : u.table.overcommit = w.table.overcommit
  inbox : u.line.inbox = w.line.inbox
  answer : AnswerDecided k j n .assent (decide (ceiling w f < w.alloc.share.held)) u
  own : entryAt u j = pendingEntry n f pr (entryAt w j)
  other : ∀ i, i ≠ j → entryAt u i = entryAt w i
  held : u.alloc.share.held = min w.alloc.share.held (ceiling w f)
  squeezed : ceiling w f < w.alloc.share.held →
    u.pilot.requested =
        (if w.pilot.faultIn then 0 else min (ceiling w f) (min w.alloc.share.lastTx w.alloc.share.demand))
      ∧ u.outbox.hold.occupancy = .filled ∧ ∀ a ∈ u.alloc.holdAttempt, a.afterCut = false
  unsqueezed : w.alloc.share.held ≤ ceiling w f →
    u.pilot = w.pilot ∧ u.outbox.hold = w.outbox.hold ∧ u.alloc.holdAttempt = w.alloc.holdAttempt
  events : u.events =
    w.events.takeIf (decide (ceiling w f < w.alloc.share.held)) .squeezed (some j) (some n)
        (some (valueOf (ceiling w f))) w.time.ms

/-- The records that the decision leaves beside the slot and the joiner's entry. -/
theorem assentToJoin_own (k j : Nat) (n : Byte) (f pr : Nat) (w : State) :
    (assentToJoin k j n f pr w).alloc = (shed j n f w).alloc ∧ (assentToJoin k j n f pr w).pilot = (shed j n f w).pilot
      ∧ (assentToJoin k j n f pr w).outbox.hold = (shed j n f w).outbox.hold
      ∧ (assentToJoin k j n f pr w).events = (shed j n f w).events
      ∧ (assentToJoin k j n f pr w).table.entries = (modEntry j (pendingEntry n f pr) w).table.entries := by
  refine ⟨by simp [assentToJoin], by simp [assentToJoin], by simp [assentToJoin], by simp [assentToJoin], ?_⟩
  simp [assentToJoin, modEntry]

theorem assentToJoin_welcomed (hs : w.mc.station = .active) (hj : j < w.table.entries.length)
    (hk : k < w.outbox.answers.length) :
    Welcomed k j n f pr w (assentToJoin k j n f pr w) := by
  obtain ⟨alloc, pilot, hold, events, entries⟩ := assentToJoin_own k j n f pr w
  have answer : AnswerDecided k j n .assent (mustShed w f) (assentToJoin k j n f pr w) :=
    writeAnswer_decided (by simpa using hk)
  refine ⟨by simp, by simp, by simp, by simp, by simp, by simp, answer,
      by rw [entryAt_congr entries, entryAt_modEntry_self _ hj],
    fun i hi => by rw [entryAt_congr entries, entryAt_modEntry_ne _ hi], ?_, fun hlt => ?_, fun hle => ?_, ?_⟩
  · rw [alloc]
    by_cases hlt : ceiling w f < w.alloc.share.held
    · rw [shed_of_above hlt, (squeeze_spec hs).1, Nat.min_eq_right (Nat.le_of_lt hlt)]
    · rw [shed_of_below hlt, Nat.min_eq_left (Nat.not_lt.1 hlt)]
  · obtain ⟨-, requested, filled, attempt, -⟩ := squeeze_spec (j := j) (n := n) (cut := ceiling w f) hs
    rw [alloc, pilot, hold, shed_of_above hlt]
    exact ⟨requested, filled, attempt⟩
  · rw [alloc, pilot, hold, shed_of_below (Nat.not_lt.2 hle)]
    exact ⟨rfl, rfl, rfl⟩
  · rw [events]
    by_cases hlt : ceiling w f < w.alloc.share.held
    · rw [shed_of_above hlt, (squeeze_spec hs).2.2.2.2, decide_eq_true hlt]
      rfl
    · rw [shed_of_below hlt, decide_eq_false hlt]
      rfl

/-- The sum does not rise where no peer entry's counted share does and own held does not. -/
theorem sumHeld_le_of_shares (hs : u.mc.station = s.mc.station) (hi : u.mc.identity = s.mc.identity)
    (hheld : u.alloc.share.held ≤ s.alloc.share.held) (he : ∀ i < 24, (entryAt u i).share ≤ (entryAt s i).share) :
    sumHeld u ≤ sumHeld s := by
  have lowered : sumHeld u ≤ sumHeld { s with table := u.table } := sumHeld_le_of_held rfl hs hi hheld
  exact lowered.trans (sumHeld_le_of_entries (u := { s with table := u.table }) rfl rfl rfl he)

theorem Welcomed.sumHeld_le (h : Welcomed k j n f pr w u) (hw : Weighed j n rejoins s w) : sumHeld u ≤ sumHeld s := by
  refine sumHeld_le_of_shares (by rw [h.mc, hw.taking.mc]) (by rw [h.mc, hw.taking.mc]) ?_ fun i hi => ?_
  · rw [h.held, hw.taking.held]
    exact Nat.min_le_left _ _
  · by_cases hij : i = j
    · rw [hij, h.own]
      exact (ite_self 0).le.trans (Nat.zero_le _)
    · rw [h.other i hij, hw.other i hi hij]
      split
      · exact Nat.le_refl _
      · exact entryOnCheck_share_le s i

end Sys2Proof.Machine
end

section
/-! PROOFS. An ANNOUNCE taken and answered (O40). -/

namespace Sys2Proof.Machine

variable {s t u v w : State} {i j k : Nat} {n : Byte} {cls lease f pr : Nat} {rejoins : Bool} {r : Option Nat}
    {rest : List Delivered}
  {reason : ObjectReason}

/-! ## Without an answer -/

theorem announceReceived_undecided
    (hin : s.line.inbox = { frame := { source := j, body := .announce n f pr cls lease }, reservation := r } :: rest)
    (h : NotDecided s j n r ∨ s.mc.station ≠ .active) :
    announceReceived s = endUpdate none (takeAnnounce j n cls lease (popInbox s)) := by
  rw [announceReceived_of_head hin, decideAnswer_of_not]
  exact h.imp decisionSlot_of_not fun hs => by simpa [popInbox] using hs

theorem Announced.sumHeld_le (h : Announced j n rejoins s v) : sumHeld v ≤ sumHeld s := by
  refine sumHeld_le_of_entries (by rw [h.taking.mc]) (by rw [h.taking.mc]) h.taking.held fun i _ => ?_
  by_cases hij : i = j
  · rw [hij, h.own]
    exact entryOnAnnounce_share_le s j rejoins
  · rw [h.other i hij]

theorem parityEvent_conditions (s : State) (i : Nat) (x : EventUnit) :
    (s.parityEvent i x).active = x.active ∧ (s.parityEvent i x).acked = x.acked := by
  unfold State.parityEvent
  split <;> simp

theorem parityEvents_conditions (s : State) (j : Nat) (x : EventUnit) :
    (s.parityEvents j x).active = x.active ∧ (s.parityEvents j x).acked = x.acked := by
  unfold State.parityEvents
  induction List.range 24 generalizing x with
  | nil => exact ⟨rfl, rfl⟩
  | cons i l ih =>
    rw [List.foldl_cons]
    obtain ⟨active, acked⟩ := ih (if isPeer s i = true ∧ i ≠ j then s.parityEvent i x else x)
    obtain ⟨active', acked'⟩ := parityEvent_conditions s i x
    rw [active, acked]
    split
    · exact ⟨active', acked'⟩
    · exact ⟨rfl, rfl⟩

/-- The events of a whole update that sets no OVERCOMMIT, where those up to its end touch no alert condition. -/
theorem Taking.events_of_unset (h : Taking s u) (hunset : s.table.overcommit
    = true ∨ Machine.sumHeld u ≤ Machine.capacity s) {x : EventUnit}
    (hx : u.events = x) (ha : x.active = s.events.active) (hk : x.acked = s.events.acked) :
    { (endUpdate none u).events with active := s.events.active, acked := s.events.acked } =
      x.takeIf (s.table.overcommit && decide (Machine.sumHeld
          (endUpdate none u) ≤ Machine.capacity s)) .overcommitClear none none
        (some (valueOf (Machine.sumHeld (endUpdate none u)))) s.time.ms := by
  have log := h.log_of_unset none hunset
  rw [hx] at log
  exact EventUnit.of_log log (by simpa using ha) (by simpa using hk)

theorem announceEvents_conditions (s : State) (j : Nat) (n : Byte) (rejoins : Bool) :
    ((eventsOnCheck s j).takeIf rejoins .peerRejoined (some j) (some n)
        (some (valueOf (entryAt s j).stored.held)) s.time.ms).active
        = s.events.active
      ∧ ((eventsOnCheck s j).takeIf rejoins .peerRejoined (some j) (some n)
          (some (valueOf (entryAt s j).stored.held)) s.time.ms).acked
        = s.events.acked := by
  obtain ⟨active, acked⟩ := parityEvent_conditions s j s.events
  simpa using ⟨active, acked⟩

theorem rejoined_length (s : State) (j : Nat) : (s.rejoined j).table.entries.length = s.table.entries.length := by
  unfold State.rejoined
  split <;> simp

theorem Announced.rejoined_entries (h : Announced j n true s v) (full : FullTable s) (hj : j < 24)
    (hr : Rejoins s j cls lease) :
    v.table.entries = (s.rejoined j).table.entries := by
  obtain ⟨-, -, hs, hstatus⟩ := hr
  refine entries_ext (h.length.trans (rejoined_length s j).symm) fun i => ?_
  rw [entryAt_rejoined (by rw [full]; exact hj)]
  by_cases hi : i = j
  · subst hi
    rw [h.own, if_pos ⟨rfl, by simp [hstatus, (fine_of_not_suspect hs).2]⟩]
    rfl
  · rw [h.other i hi, if_neg fun both => hi both.1]

theorem Announced.checked_entries (h : Announced j n false s v) (full : FullTable s) (hj : j < 24) :
    v.table.entries = s.table.entries.set j (entryOnCheck s j) := by
  refine entries_ext (s := { s with table := { s.table with entries := s.table.entries.set j (entryOnCheck s j) } })
    (h.length.trans (List.length_set ..).symm) fun i => ?_
  by_cases hi : i = j
  · subst hi
    rw [h.own, entryAt, List.getElem?_set_self (by rw [full]; exact hj)]
    rfl
  · rw [h.other i hi, entryAt, entryAt, List.getElem?_set_ne fun h => hi h.symm]

/-! ## With an answer -/

theorem announceReceived_decided
    (hin : s.line.inbox = { frame := { source := j, body := .announce n f pr cls lease }, reservation := r } :: rest)
    (h : DecidedAt s j n r k) (hs : s.mc.station = .active) :
    announceReceived s =
      endUpdate none (answerAnnounce k j n f pr cls lease (checkAllParity (takeAnnounce j n cls lease (popInbox s)))) := by
  rw [announceReceived_of_head hin, decisionSlot_of_decided h, decideAnswer_of_active]
  simpa [popInbox] using hs

/-- The whole of an ANNOUNCE answered with OBJECT. -/
theorem Refused.ended (h : Refused k j n reason rejoins s u)
    (hin : s.line.inbox = { frame := { source := j, body := .announce n f pr cls lease }, reservation := r } :: rest) :
    AnswerDecided k j n (.object reason) false (endUpdate none u)
      ∧ (∀ m, (entryAt (endUpdate none u) j).stored.earmark = some m → m.number ≠ n)
      ∧ entryAt (endUpdate none u) j = (entryOnAnnounce s j rejoins).without n
      ∧ (∀ i < 24, i ≠ j → entryAt (endUpdate none u) i = if i = s.mc.identity.number then entryAt s i else entryOnCheck s i)
      ∧ ((s.table.overcommit = true ∨ sumHeld s ≤ capacity s) →
          { (endUpdate none u).events with active := s.events.active, acked := s.events.acked } =
            (s.parityEvents j ((eventsOnCheck s j).takeIf rejoins .peerRejoined (some j) (some n)
              (some (valueOf (entryAt s j).stored.held)) s.time.ms)).takeIf
              (s.table.overcommit && decide (sumHeld (endUpdate none u) ≤ capacity s)) .overcommitClear none none
              (some (valueOf (sumHeld (endUpdate none u)))) s.time.ms)
      ∧ (endUpdate none u).line.inbox = rest ∧ (endUpdate none u).mc = s.mc ∧ (endUpdate none u).pins = s.pins
      ∧ (endUpdate none u).time = s.time ∧ (endUpdate none u).port = s.port := by
  obtain ⟨inbox, mc, pins, time, port, entries, answers, list, -⟩ := endUpdate_surroundings h.taking none rfl
  have own := (entryAt_congr entries j).trans h.own
  obtain ⟨active, acked⟩ := announceEvents_conditions s j n rejoins
  refine ⟨h.answer.congr answers list, fun m hm => ?_, own,
      fun i hi hne => (entryAt_congr entries i).trans (h.other i hi hne),
    fun hunset => ?_, ?_, mc, pins, time, port⟩
  · rw [own] at hm
    exact Entry.without_number hm
  · refine h.taking.events_of_unset (hunset.imp_right h.sumHeld_le.trans) h.events ?_ ?_
    · rw [(parityEvents_conditions s j _).1, active]
    · rw [(parityEvents_conditions s j _).2, acked]
  · rw [inbox, h.inbox, hin]
    rfl

/-- An entry that is SUSPECT on its check makes the decision find one (R21). -/
theorem Weighed.anySuspect (h : Weighed j n rejoins s w) (hr : rejoins = true → suspectOnCheck s j = false)
    (hsus : ∃ i < 24, i ≠ s.mc.identity.number ∧ suspectOnCheck s i = true) : anySuspect w = true := by
  obtain ⟨i, hi, hown, hs⟩ := hsus
  refine List.any_eq_true.2 ⟨view w i, List.mem_map.2 ⟨i, List.mem_range.2 hi, rfl⟩, ?_⟩
  have peer : isPeer w i = true := isPeer_of_ne (by rw [h.taking.mc]; exact hown)
  rw [view_suspect, peer, Bool.true_and]
  by_cases hij : i = j
  · subst hij
    have not : rejoins ≠ true := fun hyes => by simp [hr hyes] at hs
    rw [h.own, entryOnAnnounce, if_neg not]
    exact hs
  · rw [h.other i hi hij, if_neg hown]
    exact hs

/-- With a SUSPECT entry, or straps that differ, the answer is an OBJECT (R72). -/
theorem Weighed.rowFound_of_suspect {agrees : Bool} (h : Weighed j n rejoins s w)
    (hr : rejoins = true → suspectOnCheck s j = false)
    (hsus : ∃ i < 24, i ≠ s.mc.identity.number ∧ suspectOnCheck s i = true)
    (hagrees : agrees = true ↔ cls = s.mc.identity.capacityClass ∧ lease = s.mc.identity.leaseSelect) (f : Nat) :
    rowFound w f cls lease = some (if agrees then .suspect else .mismatch) := by
  have feed := sameFeed_iff w cls lease
  rw [h.taking.mc, ← hagrees] at feed
  cases ha : agrees with
  | true => exact Machine.rowFound_of_suspect (feed.2 ha) (h.anySuspect hr hsus)
  | false =>
    refine rowFound_of_mismatch ?_
    rw [← Bool.not_eq_true, feed, ha]
    exact Bool.false_ne_true

/-- SUSPECT_PRESENT is active once an OBJECT has followed a failed check. -/
theorem Refused.suspectPresent (h : Refused k j n reason rejoins s u) (hr : rejoins = true → suspectOnCheck s j = false)
    (hsus : ∃ i < 24, i ≠ s.mc.identity.number ∧ suspectOnCheck s i = true) :
    (endUpdate none u).events.active.suspectPresent = true := by
  obtain ⟨-, -, suspect⟩ := endUpdate_upToDate none u
  obtain ⟨-, mc, -, -, -, entries, -⟩ := endUpdate_surroundings h.taking none rfl
  obtain ⟨i, hi, hown, hs⟩ := hsus
  rw [suspect]
  refine List.any_eq_true.2 ⟨view (endUpdate none u) i, List.mem_map.2 ⟨i, List.mem_range.2 hi, rfl⟩, ?_⟩
  have peer : isPeer (endUpdate none u) i = true := isPeer_of_ne (by rw [mc]; exact hown)
  rw [view_suspect, peer, Bool.true_and, entryAt_congr entries]
  by_cases hij : i = j
  · subst hij
    have not : rejoins ≠ true := fun hyes => by simp [hr hyes] at hs
    rw [h.own, Entry.without_suspect, entryOnAnnounce, if_neg not]
    exact hs
  · rw [h.other i hi hij, if_neg hown]
    exact hs

/-- The whole of an ANNOUNCE answered with ASSENT. -/
theorem Welcomed.ended (h : Welcomed k j n f pr w u) (hw : Weighed j n ((entryAt s j).stored.status != .absent) s w)
    (fine : NoCheckFails s)
    (hnone : s.alloc.claim = none) (hsus : suspectOnCheck s j = false)
    (hfits : s.table.overcommit = false → sumHeld s ≤ capacity s)
    (hin : s.line.inbox = { frame := { source := j, body := .announce n f pr cls lease }, reservation := r } :: rest) :
    AnswerDecided k j n .assent (decide (ceiling w f < s.alloc.share.held)) (endUpdate none u)
      ∧ (endUpdate none u).alloc.share.held = min s.alloc.share.held (ceiling w f)
      ∧ (ceiling w f < s.alloc.share.held →
          (endUpdate none u).pilot.requested = (if s.pilot.faultIn then 0 else
            min (ceiling w f) (min s.alloc.share.lastTx s.alloc.share.demand))
            ∧ (endUpdate none u).outbox.hold.occupancy = .filled
            ∧ ∀ a ∈ (endUpdate none u).alloc.holdAttempt, a.afterCut = false)
      ∧ (s.alloc.share.held ≤ ceiling w f →
          (endUpdate none u).pilot = s.pilot ∧ (endUpdate none u).outbox.hold = s.outbox.hold
            ∧ (endUpdate none u).alloc.holdAttempt = s.alloc.holdAttempt)
      ∧ { (endUpdate none u).events with active := s.events.active, acked := s.events.acked } =
          ((s.events.takeIf ((entryAt s j).stored.status != .absent) .peerRejoined (some j) (some n)
              (some (valueOf (entryAt s j).stored.held)) s.time.ms).takeIf
            (decide (ceiling w f < s.alloc.share.held)) .squeezed (some j) (some n)
            (some (valueOf (ceiling w f))) s.time.ms).takeIf
            (s.table.overcommit && decide (sumHeld (endUpdate none u) ≤ capacity s)) .overcommitClear none none
            (some (valueOf (sumHeld (endUpdate none u)))) s.time.ms
      ∧ entryAt (endUpdate none u) j =
          { stored :=
              { status := .pendingJoin, held := 0, floor := f, priority := pr,
                holdSeq := (entryAt s j).stored.holdSeq, openClaim := none,
                earmark := some { kind := .floor, number := n, amount := f }, localFault := false,
                overdrawn := false }
            parityGood := true, age := 0, expiry := 64, suspect := false }
      ∧ (∀ i < 24, i ≠ j → entryAt (endUpdate none u) i = entryAt s i)
      ∧ (endUpdate none u).line.inbox = rest ∧ (endUpdate none u).mc = s.mc ∧ (endUpdate none u).pins = s.pins
      ∧ (endUpdate none u).time = s.time ∧ (endUpdate none u).port = s.port := by
  obtain ⟨alloc, holdSlot⟩ := hw.unclaimed hnone
  have pilot := hw.pilot
  have held : w.alloc.share.held = s.alloc.share.held := by rw [alloc]
  have overcommit : u.table.overcommit = s.table.overcommit := h.overcommit.trans hw.taking.overcommit
  have room : capacity u = capacity s := capacity_congr (by rw [h.mc, hw.taking.mc])
  have time : u.time = s.time := h.time.trans hw.taking.time
  have unset : u.table.overcommit = true ∨ sumHeld u ≤ capacity u := by
    rw [overcommit, room]
    cases ho : s.table.overcommit with
    | true => exact .inl rfl
    | false => exact .inr ((h.sumHeld_le hw).trans (hfits ho))
  obtain ⟨heldEnd, -, holdEnd, pilotEnd, portEnd⟩ := endUpdate_own_of_unset none unset
  have attemptEnd : (endUpdate none u).alloc.holdAttempt = u.alloc.holdAttempt := by simp
  have entries : (endUpdate none u).table.entries = u.table.entries := by simp
  have sum := (sumHeld_endUpdate none u).trans (sumHeld_settle_of_unset none unset)
  have events : w.events = s.events.takeIf ((entryAt s j).stored.status != .absent) .peerRejoined (some j) (some n)
      (some (valueOf (entryAt s j).stored.held)) s.time.ms := by
    rw [hw.events, parityEvents_of_fine fine, eventsOnCheck, parityEvent_of_not_suspect hsus]
  refine ⟨?_, by rw [heldEnd, h.held, held], fun hlt => ?_, fun hle => ?_, ?_, ?_, fun i hi hne => ?_,
      by simp [h.inbox, hw.inbox, hin],
    by simp [h.mc, hw.taking.mc], by simp [h.pins, hw.taking.pins], by simp [time], by rw [portEnd, h.port, hw.taking.port]⟩
  · rw [← held]
    exact h.answer.congr (by simp) (by simp)
  · rw [← held] at hlt
    have squeezed := h.squeezed hlt
    rw [pilot, alloc] at squeezed
    rw [pilotEnd, holdEnd, attemptEnd]
    exact squeezed
  · rw [← held] at hle
    have unsqueezed := h.unsqueezed hle
    rw [pilot, holdSlot, alloc] at unsqueezed
    rw [pilotEnd, holdEnd, attemptEnd]
    exact unsqueezed
  · refine EventUnit.of_log ?_ (by simp) (by simp)
    rw [sum, endUpdate, tryStart_events, settle_log_of_unset none unset, EventUnit.takeIf_log, h.events, events,
        overcommit, room, time,
      hw.taking.time, held]
    simp only [EventUnit.takeIf_log]
  · rw [entryAt_congr entries, h.own, hw.own, pendingEntry, entryOnAnnounce]
    split
    · rfl
    · rw [entryOnCheck, hsus]
      rfl
  · rw [entryAt_congr entries, h.other i hne, hw.other i hi hne]
    split
    · rfl
    · exact (entryOnCheck_of_fine (fine i hi (isPeer_of_ne ‹_›))).2

/-- Settles O40. -/
theorem announceIsTakenAndAnswered : Obligations.AnnounceIsTakenAndAnswered := by
  refine ⟨fun j n f pr cls lease r rest s hin hj hp full hnot => ⟨fun hyes => ?_, fun hno => ?_⟩,
    fun j n f pr cls lease r rest rejoins s hin hj hown full hl hs fine k hk hk4 hr reason hrow => ?_,
    fun j n f pr cls lease r rest agrees rejoins s hin hj hown full hl hs k hk hk4 hsus hagrees hr => ?_,
    fun j n f pr cls lease r rest s hin hj hown full hl hs fine k hk hk4 hrow hfits => ?_⟩
  · have effect := announceReceived_undecided hin hnot
    have taken : Announced j n true s (takeAnnounce j n cls lease (popInbox s)) :=
        announced hp (by rw [full]; exact hj) (iff_of_true rfl hyes)
    generalize takeAnnounce j n cls lease (popInbox s) = v at *
    obtain ⟨inbox, mc, pins, time, port, entries, answers, -⟩ := endUpdate_surroundings taken.taking none rfl
    obtain ⟨active, acked⟩ := announceEvents_conditions s j n true
    refine ⟨_, congrArg Host.Outcome.next effect, ?_, fun hunset => ?_, fun m hm k hfor ha => ?_,
        fun c hc hroll d hd => ?_, ?_, mc, pins, time,
      port⟩
    · exact entries.trans (taken.rejoined_entries full hj hyes)
    · have ended := taken.taking.events_of_unset (hunset.imp_right taken.sumHeld_le.trans) taken.events active acked
      have still : eventsOnCheck s j = s.events := parityEvent_of_not_suspect hyes.2.2.1 s.events
      rw [still] at ended
      exact ended
    · rw [answerAt_congr answers]
      exact taken.gone rfl m hm k hfor ha
    · obtain ⟨c', hc'⟩ := Option.isSome_iff_exists.1 (taken.claimed.trans (by rw [hc]; rfl))
      obtain same | ⟨-, gone⟩ := endUpdate_claim_or_abandoned none hc'
      · obtain rfl : c' = d := Option.some_inj.1 (same.symm.trans hd)
        exact taken.struck rfl c hc c' hc'
      · rw [gone] at hd
        cases hd
    · rw [inbox, taken.inbox, hin]
      rfl
  · have effect := announceReceived_undecided hin hnot
    have not : ¬Rejoins s j cls lease := fun ⟨hcls, hlease, hsus, hstatus⟩ => by
      obtain h | h | h | h := hno
      · exact h hcls
      · exact h hlease
      · exact Bool.false_ne_true (hsus.symm.trans h)
      · exact hstatus h
    have taken : Announced j n false s (takeAnnounce j n cls lease (popInbox s)) :=
      announced hp (by rw [full]; exact hj) (iff_of_false (by simp) not)
    generalize takeAnnounce j n cls lease (popInbox s) = v at *
    obtain ⟨inbox, mc, pins, time, port, entries, answers, -⟩ := endUpdate_surroundings taken.taking none rfl
    obtain ⟨active, acked⟩ := announceEvents_conditions s j n false
    refine ⟨_, congrArg Host.Outcome.next effect, entries.trans (taken.checked_entries full hj), fun hunset => ?_, ?_,
        mc, pins, time, port, ?_⟩
    · exact taken.taking.events_of_unset (hunset.imp_right taken.sumHeld_le.trans) taken.events active acked
    · rw [inbox, taken.inbox, hin]
      rfl
    · rw [answers, (taken.kept rfl).1]
  · have effect := announceReceived_decided (cls := cls) (lease := lease) hin hk hs
    have peer := isPeer_of_ne hown
    have taken : Announced j n rejoins s (takeAnnounce j n cls lease (popInbox s)) :=
        announced peer (by rw [full]; exact hj) hr
    have weighed := taken.weighed hs hj peer full
    generalize checkAllParity (takeAnnounce j n cls lease (popInbox s)) = w at *
    have row := (weighed.rowFound_eq full hj fine hown hr f).trans hrow
    rw [answerAnnounce_of_row row] at effect
    have refused := weighed.refused hj peer (by rw [hl]; exact hk4) reason
    obtain ⟨answer, number, own, other, events, surroundings⟩ := refused.ended hin
    refine ⟨_, congrArg Host.Outcome.next effect, answer, number, own, fun i hi hne => ?_, fun hunset => ?_, surroundings⟩
    · rw [other i hi hne]
      split
      · rfl
      · exact (entryOnCheck_of_fine (fine i hi (isPeer_of_ne ‹_›))).2
    · have ended := events hunset
      rw [parityEvents_of_fine fine, eventsOnCheck, parityEvent_of_fine (fine j hj peer)] at ended
      exact ended
  · have effect := announceReceived_decided (cls := cls) (lease := lease) hin hk hs
    have peer := isPeer_of_ne hown
    have hr' : rejoins = true ↔ Rejoins s j cls lease := by rw [hr, hagrees, and_assoc]; rfl
    have taken : Announced j n rejoins s (takeAnnounce j n cls lease (popInbox s)) :=
        announced peer (by rw [full]; exact hj) hr'
    have weighed := taken.weighed hs hj peer full
    generalize checkAllParity (takeAnnounce j n cls lease (popInbox s)) = w at *
    have trusted : rejoins = true → suspectOnCheck s j = false := fun h => (hr.1 h).2.1
    have row := weighed.rowFound_of_suspect trusted hsus hagrees f
    rw [answerAnnounce_of_row row] at effect
    have refused := weighed.refused hj peer (by rw [hl]; exact hk4) (if agrees then .suspect else .mismatch)
    obtain ⟨answer, number, own, other, events, surroundings⟩ := refused.ended hin
    exact ⟨_, congrArg Host.Outcome.next effect, answer, number, own, other, refused.suspectPresent trusted hsus,
        events, surroundings⟩
  · obtain ⟨⟨hcls, hlease⟩, trusted, hnone⟩ := announceRow_none hrow
    have effect := announceReceived_decided (cls := cls) (lease := lease) hin hk hs
    have peer := isPeer_of_ne hown
    have hsus : suspectOnCheck s j = false :=
      (entryOnCheck_of_fine (fine j hj peer)).1.trans (suspect_of_trusted hj hown trusted)
    have hr : ((entryAt s j).stored.status != .absent) = true ↔ Rejoins s j cls lease := by
      simp [Rejoins, hcls, hlease, hsus]
    have taken : Announced j n ((entryAt s j).stored.status != .absent) s (takeAnnounce j n cls lease (popInbox s)) :=
      announced peer (by rw [full]; exact hj) hr
    have weighed := taken.weighed hs hj peer full
    generalize checkAllParity (takeAnnounce j n cls lease (popInbox s)) = w at *
    have row := (weighed.rowFound_eq full hj fine hown hr f).trans hrow
    rw [answerAnnounce_of_none row] at effect
    have alike := weighed.readsAlike fun i hi => weighed.entries full hj fine hown
      (by simp [hsus]) hi
    have above := alike.ceiling (by rw [weighed.share]) hnone trusted f
    have welcomed : Welcomed k j n f pr w (assentToJoin k j n f pr w) :=
      assentToJoin_welcomed (by rw [weighed.taking.mc]; exact hs) (by rw [weighed.length]; exact hj)
          (by rw [weighed.answers, hl]; exact hk4)
    have spec := welcomed.ended weighed fine hnone hsus hfits hin
    rw [above] at spec
    exact ⟨_, congrArg Host.Outcome.next effect, spec⟩

end Sys2Proof.Machine
end
